-- ==== Sys2Proof/Word.lean ====
section
/-! DEFINITION. The plain words of the PX412: bytes, pack times, sets of module positions and of conditions. -/
namespace Sys2Proof

/-- A byte of the pack link, of the chain or of a page. -/
abbrev Byte := BitVec 8

/-- A pack time in microseconds, modulo 2^32 (R38). -/
abbrev Time := BitVec 32

/-- A set of module positions; bit k stands for position k (R202). -/
abbrev ModMask := BitVec 12

/-- A set of conditions; bit i stands for the condition of index i (R202). -/
abbrev CondMask := BitVec 22

end Sys2Proof
end

