-- ==== Sys2Proof/Syntax.lean ====
section
/-! DEFINITION. The commands of the PX412: one constructor for each row of spec/opcode_table.json.
The rows carry no operands; each constructor carries what the rule of its row reads from outside the part. A request carries
the tag of its frame (R191) and its arguments in the widths of R202. -/
namespace Sys2Proof

/-- A command: a clock event, an event at one of the part's connections, or a request of the pack processor. -/
inductive Instr where
  /-- R150 -/
  | powerOnReset
  /-- R40. `feedback` is the level of the four feedback inputs, `tamper` whether the tamper input is asserted, as sampled. -/
  | tick (feedback : BitVec 4) (tamper : Bool)
  /-- R5 -/
  | slotExpiry (slot : Nat)
  /-- R20 -/
  | freshnessExpiry (cell : Nat)
  /-- R61 -/
  | referenceExpiry (cell : Nat)
  /-- R42 -/
  | samplingInstant
  /-- R43. `instant` names the conversion delivered; the readings are the converter's, before the clamping of R43. -/
  | conversionDelivered (instant : Time) (current : Int) (pack link : Nat)
  /-- R47 -/
  | overCurrentRunComplete
  /-- R53. The item whose deadline is reached: `some i` for cell i, `none` for the summary instant. -/
  | alignDeadline (target : Option Nat)
  /-- R24 -/
  | sampleBroadcastSent
  /-- R25 -/
  | conversionWindowEnd
  /-- R26. The bytes of the reply, start byte first. -/
  | chainReplyComplete (bytes : List Byte)
  /-- R26 -/
  | replyWindowEnd
  /-- R36 -/
  | chainPowerUpDone
  /-- R95 -/
  | feedbackAccepted (channel : Nat)
  /-- R94 -/
  | pullInEnd (channel : Nat)
  /-- R97 -/
  | makeMaxExpiry (channel : Nat)
  /-- R101 -/
  | breakMaxExpiry (channel : Nat)
  /-- R107 -/
  | settlingEnd (channel : Nat)
  /-- R119 -/
  | stepTimerExpiry
  /-- R161 -/
  | sleepTimerExpiry
  /-- R160 -/
  | hostArrival
  /-- R165 -/
  | wakePulseEnd
  /-- R172 -/
  | nvStepComplete
  /-- R180 -/
  | verificationComplete
  /-- R187 -/
  | tamperAccepted
  /-- R186 -/
  | tamperReleaseAccepted
  /-- R192 -/
  | receiverIdleWaitEnd
  /-- R192 -/
  | frameGapTimeout
  /-- R193 -/
  | frameComplete
  /-- R195. A frame whose type is no request kind. -/
  | unknownRequest (type tag : Byte) (payload : List Byte)
  /-- R196 -/
  | transmitFrameEnd
  /-- R3 -/
  | scheduleStart (tag : Byte)
  /-- R4 -/
  | scheduleStop (tag : Byte)
  /-- R7 -/
  | sampleNow (tag : Byte) (mask : BitVec 16)
  /-- R17 -/
  | readSweep (tag : Byte)
  /-- R21 -/
  | readCells (tag first count : Byte)
  /-- R34 -/
  | chainEnumerate (tag : Byte)
  /-- R37 -/
  | readModules (tag : Byte)
  /-- R49 -/
  | readAnalog (tag : Byte)
  /-- R70 -/
  | resetReferences (tag scope : Byte)
  /-- R71 -/
  | readResistance (tag first count : Byte)
  /-- R88 -/
  | readConditions (tag : Byte)
  /-- R89 -/
  | clearConditions (tag : Byte) (set : BitVec 32)
  /-- R90 -/
  | setAlertEnable (tag : Byte) (set : BitVec 32)
  /-- R110 -/
  | saveWear (tag : Byte)
  /-- R111 -/
  | clearContactorFault (tag channel : Byte)
  /-- R112 -/
  | readContactors (tag : Byte)
  /-- R116 -/
  | runSequence (tag id : Byte)
  /-- R129 -/
  | openAll (tag : Byte)
  /-- R132 -/
  | readRunner (tag : Byte)
  /-- R139 -/
  | setCounter (tag number kind flags : Byte) (value reload : BitVec 24)
  /-- R140 -/
  | clearOverflow (tag : Byte) (numbers : List Byte)
  /-- R141 -/
  | readCounters (tag : Byte)
  /-- R148 -/
  | logRead (tag n : Byte)
  /-- R149 -/
  | logRelease (tag n : Byte)
  /-- R154 -/
  | sleep (tag : Byte)
  /-- R179 -/
  | updateBegin (tag : Byte) (version : BitVec 32) (length : BitVec 16) (imageTag : BitVec 128)
  /-- R180 -/
  | updateChunk (tag : Byte) (offset : BitVec 16) (data : List Byte)
  /-- R180 -/
  | updateCommit (tag : Byte)
  /-- R182 -/
  | updateAbort (tag : Byte)
  /-- R183 -/
  | activate (tag : Byte)
  /-- R189 -/
  | tamperClear (tag : Byte)
  /-- R190 -/
  | readProfileInfo (tag : Byte)
  /-- R199 -/
  | status (tag : Byte)
  /-- R200 -/
  | identify (tag : Byte)
  /-- R201 -/
  | resetPart (tag : Byte)
  /-- R192 -/
  | linkByteReceived (byte : Byte)
deriving DecidableEq, Repr

end Sys2Proof
end

