-- ==== Sys2Proof/Decode.lean ====
section
/-! DEFINITION. The commands that a word spells by the opcode table's bits. No row of spec/opcode_table.json gives bits (its rows
are events and requests, not words), so no word spells a command (log 23). -/
namespace Sys2Proof

/-- The command an instruction word of the opcode table spells: none, since no row of the table gives bits. -/
def decodeTableWord (_nbits _w : Nat) : Option Instr := none

end Sys2Proof
end

