-- ==== Sys2Proof/Machine/Blocks.lean ====
section
/-! DEFINITION. The data of the PX412's seventeen blocks: enumerations, the profile, and one record for each block, each with its
reset value. The order of the constructors of an enumeration is the order of its codes in R202. -/
namespace Sys2Proof.Machine

/-! ## Enumerations -/

/-- The six modes of the part (R150). -/
inductive Mode where
  | startup | run | sleepEntry | sleep | sleepSweep | waking
deriving DecidableEq, Repr

/-- The source of a sweep (R10). -/
inductive SweepSource where
  | event | demand | slot (n : Nat) | sleep
deriving DecidableEq, Repr

/-- The four states of a sweep record (spec/01, "The life of a sweep"). -/
inductive SweepStage where
  | broadcasting | reading | aligning | done
deriving DecidableEq, Repr

/-- The mark of a cell-table range (R18). -/
inductive RangeMark where
  | normal | outOfRange
deriving DecidableEq, Repr

/-- How an aligned current was obtained (spec/03, "Aligning a cell"). -/
inductive AlignMark where
  | exact | interpolated | heldOld | heldNew | saturated
deriving DecidableEq, Repr

/-- The resistance mark (R59). -/
inductive ResMark where
  | none | noReference | smallStep | formed | clamped | negative | held
deriving DecidableEq, Repr

/-- The breach state of a cell (R73). -/
inductive BreachState where
  | normal | ovPending | ov | uvPending | uv
deriving DecidableEq, Repr

/-- The outcome of a READ or an IDENT, with NONE before the first (R26, R29). -/
inductive ReadOutcome where
  | none | good | noReply | badCrc | tagMismatch
deriving DecidableEq, Repr

/-- The chain state (R23). -/
inductive ChainState where
  | poweredDown | powering | idle | sweeping | enumerating
deriving DecidableEq, Repr

/-- The twenty-two conditions, in the order of their indices (spec/05, "The condition set"). -/
inductive Cond where
  | cellOv | cellUv | cellStale | moduleLost | overCurrent | analogFault | contactorFault | logThreshold | tamper | noProfile
  | alignHeld | slotOverrun | chainError | seqDone | seqFailed | counterOverflow | logFull | updateDone | updateFailed
  | linkError | linkOverrun | woke
deriving DecidableEq, Repr

/-- The causes of a trip (R80). -/
inductive TripCause where
  | cellOv | cellUv | overCurrent
deriving DecidableEq, Repr

/-- The contactor states (R92); OPEN is `opened`. -/
inductive KState where
  | opened | closing | closed | opening | closeFailed | dropout | weldSuspect
deriving DecidableEq, Repr

/-- The coil phases (R92). -/
inductive Coil where
  | off | pullIn | hold
deriving DecidableEq, Repr

/-- The roles of a contactor channel (spec/06, "The four channels"). -/
inductive Role where
  | mainPos | mainNeg | precharge | aux | unused
deriving DecidableEq, Repr

/-- The feedback polarity of a channel (spec/06, "The four channels"). -/
inductive Polarity where
  | highClosed | lowClosed
deriving DecidableEq, Repr

/-- The wear-save state (R110). -/
inductive WearSave where
  | idle | queued | writing
deriving DecidableEq, Repr

/-- The kinds of event a counter counts (spec/08, "What the counters count"). -/
inductive EventKind where
  | none | sweepDone | fullSweepDone | moduleMiss | cellBreachEnter | alignHeld | slotOverrun | contactorClosed | hardBreak
  | seqFailed | sleepSweep | linkError
deriving DecidableEq, Repr

/-- The conditions of a SKIP_IF step (spec/07). -/
inductive SkipCond where
  | linkAtLeast (p : Nat) | closed (k : Nat) | opened (k : Nat) | allFresh
deriving DecidableEq, Repr

/-- The steps of a sequence (spec/07). -/
inductive SeqStep where
  | close (k : Nat) | opn (k : Nat) | wait (t : Nat) | awaitLink (p t : Nat) | awaitDecay (p t : Nat)
  | skipIf (c : SkipCond) | sweep | endSeq
deriving DecidableEq, Repr

/-- The five terms of the closing gate (R117). -/
inductive GateTerm where
  | allFresh | noBreach | noContactorFault | noOverCurrent | noActivation
deriving DecidableEq, Repr

/-- The ten reasons for which a sequence fails (spec/07, "Failure"). -/
inductive SeqReason where
  | gate | closeFailed | weldSuspect | linkTimeout | decayTimeout | noPackVoltage | sweepFailed | fault | trip | aborted
deriving DecidableEq, Repr

/-- What the current step of a running sequence waits for (R115). -/
inductive Awaited where
  | nothing | contactor (k : Nat) | arrival | sweep | timer
deriving DecidableEq, Repr

/-- The reasons for which an update fails (R181). -/
inductive UpdReason where
  | tag | invalid | nvBusy | tamper
deriving DecidableEq, Repr

/-- The states of an update (R178). -/
inductive UpdState where
  | idle | receiving | verifying | committing
deriving DecidableEq, Repr

/-- The states of an activation (R178). -/
inductive ActState where
  | none | queued | writing | owed
deriving DecidableEq, Repr

/-- The state of a tamper clear's write (R186). -/
inductive ClearState where
  | none | waiting | inFlight | void
deriving DecidableEq, Repr

/-- One of two alternatives: bank A or B, anchor slot A or B, the first or second wear page (R168 to R170). -/
inductive AB where
  | a | b
deriving DecidableEq, Repr

/-- The status of a bank (R168). -/
inductive BankStatus where
  | incomplete | rejected | belowFloor | valid
deriving DecidableEq, Repr

/-- How far the selection stage of STARTUP has come: nothing read, waiting for the operations it queued, ended (R175). -/
inductive SelStage where
  | unread | waiting | ended
deriving DecidableEq, Repr

/-- The thirteen status codes (R195). -/
inductive Status where
  | ok | accepted | busy | live | notReady | badArgument | unknownRequest | tampered | rollback | badLength | outOfOrder
  | updateOpen | noPending
deriving DecidableEq, Repr

/-! ## The profile -/

/-- A schedule slot of a profile (spec/01, "Schedule slots and their countdowns"); `full` is the kind FULL. -/
structure SlotCfg where
  enabled : Bool
  full : Bool
  mask : ModMask
  period : Nat
  phase : Nat
  sleepEligible : Bool
deriving DecidableEq, Repr

/-- A contactor channel's fields (spec/06, "The four channels"). -/
structure ChanCfg where
  role : Role
  pullIn : Nat
  holdWidth : Nat
  makeMax : Nat
  breakMax : Nat
  polarity : Polarity
deriving DecidableEq, Repr

/-- A counter's configuration (spec/08). -/
structure CounterCfg where
  kind : EventKind
  value : BitVec 24
  reload : BitVec 24
  snap : Bool
deriving DecidableEq, Repr

/-- The operating profile, field by field of R205. A trip action is true for OPEN_ALL. -/
structure Profile where
  moduleCount : Nat
  cellCounts : List Nat
  autostart : Bool
  slots : List SlotCfg
  convOffset : Nat
  hopDelay : Nat
  cellSpacing : Nat
  period : Nat
  ocLimit : Nat
  ocTime : Nat
  freshness : Nat
  minStep : Nat
  refMaxAge : Nat
  filterShift : Nat
  ovLimit : Nat
  uvLimit : Nat
  hysteresis : Nat
  debounce : Nat
  tripOv : Bool
  tripUv : Bool
  tripOc : Bool
  chans : List ChanCfg
  hardBreakLimit : Nat
  sequences : List (List SeqStep)
  counters : List CounterCfg
  logThreshold : Nat
  enables : CondMask
  sleepPeriod : Nat
  sleepOv : Nat
  sleepUv : Nat
  selfDischarge : Nat
deriving DecidableEq, Repr

/-- A slot of the factory profile: disabled (R176). The spec gives a disabled slot no further parameter: it is FULL with an empty mask,
period 1, phase 0, and not sleep-eligible (DESIGN CHOICE, log 43). -/
def factorySlot : SlotCfg :=
  { enabled := false, full := true, mask := 0, period := 1, phase := 0, sleepEligible := false }

/-- A channel of the factory profile: UNUSED, HIGH_CLOSED, the other fields at the lower ends of their ranges (R91). -/
def factoryChan : ChanCfg :=
  { role := .unused, pullIn := 10, holdWidth := 64, makeMax := 5, breakMax := 5, polarity := .highClosed }

/-- A counter of the factory profile (R133). -/
def factoryCounter : CounterCfg := { kind := .none, value := 0, reload := 0, snap := false }

/-- The factory profile (R176, with the defaults of the chapters that own the parameters). Its enable set is
{TAMPER, NO_PROFILE}, indices 8 and 9 (R84). -/
def factoryProfile : Profile where
  moduleCount := 0
  cellCounts := List.replicate 12 0
  autostart := false
  slots := List.replicate 8 factorySlot
  convOffset := 40
  hopDelay := 6
  cellSpacing := 12
  period := 100
  ocLimit := 15000
  ocTime := 10
  freshness := 200
  minStep := 200
  refMaxAge := 2000
  filterShift := 2
  ovLimit := 42000
  uvLimit := 28000
  hysteresis := 300
  debounce := 2
  tripOv := false
  tripUv := false
  tripOc := false
  chans := List.replicate 4 factoryChan
  hardBreakLimit := 500
  sequences := List.replicate 6 []
  counters := List.replicate 8 factoryCounter
  logThreshold := 48
  enables := 0x300
  sleepPeriod := 3600
  sleepOv := 43000
  sleepUv := 27000
  selfDischarge := 200

/-! ## Pack time base -/

/-- TIM: pack time and the pack time of the next tick (R38, R40). -/
structure Tim where
  packTime : Time
  nextTick : Time
deriving DecidableEq, Repr

/-- After reset pack time is 0 and the first tick falls at 1000 (R38, R40). -/
def timReset : Tim := { packTime := 0, nextTick := 1000 }

/-! ## Sampling scheduler -/

/-- A sweep record (R10). -/
structure SweepRec where
  tag : Byte
  source : SweepSource
  requested : ModMask
  received : ModMask
  tb : Option Time
  unreported : Bool
  stage : SweepStage
deriving DecidableEq, Repr

/-- An aligned current, absent for a HELD_NEW with an empty ring, with its mark (R53). -/
structure Aligned where
  current : Option Int
  mark : AlignMark
deriving DecidableEq, Repr

/-- The last-sweep summary (R13). The minimum and maximum are a global cell index and its voltage code. -/
structure Summary where
  tag : Byte
  source : SweepSource
  tb : Option Time
  requested : ModMask
  received : ModMask
  minCell : Option (Nat × Nat)
  maxCell : Option (Nat × Nat)
  sum : BitVec 32
  aligned : Option Aligned
deriving DecidableEq, Repr

/-- SCH (R2). -/
structure Sch where
  running : Bool
  countdowns : List (Option Nat)
  suspended : Bool
  pendEvent : Option ModMask
  pendDemand : Option ModMask
  pendSlots : List (Option ModMask)
  sweep : Option SweepRec
  summary : Option Summary
  sumAlign : Option Aligned
deriving DecidableEq, Repr

/-- R2. -/
def schReset : Sch where
  running := false
  countdowns := List.replicate 8 none
  suspended := false
  pendEvent := none
  pendDemand := none
  pendSlots := List.replicate 8 none
  sweep := none
  summary := none
  sumAlign := none

/-! ## Chain master -/

/-- An entry of the module table (R29). -/
structure ModEntry where
  present : Bool
  misses : Nat
  last : ReadOutcome
  status : Option Byte
  lost : Bool
deriving DecidableEq, Repr

/-- R29. -/
def modReset : ModEntry := { present := false, misses := 0, last := .none, status := none, lost := false }

/-- What the chain master waits for: nothing, the end of the conversion window (R25), or the reply to a READ or an IDENT of one
position with the end of its reply window (R26). -/
inductive ChainWait where
  | nothing
  | window (until_ : Time)
  | read (position : Nat) (until_ : Time)
  | ident (position : Nat) (until_ : Time)
deriving DecidableEq, Repr

/-- CHN (R23). -/
structure Chn where
  st : ChainState
  sweepTag : Byte
  modules : List ModEntry
  wait : ChainWait
  powerUpEnd : Option Time
  readyOwed : Bool
  downWanted : Bool
deriving DecidableEq, Repr

/-- After reset the supply is on and the power-up interval of 5 ms runs (R23, R36). -/
def chnReset : Chn where
  st := .powering
  sweepTag := 0
  modules := List.replicate 12 modReset
  wait := .nothing
  powerUpEnd := some 5000
  readyOwed := false
  downWanted := false

/-! ## Analog channels -/

/-- A ring entry (R43). -/
structure RingEntry where
  time : Time
  current : Int
  pack : Nat
  link : Nat
  saturated : Bool
deriving DecidableEq, Repr

/-- ANA (spec/03, "The analog channels"). `ring` is oldest first. `period` is the current period P in force: a new profile's
takes effect at the next sampling instant (R46). -/
structure Ana where
  sampling : Bool
  period : Nat
  nextInstant : Time
  outstanding : Option Time
  lost : Nat
  ring : List RingEntry
  fault : Bool
  overCurrent : Bool
  run : Nat
  active : Bool
  latestAbove : Option Bool
  readyOwed : Option Nat
deriving DecidableEq, Repr

/-- R41. -/
def anaReset : Ana where
  sampling := true
  period := 100
  nextInstant := 100
  outstanding := none
  lost := 0
  ring := []
  fault := false
  overCurrent := false
  run := 0
  active := false
  latestAbove := none
  readyOwed := none

/-- A pending alignment (R51): its target is a cell, or the summary for `none`. -/
structure AlignItem where
  target : Option Nat
  instant : Time
  deadline : Time
deriving DecidableEq, Repr

/-! ## Cell table -/

/-- A reference (spec/04, "What the unit holds"). -/
structure Ref where
  v : Nat
  i : Int
  age : Nat
  expired : Bool
deriving DecidableEq, Repr

/-- An entry of the cell table (R18). `staleDue` is the model's own: the tick has found the age past the limit and the clearing of
the fresh flag is still to be taken (log 2). -/
structure Cell where
  code : Option Nat
  range : RangeMark
  inst : Option Time
  tag : Byte
  age : Nat
  fresh : Bool
  staleDue : Bool
  current : Option Int
  mark : Option AlignMark
  breach : BreachState
  breachCount : Nat
  ref : Option Ref
  rRaw : Option Nat
  rFilt : Option Nat
  rMark : ResMark
  sleepRef : Option Nat
deriving DecidableEq, Repr

/-- R18. -/
def cellReset : Cell where
  code := none
  range := .normal
  inst := none
  tag := 0
  age := 0
  fresh := false
  staleDue := false
  current := none
  mark := none
  breach := .normal
  breachCount := 0
  ref := none
  rRaw := none
  rFilt := none
  rMark := .none
  sleepRef := none

/-! ## Limit monitor and condition unit -/

/-- LIM: the last-trip record (R80). -/
structure Lim where
  lastTrip : Option (TripCause × Time)
deriving DecidableEq, Repr

/-- CND (R84). -/
structure Cnd where
  set : CondMask
  enables : CondMask
  noticePending : Bool
deriving DecidableEq, Repr

/-- R84. -/
def cndReset : Cnd := { set := 0, enables := 0, noticePending := false }

/-! ## Contactor drivers -/

/-- A contactor channel (R92). `closedFb` is the accepted feedback, true for CLOSED. `acceptDue` is the model's own: the tick has
found the third differing sample in a row and the acceptance is still to be taken (log 2). -/
structure Chan where
  st : KState
  coil : Coil
  pullIn : Option Nat
  superv : Option Nat
  energizeAt : Time
  releaseAt : Time
  closedFb : Bool
  debounce : Nat
  edge : Time
  acceptDue : Bool
  underLoad : Bool
  settling : Option Nat
  lastMake : Option Nat
  lastBreak : Option Nat
  closes : Nat
  hardBreaks : Nat
deriving DecidableEq, Repr

/-- R92. -/
def chanReset : Chan where
  st := .opened
  coil := .off
  pullIn := none
  superv := none
  energizeAt := 0
  releaseAt := 0
  closedFb := false
  debounce := 0
  edge := 0
  acceptDue := false
  underLoad := false
  settling := none
  lastMake := none
  lastBreak := none
  closes := 0
  hardBreaks := 0

/-- KDR (R92, R109, R110). `wearLoaded` is the wear origin, true for LOADED. -/
structure Kdr where
  chans : List Chan
  wearLoaded : Bool
  wearSave : WearSave
  lastSave : Option Time
  suspended : Bool
deriving DecidableEq, Repr

/-- R92. -/
def kdrReset : Kdr where
  chans := List.replicate 4 chanReset
  wearLoaded := false
  wearSave := .idle
  lastSave := none
  suspended := false

/-! ## Sequence runner -/

/-- The state of a running sequence (R115). `tested` says that the step has made its first link test (R122). -/
structure Run where
  id : Nat
  idx : Nat
  start : Time
  timer : Option Nat
  awaited : Awaited
  eventReq : Bool
  tested : Bool
deriving DecidableEq, Repr

/-- The last outcome (R115). -/
inductive SeqOutcome where
  | done (id : Nat) (time : Time)
  | failed (id : Nat) (time : Time) (step : Nat) (reason : SeqReason) (terms : List GateTerm)
deriving DecidableEq, Repr

/-- SEQ (R115). The runner is IDLE when `run` is absent. -/
structure Seq where
  run : Option Run
  last : Option SeqOutcome
deriving DecidableEq, Repr

/-- R115. -/
def seqReset : Seq := { run := none, last := none }

/-! ## Event counters -/

/-- A counter (spec/08, "The counters"). -/
structure Counter where
  kind : EventKind
  value : BitVec 24
  reload : BitVec 24
  snap : Bool
  armed : Bool
deriving DecidableEq, Repr

/-- R133. -/
def counterReset : Counter := { kind := .none, value := 0, reload := 0, snap := false, armed := false }

/-- CTR: the counters and the overflow set, bit n for counter n (R133). -/
structure Ctr where
  counters : List Counter
  overflow : Byte
deriving DecidableEq, Repr

/-- R133. -/
def ctrReset : Ctr := { counters := List.replicate 8 counterReset, overflow := 0 }

/-! ## Capture log -/

/-- The outcome an UPDATE record names (R203). -/
inductive UpdOutcome where
  | committed | activated | failed
deriving DecidableEq, Repr

/-- The fields of a record, kind by kind (spec/08, "The capture log"). A CONTACTOR record keeps the whole nearest ring entry, of which the
table lists the current and the two voltages: its time and its saturated mark are the model's own, and no byte shows them (DESIGN CHOICE,
log 20). -/
inductive RecordBody where
  | contactor (channel : Nat) (left entered : KState) (time : Time) (make brk : Option Nat) (hardBreak : Bool)
      (ring : Option RingEntry)
  | sequence (id : Nat) (failed : Option (Nat × SeqReason)) (time : Time)
  | snapshot (tag : Byte) (tb : Option Time) (minCell maxCell : Option (Nat × Nat)) (sum : BitVec 32)
      (aligned : Option Aligned) (overflow : Byte)
  | tamper (time : Time) (count : Nat) (staging pending : Bool)
  | update (outcome : UpdOutcome) (version : BitVec 32) (reason : Option UpdReason)
deriving DecidableEq, Repr

/-- A record of the log (R143). -/
structure LogRecord where
  number : BitVec 16
  faultClass : Bool
  body : RecordBody
deriving DecidableEq, Repr

/-- LOG, oldest record first (R142). -/
structure CapLog where
  records : List LogRecord
  nextNo : BitVec 16
  threshold : Nat
deriving DecidableEq, Repr

/-- R142. -/
def logReset : CapLog := { records := [], nextNo := 0, threshold := 48 }

/-! ## Power controller -/

/-- The breach kinds a sleep sweep gathers (R162). -/
structure Breaches where
  ov : Bool
  uv : Bool
  selfDischarge : Bool
  chain : Bool
deriving DecidableEq, Repr

/-- No breach kind. -/
def noBreaches : Breaches := { ov := false, uv := false, selfDischarge := false, chain := false }

/-- A wake-cause set (R164); SWEEP_BREACH carries its breach kinds. -/
structure WakeSet where
  host : Bool
  tamper : Bool
  breach : Option Breaches
deriving DecidableEq, Repr

/-- PWR (R150). -/
structure Pwr where
  mode : Mode
  wearEnded : Bool
  enumEnded : Bool
  settleEnded : Bool
  level1 : Option (Bool × CondMask)
  level2 : Bool
  sleepTimer : Option Nat
  divider : Nat
  lastWake : Option WakeSet
  pendHost : Bool
  pendTamper : Bool
  gathered : Breaches
  entryStage : Nat
  keptRun : Bool
  wakeStage : Nat
  waitChain : Bool
  waitAna : Bool
  wokeFlag : Bool
  wakePulse : Option Time
deriving DecidableEq, Repr

/-- R150. The sleep timer is stopped; the divider, to which the spec gives no value at reset, stands at 0 (DESIGN CHOICE, log 18). -/
def pwrReset : Pwr where
  mode := .startup
  wearEnded := false
  enumEnded := false
  settleEnded := false
  level1 := none
  level2 := false
  sleepTimer := none
  divider := 0
  lastWake := none
  pendHost := false
  pendTamper := false
  gathered := noBreaches
  entryStage := 0
  keptRun := false
  wakeStage := 0
  waitChain := false
  waitAna := false
  wokeFlag := false
  wakePulse := none

/-! ## Profile store and NV engine -/

/-- A page of nonvolatile memory: its 64 bytes, or torn by a reset, its contents then undefined (R168, R174). -/
inductive NvPage where
  | data (bytes : List Byte)
  | torn
deriving DecidableEq, Repr

/-- An erased page: all 0xFF (R205). -/
def erasedPage : NvPage := .data (List.replicate 64 0xFF)

/-- A bank: header page, 64 body pages, generation page (R168). -/
structure BankMem where
  header : NvPage
  body : List NvPage
  gen : NvPage
deriving DecidableEq, Repr

/-- An erased bank. -/
def erasedBank : BankMem := { header := erasedPage, body := List.replicate 64 erasedPage, gen := erasedPage }

/-- Nonvolatile memory (R168 to R170). -/
structure NvMem where
  bankA : BankMem
  bankB : BankMem
  anchorA : NvPage
  anchorB : NvPage
  wearA : NvPage
  wearB : NvPage
deriving DecidableEq, Repr

/-- Nonvolatile memory with every page erased: the model's contents at manufacture (DESIGN CHOICE, log 5). -/
def erasedMem : NvMem where
  bankA := erasedBank
  bankB := erasedBank
  anchorA := erasedPage
  anchorB := erasedPage
  wearA := erasedPage
  wearB := erasedPage

/-- The contents of an anchor slot (R169). -/
structure Anchor where
  seq : BitVec 32
  floor : BitVec 32
  activeGen : BitVec 32
  latched : Bool
  count : Nat
deriving DecidableEq, Repr

/-- The anchor in force when no slot is valid (R169). -/
def blankAnchor : Anchor := { seq := 0, floor := 0, activeGen := 0, latched := true, count := 0 }

/-- The contents of a wear page (R170): sequence number, then close count and hard-break count of K0 to K3. -/
structure Wear where
  seq : BitVec 32
  counts : List (Nat × Nat)
deriving DecidableEq, Repr

/-- The operations of the NV engine (R173), each ANCHOR_WRITE with its offerer. -/
inductive NvOp where
  | bankCommit (bank : AB) (gen : BitVec 32)
  | anchorTamper
  | anchorActivate (bank : AB) (version gen : BitVec 32)
  | anchorSelect (bank : AB) (version gen : BitVec 32)
  | anchorClear
  | wearSave
  | invalidate (bank : AB)
deriving DecidableEq, Repr

/-- The steps of an operation: a page write or a bank erase (R172, R173). -/
inductive NvStep where
  | erase (bank : AB)
  | body (bank : AB) (page : Nat)
  | header (bank : AB)
  | gen (bank : AB) (g : BitVec 32)
  | anchor (slot : AB) (contents : Anchor)
  | wear (page : AB) (contents : Wear)
  | wipeGen (bank : AB)
deriving DecidableEq, Repr

/-- The operation in flight, its step, the pack time at which the step ends, and whether it is a clear write made void (R188). -/
structure NvFlight where
  op : NvOp
  step : NvStep
  ends : Time
  void : Bool
deriving DecidableEq, Repr

/-- NVS (R168 to R171). `activeVer` is the version and generation of the active profile when it came from a bank. -/
structure Nvs where
  mem : NvMem
  queue : List NvOp
  flight : Option NvFlight
  anchor : Anchor
  curAnchor : AB
  curWear : AB
  curWearSeq : BitVec 32
  statusA : BankStatus
  statusB : BankStatus
  active : Option AB
  activeVer : Option (BitVec 32 × BitVec 32)
  sel : SelStage
deriving DecidableEq, Repr

/-- The NV engine after reset, over the memory it finds: queue empty, nothing in flight, nothing read (R171). The values that reading
replaces are the model's (log 18). -/
def nvsReset (mem : NvMem) : Nvs where
  mem := mem
  queue := []
  flight := none
  anchor := blankAnchor
  curAnchor := .b
  curWear := .b
  curWearSeq := 0
  statusA := .incomplete
  statusB := .incomplete
  active := none
  activeVer := none
  sel := .unread

/-! ## Update unit -/

/-- The pending mark: a bank with its version and generation (R178). -/
structure PendMark where
  bank : AB
  version : BitVec 32
  gen : BitVec 32
deriving DecidableEq, Repr

/-- UPD (R178). `staging` lists the bytes of the staging buffer that are not zero, by rising address. `actBank` is the bank the
activation in progress names. `holding` says that the unit holds the scheduler suspended for the switch, and `keptRun` the schedule
state it kept (R184). -/
structure Upd where
  st : UpdState
  staging : List (Nat × BitVec 8)
  received : Nat
  version : BitVec 32
  length : Nat
  tag : BitVec 128
  target : Option (AB × BitVec 32)
  stop : Bool
  mark : Option PendMark
  act : ActState
  byPower : Bool
  actBank : Option PendMark
  holding : Bool
  keptRun : Bool
deriving DecidableEq, Repr

/-- R178. -/
def updReset : Upd where
  st := .idle
  staging := []
  received := 0
  version := 0
  length := 0
  tag := 0
  target := none
  stop := false
  mark := none
  act := .none
  byPower := false
  actBank := none
  holding := false
  keptRun := false

/-! ## Tamper monitor -/

/-- TMP (R186). `acceptDue` is the model's own: the tick has found the eleventh differing sample in a row and the acceptance is still
to be taken (log 2). `held` is a tamper accepted before the anchor has been read. -/
structure Tmp where
  asserted : Bool
  run : Nat
  acceptDue : Bool
  latch : Bool
  count : Nat
  clearReq : Bool
  clearSt : ClearState
  held : Bool
deriving DecidableEq, Repr

/-- R186. -/
def tmpReset : Tmp where
  asserted := false
  run := 0
  acceptDue := false
  latch := false
  count := 0
  clearReq := false
  clearSt := .none
  held := false

/-! ## Pack link -/

/-- A frame as the receiver has taken it, its check verified: type, tag, payload (R191). -/
structure InFrame where
  type : Byte
  tag : Byte
  payload : List Byte
deriving DecidableEq, Repr

/-- The receiver (R192), off in SLEEP and SLEEP_SWEEP (R151). `until_` is the end of the idle wait, or of the gap after the last byte;
`bytes` are those after the sync byte. -/
inductive Rx where
  | off
  | idleWait (until_ : Time)
  | hunting
  | assembling (bytes : List Byte) (until_ : Time)
deriving DecidableEq, Repr

/-- What READ_CELLS reports of a cell (R21). -/
structure CellView where
  code : Option Nat
  range : RangeMark
  inst : Option Time
  tag : Byte
  fresh : Bool
  current : Option Int
  mark : Option AlignMark
  breach : BreachState
deriving DecidableEq, Repr

/-- What READ_RESISTANCE reports of a cell (R71). -/
structure ResView where
  tag : Byte
  rMark : ResMark
  rFilt : Option Nat
  rRaw : Option Nat
  ref : Option Ref
deriving DecidableEq, Repr

/-- What READ_CONTACTORS reports of a channel (R112). -/
structure ChanView where
  role : Role
  st : KState
  coil : Coil
  closedFb : Bool
  inDebounce : Bool
  settling : Bool
  lastMake : Option Nat
  lastBreak : Option Nat
  closes : Nat
  hardBreaks : Nat
deriving DecidableEq, Repr

/-- What READ_RUNNER reports while RUNNING: the run and the current step (R132). The run is held whole, with the model's own `tested`
flag, which R132 does not list and no byte of the reply shows (DESIGN CHOICE, log 20). -/
structure RunView where
  run : Run
  step : Option SeqStep
deriving DecidableEq, Repr

/-- What READ_PROFILE_INFO reports of a bank (R190). -/
structure BankView where
  status : BankStatus
  header : Option (BitVec 32 × Nat)
  gen : Option (BitVec 32)
deriving DecidableEq, Repr

/-- What READ_PROFILE_INFO returns (R190). -/
structure ProfileInfo where
  active : Option AB
  activeVer : Option (BitVec 32 × BitVec 32)
  anchor : Anchor
  curAnchor : AB
  bankA : BankView
  bankB : BankView
  mark : Option PendMark
  updSt : UpdState
  received : Nat
  declared : Option (BitVec 32 × Nat)
  act : ActState
  latch : Bool
  count : Nat
  asserted : Bool
  clearReq : Bool
  flight : Option NvOp
  waiting : Nat
deriving DecidableEq, Repr

/-- What STATUS returns (R199): the ended start-up stages are given in STARTUP, the stage in SLEEP_ENTRY and WAKING. -/
structure StatusInfo where
  mode : Mode
  startup : Option (Bool × Bool × Bool × Bool)
  stage : Option Nat
  lastWake : Option WakeSet
  time : Time
  alert : Bool
  noticePending : Bool
  wokePending : Bool
  held : Nat
deriving DecidableEq, Repr

/-- What READ_CONDITIONS returns (R88). -/
structure CondInfo where
  set : CondMask
  enables : CondMask
  alert : Bool
  noticePending : Bool
  inOv : Nat
  inUv : Nat
  inPending : Nat
  notFresh : Nat
  lastTrip : Option (TripCause × Time)
deriving DecidableEq, Repr

/-- The fields of a reply after its status byte, as the rule of its request names them. -/
inductive ReplyBody where
  | empty
  | sweep (inFlight : Option SweepRec) (summary : Option Summary)
  | cells (views : List CellView)
  | modules (st : ChainState) (tag : Byte) (entries : List (Bool × Nat × ModEntry))
  | analog (time : Time) (period : Nat) (sampling : Bool) (entries : Nat) (fault overCurrent : Bool) (newest : Option RingEntry)
  | resistance (views : List ResView)
  | conditions (info : CondInfo)
  | condSet (set : CondMask)
  | contactors (views : List ChanView) (hardBreakLimit : Nat) (wearLoaded : Bool) (wearSave : WearSave) (lastSave : Option Time)
  | gate (failing : List GateTerm)
  | runner (run : Option RunView) (last : Option SeqOutcome) (failing : List GateTerm)
  | counter (c : Counter)
  | overflow (set : Byte)
  | counters (cs : List Counter) (overflow : Byte)
  | log (occupancy : Nat) (nextNo : BitVec 16) (threshold : Nat) (records : List LogRecord)
  | released (removed occupancy : Nat)
  | received (n : Nat)
  | profile (info : ProfileInfo)
  | status (info : StatusInfo)
  | identify (serial : BitVec 64)
deriving DecidableEq, Repr

/-- A reply: its status code and its fields (R191, R195). -/
structure Reply where
  status : Status
  body : ReplyBody
deriving DecidableEq, Repr

/-- A frame of the transmit path (R191, R196): a reply with the type and tag of its request, or a notice with its number. -/
inductive OutFrame where
  | reply (type tag : Byte) (r : Reply)
  | conditions (number : Byte) (set enables : CondMask)
  | woke (number : Byte) (causes : Option WakeSet)
deriving DecidableEq, Repr

/-- PLI (R192, R194, R196, R198). `reply` is the reply of the frame in service while it has not begun. -/
structure Pli where
  rx : Rx
  holding : List InFrame
  reply : Option OutFrame
  sending : Option OutFrame
  noticeNo : Byte
deriving DecidableEq, Repr

/-- R192, R194, R196, R198; the idle wait of 1 ms runs from the reset. -/
def pliReset : Pli := { rx := .idleWait 1000, holding := [], reply := none, sending := none, noticeNo := 0 }

/-- The levels at the feedback inputs and whether the tamper input is asserted, as the last tick found them. -/
structure Pins where
  feedback : BitVec 4
  tamper : Bool
deriving DecidableEq, Repr

/-- The inputs of State.reset: low and not asserted (DESIGN CHOICE, log 6). -/
def pinsReset : Pins := { feedback := 0, tamper := false }

end Sys2Proof.Machine
end

