-- ==== Sys2Proof/Machine/State.lean ====
section
/-! DEFINITION. The state of the PX412: one field for each block, the active profile, the inputs and the queue of commands. The update
of each field has a name, so that Laws/State.lean can say once what it leaves alone. -/
namespace Sys2Proof.Machine

/-- The reasons for which the part stops with a fault: none. The spec gives no behaviour in which the part stops; safe. -/
inductive Fault where
deriving DecidableEq, Repr

/-- The reasons for which a command is refused a meaning. -/
inductive Refusal where
  /-- Raised by an arm of `exec` whose command has no meaning yet; safe. No arm raises it. -/
  | notModelled (mnemonic : String)
deriving DecidableEq, Repr

/-- The state of the part. -/
structure State where
  /-- TIM, the pack time base -/
  tim : Tim
  /-- SCH, the sampling scheduler -/
  sch : Sch
  /-- CHN, the chain master -/
  chn : Chn
  /-- ANA, the analog channels -/
  ana : Ana
  /-- ALN, the pending alignments (R51) -/
  aln : List AlignItem
  /-- the cell table of 192 entries (R18) -/
  cells : List Cell
  /-- LIM, the limit monitor -/
  lim : Lim
  /-- CND, the condition unit -/
  cnd : Cnd
  /-- KDR, the contactor drivers -/
  kdr : Kdr
  /-- SEQ, the sequence runner -/
  seq : Seq
  /-- CTR, the event counters -/
  ctr : Ctr
  /-- LOG, the capture log -/
  log : CapLog
  /-- PWR, the power controller -/
  pwr : Pwr
  /-- NVS, the profile store and NV engine -/
  nvs : Nvs
  /-- the active profile, of which every block takes its parameters (R153, R185) -/
  prof : Profile
  /-- UPD, the update unit -/
  upd : Upd
  /-- TMP, the tamper monitor -/
  tmp : Tmp
  /-- PLI, the pack link interface -/
  pli : Pli
  /-- the levels at the inputs -/
  pins : Pins
  /-- the commands that wait, first in, first out (the model's own, log 1) -/
  pending : List Instr
deriving DecidableEq, Repr

/-- Replaces TIM. -/
def State.setTim (s : State) (x : Tim) : State := { s with tim := x }
/-- Replaces SCH. -/
def State.setSch (s : State) (x : Sch) : State := { s with sch := x }
/-- Replaces CHN. -/
def State.setChn (s : State) (x : Chn) : State := { s with chn := x }
/-- Replaces ANA. -/
def State.setAna (s : State) (x : Ana) : State := { s with ana := x }
/-- Replaces ALN. -/
def State.setAln (s : State) (x : List AlignItem) : State := { s with aln := x }
/-- Replaces the cell table of 192 entries. -/
def State.setCells (s : State) (x : List Cell) : State := { s with cells := x }
/-- Replaces LIM. -/
def State.setLim (s : State) (x : Lim) : State := { s with lim := x }
/-- Replaces CND. -/
def State.setCnd (s : State) (x : Cnd) : State := { s with cnd := x }
/-- Replaces KDR. -/
def State.setKdr (s : State) (x : Kdr) : State := { s with kdr := x }
/-- Replaces SEQ. -/
def State.setSeq (s : State) (x : Seq) : State := { s with seq := x }
/-- Replaces CTR. -/
def State.setCtr (s : State) (x : Ctr) : State := { s with ctr := x }
/-- Replaces LOG. -/
def State.setLog (s : State) (x : CapLog) : State := { s with log := x }
/-- Replaces PWR. -/
def State.setPwr (s : State) (x : Pwr) : State := { s with pwr := x }
/-- Replaces NVS. -/
def State.setNvs (s : State) (x : Nvs) : State := { s with nvs := x }
/-- Replaces the active profile. -/
def State.setProf (s : State) (x : Profile) : State := { s with prof := x }
/-- Replaces UPD. -/
def State.setUpd (s : State) (x : Upd) : State := { s with upd := x }
/-- Replaces TMP. -/
def State.setTmp (s : State) (x : Tmp) : State := { s with tmp := x }
/-- Replaces PLI. -/
def State.setPli (s : State) (x : Pli) : State := { s with pli := x }
/-- Replaces the levels at the inputs. -/
def State.setPins (s : State) (x : Pins) : State := { s with pins := x }
/-- Replaces the commands that wait. -/
def State.setPending (s : State) (x : List Instr) : State := { s with pending := x }

/-- Every block at its reset value, over the nonvolatile memory, the inputs and the waiting commands that a reset leaves alone
(R2, R18, R23, R29, R41, R51, R59, R80, R84, R92, R115, R133, R142, R150, R171, R178, R186, R192, R194, R196, R198). Nothing of
nonvolatile memory has been read yet: the start-up reading of R175 is the part's next work (log 8). Until the selection ends every
block has the factory profile's parameters (log 35). -/
def blocksReset (mem : NvMem) (pins : Pins) (pending : List Instr) : State where
  tim := timReset
  sch := schReset
  chn := chnReset
  ana := anaReset
  aln := []
  cells := List.replicate 192 cellReset
  lim := { lastTrip := none }
  cnd := cndReset
  kdr := kdrReset
  seq := seqReset
  ctr := ctrReset
  log := logReset
  pwr := pwrReset
  nvs := nvsReset mem
  prof := factoryProfile
  upd := updReset
  tmp := tmpReset
  pli := pliReset
  pins := pins
  pending := pending

/-- The part right after reset: every block at its reset value, nonvolatile memory erased (log 5), the inputs low (log 6), no command
waiting. -/
def State.reset : State := blocksReset erasedMem pinsReset []

end Sys2Proof.Machine
end

