-- ==== Sys2Proof/Machine/Ops.lean ====
section
/-! DEFINITION. Shared operations: pack times, rounding, populations and masks, the cell table, byte order and checks, and the
staging buffer's memory. -/
namespace Sys2Proof.Machine

/-! ## Pack time (R38, R39) -/

/-- The signed 32-bit difference of two instants, the first less the second (R39). -/
def timeDiff (a b : Time) : Int := (a - b).toInt

/-- Whether one instant is earlier than another (R39). -/
def isEarlier (a b : Time) : Bool := decide (timeDiff a b < 0)

/-- A number of microseconds as a span of pack time. -/
def us (n : Nat) : Time := BitVec.ofNat 32 n

/-- The pack time that stands. -/
def State.now (s : State) : Time := s.tim.packTime

/-- Pack time runs on to an instant that is later than the one that stands. In SLEEP it is the tick alone that moves pack time (R38,
log 3). -/
def advanceTo (t : Time) (s : State) : State :=
  if s.pwr.mode = .sleep then s
  else if isEarlier s.now t then s.setTim { s.tim with packTime := t } else s

/-- An integer quotient rounded half away from zero (spec/00, "Conventions"). -/
def divAway (n d : Int) : Int :=
  let q : Int := ((2 * n.natAbs + d.natAbs) / (2 * d.natAbs) : Nat)
  if n * d < 0 then -q else q

/-! ## Populations and masks (spec/00, "Cells, modules and codes"; R1) -/

/-- The cells of position k, 0 when the profile does not populate it. -/
def cellsAt (p : Profile) (k : Nat) : Nat := if k < p.moduleCount then p.cellCounts.getD k 0 else 0

/-- The populated positions: those below the module count. -/
def popMask (p : Profile) : ModMask := BitVec.ofNat 12 (2 ^ p.moduleCount - 1)

/-- The number of populated cells in the positions below k. -/
def cellBase (p : Profile) (k : Nat) : Nat := ((List.range k).map (cellsAt p)).sum

/-- The number of populated cells. -/
def population (p : Profile) : Nat := cellBase p 12

/-- The positions of a mask, ascending. -/
def maskPositions (m : ModMask) : List Nat := (List.range 12).filter fun k => m.getLsbD k

/-- The global cell indices of position k. -/
def moduleCells (p : Profile) (k : Nat) : List Nat := (List.range (cellsAt p k)).map fun c => cellBase p k + c

/-- The global cell indices of the positions of a mask. -/
def maskCells (p : Profile) (m : ModMask) : List Nat := (maskPositions m).flatMap (moduleCells p)

/-- A slot's effective mask (R1). -/
def effectiveMask (p : Profile) (c : SlotCfg) : ModMask := if c.full then popMask p else c.mask &&& popMask p

/-! ## The cell table -/

/-- The entry of cell i; an index beyond the table names no entry and reads as one at its reset value. -/
def State.cell (s : State) (i : Nat) : Cell := s.cells.getD i cellReset

/-- Replaces the entry of cell i. -/
def State.setCell (s : State) (i : Nat) (c : Cell) : State := s.setCells (s.cells.set i c)

/-- The entries of the populated cells (R18). -/
def State.populated (s : State) : List Cell := s.cells.take (population s.prof)

/-! ## The contactor channels and the module table -/

/-- Channel k. -/
def State.chan (s : State) (k : Nat) : Chan := s.kdr.chans.getD k chanReset

/-- Replaces channel k. -/
def State.setChan (s : State) (k : Nat) (c : Chan) : State := s.setKdr { s.kdr with chans := s.kdr.chans.set k c }

/-- Channel k's fields in the active profile (R91). -/
def State.chanCfg (s : State) (k : Nat) : ChanCfg := s.prof.chans.getD k factoryChan

/-- Whether channel k is in use (R91). -/
def State.inUse (s : State) (k : Nat) : Bool := (s.chanCfg k).role != Role.unused

/-- The module table's entry of position k. -/
def State.modEntry (s : State) (k : Nat) : ModEntry := s.chn.modules.getD k modReset

/-- Replaces the module table's entry of position k. -/
def State.setMod (s : State) (k : Nat) (m : ModEntry) : State := s.setChn { s.chn with modules := s.chn.modules.set k m }

/-- Whether a sweep is in flight: its record is in a state other than DONE (spec/01, "The life of a sweep"). -/
def State.inFlight (s : State) : Bool :=
  match s.sch.sweep with
  | some w => w.stage != SweepStage.done
  | none => false

/-- The link is quiet: no sweep in flight and the chain master not ENUMERATING (R14). -/
def State.linkQuiet (s : State) : Bool := !s.inFlight && s.chn.st != ChainState.enumerating

/-- Whether every contactor is OPEN. -/
def State.allOpen (s : State) : Bool := s.kdr.chans.all fun c => c.st == KState.opened

/-- The part is quiet: every contactor OPEN and the runner IDLE (spec/00, "Terms"). -/
def State.quiet (s : State) : Bool := s.allOpen && s.seq.run.isNone

/-! ## Byte order and checks (R22, R191, R202, R205) -/

/-- n bytes of a number, low byte first. -/
def leBytes : Nat → Nat → List Byte
  | 0, _ => []
  | n + 1, x => BitVec.ofNat 8 x :: leBytes n (x / 256)

/-- Two bytes, low byte first. -/
def le16 (x : BitVec 16) : List Byte := leBytes 2 x.toNat

/-- Three bytes, low byte first. -/
def le24 (x : BitVec 24) : List Byte := leBytes 3 x.toNat

/-- Four bytes, low byte first. -/
def le32 (x : BitVec 32) : List Byte := leBytes 4 x.toNat

/-- The number a list of bytes spells, low byte first. -/
def leNat : List Byte → Nat
  | [] => 0
  | b :: bs => b.toNat + 256 * leNat bs

/-- The number in n bytes from an offset of a list, low byte first; bytes beyond the list read 0. -/
def natAt (bs : List Byte) (off n : Nat) : Nat := leNat ((List.range n).map fun i => bs.getD (off + i) 0)

/-- One bit of a CRC of 8 bits with polynomial 0x2F, repeated. -/
def crc8Bits : Nat → BitVec 8 → BitVec 8
  | 0, c => c
  | n + 1, c => crc8Bits n (if c.msb then (c <<< 1) ^^^ 0x2F else c <<< 1)

/-- The check of a chain frame: CRC with polynomial 0x2F, most significant bit first, from 0xFF (R22). -/
def crc8 (bs : List Byte) : BitVec 8 := bs.foldl (fun c b => crc8Bits 8 (c ^^^ b)) 0xFF

/-- One bit of a CRC of 16 bits with polynomial 0x1021, repeated. -/
def crc16Bits : Nat → BitVec 16 → BitVec 16
  | 0, c => c
  | n + 1, c => crc16Bits n (if c.msb then (c <<< 1) ^^^ 0x1021 else c <<< 1)

/-- The check of a pack-link frame and of a page: CRC with polynomial 0x1021, most significant bit first, from 0xFFFF (R191, R205). -/
def crc16 (bs : List Byte) : BitVec 16 :=
  bs.foldl (fun c b => crc16Bits 8 (c ^^^ ((b.setWidth 16 : BitVec 16) <<< (8 : Nat)))) 0xFFFF

/-! ## The staging buffer (R178): bytes by rising address, none of them zero; an unlisted byte reads 0 -/

/-- The address of a cell of memory is above a bound and its byte is not the one an unlisted address reads. -/
def Memory.wfFrom : Nat → List (Nat × BitVec 8) → Bool
  | _, [] => true
  | lo, (a, b) :: rest => decide (lo ≤ a) && b != 0 && Memory.wfFrom (a + 1) rest

/-- The canonical form: addresses strictly rising, no entry equal to what an unlisted address reads. -/
def Memory.wf (m : List (Nat × BitVec 8)) : Bool := Memory.wfFrom 0 m

/-- The byte at an address. -/
def Memory.read : List (Nat × BitVec 8) → Nat → BitVec 8
  | [], _ => 0
  | (a, b) :: rest, x => if x = a then b else Memory.read rest x

/-- A byte written at an address, the canonical form kept. -/
def Memory.write : List (Nat × BitVec 8) → Nat → BitVec 8 → List (Nat × BitVec 8)
  | [], x, v => if v = 0 then [] else [(x, v)]
  | (a, b) :: rest, x, v =>
    if x < a then (if v = 0 then (a, b) :: rest else (x, v) :: (a, b) :: rest)
    else if x = a then (if v = 0 then rest else (x, v) :: rest)
    else (a, b) :: Memory.write rest x v

/-- Bytes written from an address on. -/
def Memory.writeBytes (m : List (Nat × BitVec 8)) (x : Nat) : List Byte → List (Nat × BitVec 8)
  | [] => m
  | v :: vs => Memory.writeBytes (Memory.write m x v) (x + 1) vs

/-- n bytes read from an address on. -/
def Memory.readBytes (m : List (Nat × BitVec 8)) (x n : Nat) : List Byte := (List.range n).map fun i => Memory.read m (x + i)

end Sys2Proof.Machine
end

