-- ==== Sys2Proof/Machine/Operands.lean ====
section
/-! DEFINITION. The operands of the thirty-five requests: their codes, their payloads on the link, and the reading of a payload
(R195, R202). -/
namespace Sys2Proof.Machine

/-- A request with its arguments, in the widths of R202. -/
inductive Request where
  | scheduleStart
  | scheduleStop
  | sampleNow (mask : BitVec 16)
  | readSweep
  | readCells (first : Byte) (count : Byte)
  | chainEnumerate
  | readModules
  | readAnalog
  | resetReferences (scope : Byte)
  | readResistance (first : Byte) (count : Byte)
  | readConditions
  | clearConditions (set : BitVec 32)
  | setAlertEnable (set : BitVec 32)
  | saveWear
  | clearContactorFault (channel : Byte)
  | readContactors
  | runSequence (id : Byte)
  | openAll
  | readRunner
  | setCounter (number : Byte) (kind : Byte) (flags : Byte) (value : BitVec 24) (reload : BitVec 24)
  | clearOverflow (numbers : List Byte)
  | readCounters
  | logRead (n : Byte)
  | logRelease (n : Byte)
  | sleep
  | updateBegin (version : BitVec 32) (length : BitVec 16) (imageTag : BitVec 128)
  | updateChunk (offset : BitVec 16) (data : List Byte)
  | updateCommit
  | updateAbort
  | activate
  | tamperClear
  | readProfileInfo
  | status
  | identify
  | resetPart
deriving DecidableEq, Repr

/-- The request code of R202. -/
def Request.code : Request → Byte
  | .scheduleStart => 0x01
  | .scheduleStop => 0x02
  | .sampleNow _ => 0x03
  | .readSweep => 0x04
  | .readCells _ _ => 0x05
  | .chainEnumerate => 0x06
  | .readModules => 0x07
  | .readAnalog => 0x08
  | .resetReferences _ => 0x09
  | .readResistance _ _ => 0x0A
  | .readConditions => 0x0B
  | .clearConditions _ => 0x0C
  | .setAlertEnable _ => 0x0D
  | .saveWear => 0x0E
  | .clearContactorFault _ => 0x0F
  | .readContactors => 0x10
  | .runSequence _ => 0x11
  | .openAll => 0x12
  | .readRunner => 0x13
  | .setCounter _ _ _ _ _ => 0x14
  | .clearOverflow _ => 0x15
  | .readCounters => 0x16
  | .logRead _ => 0x17
  | .logRelease _ => 0x18
  | .sleep => 0x19
  | .updateBegin _ _ _ => 0x1A
  | .updateChunk _ _ => 0x1B
  | .updateCommit => 0x1C
  | .updateAbort => 0x1D
  | .activate => 0x1E
  | .tamperClear => 0x1F
  | .readProfileInfo => 0x20
  | .status => 0x21
  | .identify => 0x22
  | .resetPart => 0x23

/-- The payload of a request (R202). -/
def Request.payload : Request → List Byte
  | .scheduleStart => []
  | .scheduleStop => []
  | .sampleNow mask => leBytes 2 mask.toNat
  | .readSweep => []
  | .readCells first count => [first] ++ [count]
  | .chainEnumerate => []
  | .readModules => []
  | .readAnalog => []
  | .resetReferences scope => [scope]
  | .readResistance first count => [first] ++ [count]
  | .readConditions => []
  | .clearConditions set => leBytes 4 set.toNat
  | .setAlertEnable set => leBytes 4 set.toNat
  | .saveWear => []
  | .clearContactorFault channel => [channel]
  | .readContactors => []
  | .runSequence id => [id]
  | .openAll => []
  | .readRunner => []
  | .setCounter number kind flags value reload => [number] ++ [kind] ++ [flags] ++ leBytes 3 value.toNat ++ leBytes 3 reload.toNat
  | .clearOverflow numbers => numbers
  | .readCounters => []
  | .logRead n => [n]
  | .logRelease n => [n]
  | .sleep => []
  | .updateBegin version length imageTag => leBytes 4 version.toNat ++ leBytes 2 length.toNat ++ leBytes 16 imageTag.toNat
  | .updateChunk offset data => leBytes 2 offset.toNat ++ data
  | .updateCommit => []
  | .updateAbort => []
  | .activate => []
  | .tamperClear => []
  | .readProfileInfo => []
  | .status => []
  | .identify => []
  | .resetPart => []

/-- Two bytes read as 16 bits, low byte first. -/
def word16 (a b : Byte) : BitVec 16 := BitVec.ofNat 16 (leNat [a, b])

/-- Three bytes read as 24 bits, low byte first. -/
def word24 (a b c : Byte) : BitVec 24 := BitVec.ofNat 24 (leNat [a, b, c])

/-- Four bytes read as 32 bits, low byte first. -/
def word32 (a b c d : Byte) : BitVec 32 := BitVec.ofNat 32 (leNat [a, b, c, d])

/-- The request that a code and a payload spell; none when the payload's length is not one the kind allows (R195 check 3, R202). -/
def parseArgs : Nat → List Byte → Option Request
  | 0x01, [] => some .scheduleStart
  | 0x02, [] => some .scheduleStop
  | 0x03, [m0, m1] => some (.sampleNow (word16 m0 m1))
  | 0x04, [] => some .readSweep
  | 0x05, [first, count] => some (.readCells first count)
  | 0x06, [] => some .chainEnumerate
  | 0x07, [] => some .readModules
  | 0x08, [] => some .readAnalog
  | 0x09, [scope] => some (.resetReferences scope)
  | 0x0A, [first, count] => some (.readResistance first count)
  | 0x0B, [] => some .readConditions
  | 0x0C, [s0, s1, s2, s3] => some (.clearConditions (word32 s0 s1 s2 s3))
  | 0x0D, [s0, s1, s2, s3] => some (.setAlertEnable (word32 s0 s1 s2 s3))
  | 0x0E, [] => some .saveWear
  | 0x0F, [channel] => some (.clearContactorFault channel)
  | 0x10, [] => some .readContactors
  | 0x11, [id] => some (.runSequence id)
  | 0x12, [] => some .openAll
  | 0x13, [] => some .readRunner
  | 0x14, [number, kind, flags, v0, v1, v2, r0, r1, r2] => some (.setCounter number kind flags (word24 v0 v1 v2) (word24 r0 r1 r2))
  | 0x15, ns => if ns.length ≤ 8 then some (.clearOverflow ns) else none
  | 0x16, [] => some .readCounters
  | 0x17, [n] => some (.logRead n)
  | 0x18, [n] => some (.logRelease n)
  | 0x19, [] => some .sleep
  | 0x1A, bs =>
    if bs.length = 22 then
      some (.updateBegin (BitVec.ofNat 32 (leNat (bs.take 4))) (BitVec.ofNat 16 (leNat ((bs.drop 4).take 2)))
        (BitVec.ofNat 128 (leNat (bs.drop 6))))
    else none
  | 0x1B, o0 :: o1 :: d => if 1 ≤ d.length ∧ d.length ≤ 128 then some (.updateChunk (word16 o0 o1) d) else none
  | 0x1C, [] => some .updateCommit
  | 0x1D, [] => some .updateAbort
  | 0x1E, [] => some .activate
  | 0x1F, [] => some .tamperClear
  | 0x20, [] => some .readProfileInfo
  | 0x21, [] => some .status
  | 0x22, [] => some .identify
  | 0x23, [] => some .resetPart
  | _, _ => none

end Sys2Proof.Machine
end

