-- ==== Sys2Proof/Machine/Flags.lean ====
section
/-! DEFINITION. The condition unit: the condition set, the enable set, ALERT and the notice-pending flag (R82 to R86), and the live
conditions as views of the state they follow. -/
namespace Sys2Proof.Machine

/-- The index of a condition: its place in the condition table (R202). -/
def Cond.idx : Cond → Nat
  | .cellOv => 0 | .cellUv => 1 | .cellStale => 2 | .moduleLost => 3 | .overCurrent => 4 | .analogFault => 5
  | .contactorFault => 6 | .logThreshold => 7 | .tamper => 8 | .noProfile => 9 | .alignHeld => 10 | .slotOverrun => 11
  | .chainError => 12 | .seqDone => 13 | .seqFailed => 14 | .counterOverflow => 15 | .logFull => 16 | .updateDone => 17
  | .updateFailed => 18 | .linkError => 19 | .linkOverrun => 20 | .woke => 21

/-- The set that holds one condition. -/
def Cond.bit (c : Cond) : CondMask := BitVec.twoPow 22 c.idx

/-- Whether a condition is set. -/
def State.condSet (s : State) (c : Cond) : Bool := s.cnd.set.getLsbD c.idx

/-- Whether a condition is enabled. -/
def State.condEnabled (s : State) (c : Cond) : Bool := s.cnd.enables.getLsbD c.idx

/-- ALERT is asserted exactly when some condition is both set and enabled (R85). -/
def State.alert (s : State) : Bool := s.cnd.set &&& s.cnd.enables != 0

/-- A condition is set. A change from clear to set of an enabled condition sets the notice-pending flag (R82, R86). -/
def setCond (c : Cond) (s : State) : State :=
  if s.condSet c then s
  else s.setCnd { s.cnd with set := s.cnd.set ||| c.bit, noticePending := s.cnd.noticePending || s.condEnabled c }

/-- A condition is cleared (R82, R86). -/
def clearCond (c : Cond) (s : State) : State := s.setCnd { s.cnd with set := s.cnd.set &&& ~~~c.bit }

/-- A live condition takes the state its owner reports (R82). -/
def liveCond (c : Cond) (holds : Bool) (s : State) : State := if holds then setCond c s else clearCond c s

/-- The enable set is replaced; a condition set at that moment and newly enabled sets the notice-pending flag (R86). -/
def replaceEnables (e : CondMask) (s : State) : State :=
  s.setCnd { s.cnd with
    enables := e
    noticePending := s.cnd.noticePending || (s.cnd.set &&& e &&& ~~~s.cnd.enables) != 0 }

/-- The latched conditions that CLEAR_CONDITIONS clears: indices 10 to 21, COUNTER_OVERFLOW (15) excepted (R83, R89). -/
def clearable : CondMask := 0x3F7C00

/-- CELL_STALE is judged: set while some populated cell is not fresh (R79). -/
def judgeStale (s : State) : State := liveCond .cellStale (s.populated.any fun c => !c.fresh) s

/-- MODULE_LOST is judged: set while some populated position is lost (R29). -/
def judgeModuleLost (s : State) : State :=
  liveCond .moduleLost ((List.range 12).any fun k => decide (k < s.prof.moduleCount) && (s.modEntry k).lost) s

/-- The three faulted states (R103). -/
def KState.faulted : KState → Bool
  | .closeFailed | .dropout | .weldSuspect => true
  | .opened | .closing | .closed | .opening => false

/-- Whether some channel is in a faulted state (R103). -/
def State.anyFaulted (s : State) : Bool := s.kdr.chans.any fun c => c.st.faulted

/-- CONTACTOR_FAULT is judged (R103). -/
def judgeContactorFault (s : State) : State := liveCond .contactorFault s.anyFaulted s

/-- LOG_THRESHOLD is judged (R147). -/
def judgeThreshold (s : State) : State := liveCond .logThreshold (decide (s.log.threshold ≤ s.log.records.length)) s

/-- TAMPER is judged: set while the latch is set (R186). -/
def judgeTamper (s : State) : State := liveCond .tamper s.tmp.latch s

/-- The number of populated cells in a breach state. -/
def State.countBreach (s : State) (b : BreachState) : Nat := s.populated.countP fun c => c.breach == b

/-- CELL_OV and CELL_UV are judged (R78). -/
def judgeBreach (s : State) : State :=
  liveCond .cellUv (decide (0 < s.countBreach .uv)) (liveCond .cellOv (decide (0 < s.countBreach .ov)) s)

end Sys2Proof.Machine
end

