-- ==== Sys2Proof/Machine/Counters.lean ====
section
/-! DEFINITION. The event counters (R133 to R138) and the capture log's admission (R143 to R147). -/
namespace Sys2Proof.Machine

/-! ## The capture log -/

/-- The occupancy below which a record of a class is admitted (R144). -/
def admitLimit (faultClass : Bool) : Nat := if faultClass then 64 else 60

/-- A record is offered: admitted with the next record number, or refused with LOG_FULL set (R144, R145). -/
def offerRecord (faultClass : Bool) (body : RecordBody) (s : State) : State :=
  if s.log.records.length < admitLimit faultClass then
    judgeThreshold (s.setLog { s.log with
      records := s.log.records ++ [{ number := s.log.nextNo, faultClass := faultClass, body := body }]
      nextNo := s.log.nextNo + 1 })
  else setCond .logFull s

/-! ## The counters -/

/-- A counter at its greatest value, of the kind that occurs: the occurrence wraps it (R135). -/
def Counter.wraps (k : EventKind) (c : Counter) : Bool := c.kind == k && c.value == BitVec.allOnes 24

/-- A counter after an occurrence of a kind: one more, a wrap arming it when its snapshot flag is set (R135, R136). -/
def Counter.count (k : EventKind) (c : Counter) : Counter :=
  if c.kind = k then { c with value := c.value + 1, armed := c.armed || (c.wraps k && c.snap) } else c

/-- The numbers of the counters that an occurrence wraps, as a set. -/
def wrapMask (k : EventKind) (cs : List Counter) : Byte :=
  (List.range 8).foldl (fun m n => if (cs.getD n counterReset).wraps k then m ||| BitVec.twoPow 8 n else m) 0

/-- COUNTER_OVERFLOW follows the overflow set (R83). -/
def judgeOverflow (s : State) : State := liveCond .counterOverflow (s.ctr.overflow != 0) s

/-- An occurrence of an event kind (R135, R136). -/
def occurrence (k : EventKind) (s : State) : State :=
  let m := wrapMask k s.ctr.counters
  let s1 := s.setCtr { counters := s.ctr.counters.map (Counter.count k), overflow := s.ctr.overflow ||| m }
  if m = 0 then s1 else judgeOverflow s1

/-- n occurrences, one after the other. -/
def occurrences (k : EventKind) : Nat → State → State
  | 0, s => s
  | n + 1, s => occurrences k n (occurrence k s)

/-- An armed counter is reloaded and disarmed (R138). -/
def Counter.reloaded (c : Counter) : Counter := if c.armed then { c with value := c.reload, armed := false } else c

/-- The snapshot check at stage 3 of the completion of a sweep that raised FULL_SWEEP_DONE (R137, R138). -/
def snapshotCheck (s : State) : State :=
  if s.ctr.counters.any (·.armed) then
    match s.sch.summary with
    | some m =>
      let s1 := offerRecord false (.snapshot m.tag m.tb m.minCell m.maxCell m.sum m.aligned s.ctr.overflow) s
      s1.setCtr { s1.ctr with counters := s1.ctr.counters.map Counter.reloaded }
    | none => s
  else s

/-- A counter takes a profile's configuration, disarmed (R133, R134). -/
def Counter.ofCfg (c : CounterCfg) : Counter :=
  { kind := c.kind, value := c.value, reload := c.reload, snap := c.snap, armed := false }

end Sys2Proof.Machine
end

