-- ==== Sys2Proof/Config.lean ====
section
/-! DEFINITION. What one part fixes and the manual does not give: constants with no body, so that no proof can see them. -/
namespace Sys2Proof

/-- The 64-bit serial number of R200, set at manufacture (log 7). -/
opaque Config.serialNumber : BitVec 64

/-- The part's profile tag function with its device secret (R168): 16 bytes, byte k in bits 8k+7..8k (log 7). -/
opaque Config.profileTag : List Byte → BitVec 128

/-- The generation of a commit when the greatest generation is already 2^32 - 1: R180 states none (log 16). -/
opaque Config.generationPastEnd : BitVec 32

end Sys2Proof
end

