-- ==== Sys2Proof/Machine/Image.lean ====
section
/-! DEFINITION. The profile image and the pages of nonvolatile memory: their layouts (R205), the reading of pages and images, and the
validation list (R114, R177). -/
namespace Sys2Proof.Machine

/-! ## The image (R205). Its numbers stand low byte first, as R202 has them in a payload (DEDUCED, log 47). -/

/-- The role of a code (R202: roles in the order of spec/06). -/
def roleOf : Nat → Option Role
  | 0 => some .mainPos | 1 => some .mainNeg | 2 => some .precharge | 3 => some .aux | 4 => some .unused | _ => none

/-- The polarity of a code (R205: HIGH_CLOSED 0). -/
def polarityOf : Nat → Option Polarity
  | 0 => some .highClosed | 1 => some .lowClosed | _ => none

/-- The event kind of a code (R202). -/
def eventKindOf : Nat → Option EventKind
  | 0 => some .none | 1 => some .sweepDone | 2 => some .fullSweepDone | 3 => some .moduleMiss | 4 => some .cellBreachEnter
  | 5 => some .alignHeld | 6 => some .slotOverrun | 7 => some .contactorClosed | 8 => some .hardBreak | 9 => some .seqFailed
  | 10 => some .sleepSweep | 11 => some .linkError | _ => none

/-- A flag written as a byte of its own: 0 or 1; another value is outside its range (log 17). -/
def flagOf : Nat → Option Bool
  | 0 => some false | 1 => some true | _ => none

/-- The condition of a SKIP_IF step (R202, R205). -/
def skipOf (code arg : Nat) : Option SkipCond :=
  match code with
  | 0 => some (.linkAtLeast arg)
  | 1 => some (.closed arg)
  | 2 => some (.opened arg)
  | 3 => some .allFresh
  | _ => none

/-- The step that four bytes spell: kind, first argument, second argument of two bytes (R205). -/
def stepAt (bs : List Byte) (off : Nat) : Option SeqStep :=
  let a := natAt bs (off + 1) 1
  let b := natAt bs (off + 2) 2
  match natAt bs off 1 with
  | 0 => some (.close a)
  | 1 => some (.opn a)
  | 2 => some (.wait b)
  | 3 => some (.awaitLink a b)
  | 4 => some (.awaitDecay a b)
  | 5 => (skipOf a b).map .skipIf
  | 6 => some .sweep
  | 7 => some .endSeq
  | _ => none

/-- n steps from an offset on. -/
def stepsAt (bs : List Byte) : Nat → Nat → Option (List SeqStep)
  | 0, _ => some []
  | n + 1, off => do
    let st ← stepAt bs off
    let rest ← stepsAt bs n (off + 4)
    pure (st :: rest)

/-- n sequences from an offset on, with the offset after them; decoding stops at a step count above 12 (R205). -/
def sequencesAt (bs : List Byte) : Nat → Nat → Option (List (List SeqStep) × Nat)
  | 0, off => some ([], off)
  | n + 1, off =>
    let c := natAt bs off 1
    if 12 < c then none
    else do
      let sts ← stepsAt bs c (off + 1)
      let (rest, fin) ← sequencesAt bs n (off + 1 + 4 * c)
      pure (sts :: rest, fin)

/-- A slot of the schedule section: flags, mask, period, phase (R205). -/
def slotAt (bs : List Byte) (off : Nat) : SlotCfg :=
  let flags := bs.getD off 0
  { enabled := flags.getLsbD 0
    full := !flags.getLsbD 1
    sleepEligible := flags.getLsbD 2
    mask := BitVec.ofNat 12 (natAt bs (off + 1) 2)
    period := natAt bs (off + 3) 2
    phase := natAt bs (off + 5) 2 }

/-- A channel of the contactor section (R205). -/
def chanAt (bs : List Byte) (off : Nat) : Option ChanCfg := do
  let role ← roleOf (natAt bs off 1)
  let polarity ← polarityOf (natAt bs (off + 7) 1)
  pure { role := role, pullIn := natAt bs (off + 1) 1, holdWidth := natAt bs (off + 2) 1, makeMax := natAt bs (off + 3) 2,
         breakMax := natAt bs (off + 5) 2, polarity := polarity }

/-- A counter of the counter section (R205). -/
def counterAt (bs : List Byte) (off : Nat) : Option CounterCfg := do
  let kind ← eventKindOf (natAt bs off 1)
  pure { kind := kind, snap := (bs.getD (off + 1) 0).getLsbD 0, value := BitVec.ofNat 24 (natAt bs (off + 2) 3),
         reload := BitVec.ofNat 24 (natAt bs (off + 5) 3) }

/-- The profile an image spells, none when it is not well formed or a code in it names nothing (R177, R205). The fixed sections before
the sequences end at offset 130; those after them take 77 bytes. -/
def decodeImage (bs : List Byte) : Option Profile := do
  let autostart ← flagOf (natAt bs 13 1)
  let tripOv ← flagOf (natAt bs 93 1)
  let tripUv ← flagOf (natAt bs 94 1)
  let tripOc ← flagOf (natAt bs 95 1)
  let chans ← (List.range 4).mapM fun k => chanAt bs (96 + 8 * k)
  let (sequences, fin) ← sequencesAt bs 6 130
  let counters ← (List.range 8).mapM fun n => counterAt bs (fin + 8 * n)
  if bs.length = fin + 77 ∧ natAt bs (fin + 65) 4 < 2 ^ 22 then
    pure {
      moduleCount := natAt bs 0 1
      cellCounts := (List.range 12).map fun k => natAt bs (1 + k) 1
      autostart := autostart
      slots := (List.range 8).map fun i => slotAt bs (14 + 7 * i)
      convOffset := natAt bs 70 1
      hopDelay := natAt bs 71 1
      cellSpacing := natAt bs 72 1
      period := natAt bs 73 2
      ocLimit := natAt bs 75 2
      ocTime := natAt bs 77 2
      freshness := natAt bs 79 2
      minStep := natAt bs 81 2
      refMaxAge := natAt bs 83 2
      filterShift := natAt bs 85 1
      ovLimit := natAt bs 86 2
      uvLimit := natAt bs 88 2
      hysteresis := natAt bs 90 2
      debounce := natAt bs 92 1
      tripOv := tripOv
      tripUv := tripUv
      tripOc := tripOc
      chans := chans
      hardBreakLimit := natAt bs 128 2
      sequences := sequences
      counters := counters
      logThreshold := natAt bs (fin + 64) 1
      enables := BitVec.ofNat 22 (natAt bs (fin + 65) 4)
      sleepPeriod := natAt bs (fin + 69) 2
      sleepOv := natAt bs (fin + 71) 2
      sleepUv := natAt bs (fin + 73) 2
      selfDischarge := natAt bs (fin + 75) 2 }
  else none

/-! ## The validation list (R114, R177) -/

/-- A number lies in a range, inclusive at both ends. -/
def within (lo hi n : Nat) : Bool := decide (lo ≤ n ∧ n ≤ hi)

/-- The terms of R114 on one step of a sequence, the channels' roles given. -/
def SeqStep.valid (chans : List ChanCfg) : SeqStep → Bool
  | .close k => decide (k < 4) && (chans.getD k factoryChan).role != .unused
  | .opn k => decide (k < 4) && (chans.getD k factoryChan).role != .unused
  | .wait t => within 1 10000 t
  | .awaitLink p t => within 1 100 p && within 1 10000 t
  | .awaitDecay p t => within 1 100 p && within 1 10000 t
  | .skipIf (.linkAtLeast p) => within 1 100 p
  | .skipIf (.closed k) => decide (k < 4)
  | .skipIf (.opened k) => decide (k < 4)
  | .skipIf .allFresh => true
  | .sweep => true
  | .endSeq => true

/-- Whether a step is a SKIP_IF. -/
def SeqStep.isSkip : SeqStep → Bool
  | .skipIf _ => true
  | _ => false

/-- Terms 2 and 3 of R114: END last and at no other place, and no SKIP_IF immediately before it. -/
def endsRight : List SeqStep → Bool
  | [] => true
  | [st] => st == .endSeq
  | st :: next :: rest => st != .endSeq && !(st.isSkip && next == .endSeq) && endsRight (next :: rest)

/-- The six terms of R114 on one sequence. -/
def sequenceValid (chans : List ChanCfg) (sts : List SeqStep) : Bool :=
  decide (sts.length ≤ 12) && endsRight sts && sts.all (SeqStep.valid chans)

/-- The terms of R177 on a slot. -/
def SlotCfg.valid (c : SlotCfg) : Bool := within 1 65535 c.period && decide (c.phase < c.period)

/-- The terms of R177 on a contactor channel. -/
def ChanCfg.valid (c : ChanCfg) : Bool :=
  within 10 250 c.pullIn && within 64 255 c.holdWidth && within 5 500 c.makeMax && within 5 500 c.breakMax

/-- The validation list of R177, on the fields of a well-formed image. -/
def Profile.valid (p : Profile) : Bool :=
  within 1 12 p.moduleCount && ((List.range p.moduleCount).all fun k => within 4 16 (cellsAt p k)) && decide (population p ≤ 192)
  && p.slots.all SlotCfg.valid
  && decide (p.hopDelay ≤ 50) && decide (p.cellSpacing ≤ 100) && decide (p.convOffset ≤ 255)
  && within 50 1000 p.period && within 100 20000 p.ocLimit && within 1 1000 p.ocTime
  && within 10 60000 p.freshness && within 10 20000 p.minStep && within 100 60000 p.refMaxAge && decide (p.filterShift ≤ 4)
  && within 25000 50000 p.ovLimit && decide (p.uvLimit ≤ 40000) && decide (p.uvLimit < p.ovLimit) && decide (p.hysteresis ≤ 2000)
  && within 1 8 p.debounce
  && p.chans.all ChanCfg.valid && decide (p.hardBreakLimit ≤ 20000)
  && p.sequences.all (sequenceValid p.chans)
  && within 1 64 p.logThreshold
  && within 1 65535 p.sleepPeriod && within 25000 50000 p.sleepOv && decide (p.sleepUv ≤ 40000) && decide (p.sleepUv < p.sleepOv)
  && within 1 5000 p.selfDischarge

/-- The profile of an image that passes the validation list. -/
def validImage (bs : List Byte) : Option Profile := (decodeImage bs).filter Profile.valid

/-! ## Pages (R168 to R170, R205). R205 gives no byte order inside a page: every number and the check stand low byte first (DESIGN
CHOICE, log 47). -/

/-- A page's 64 bytes: its contents, then 0xFF (R205). -/
def pageOf (contents : List Byte) : NvPage := .data ((contents ++ List.replicate 64 0xFF).take 64)

/-- A page whose contents are followed by their check, low byte first (R205, log 47). -/
def checkedPage (contents : List Byte) : NvPage := pageOf (contents ++ le16 (crc16 contents))

/-- The contents of a page, of a given size, when the check after them holds; a torn page reads as one whose check fails (R174). -/
def NvPage.contents (n : Nat) : NvPage → Option (List Byte)
  | .torn => none
  | .data bs => if le16 (crc16 (bs.take n)) = (bs.drop n).take 2 then some (bs.take n) else none

/-- A header page: version, length, tag. -/
def headerPage (version : BitVec 32) (length : Nat) (tag : BitVec 128) : NvPage :=
  checkedPage (le32 version ++ leBytes 2 length ++ leBytes 16 tag.toNat)

/-- A header page read. -/
def readHeader (p : NvPage) : Option (BitVec 32 × Nat × BitVec 128) :=
  (p.contents 22).map fun bs => (BitVec.ofNat 32 (natAt bs 0 4), natAt bs 4 2, BitVec.ofNat 128 (natAt bs 6 16))

/-- A generation page. -/
def genPage (g : BitVec 32) : NvPage := checkedPage (le32 g)

/-- A generation page read; an erased one and one whose check fails read as not written (R168). -/
def readGen (p : NvPage) : Option (BitVec 32) := (p.contents 4).map fun bs => BitVec.ofNat 32 (natAt bs 0 4)

/-- An anchor slot's page. -/
def anchorPage (a : Anchor) : NvPage :=
  checkedPage (le32 a.seq ++ le32 a.floor ++ le32 a.activeGen ++ [if a.latched then 1 else 0] ++ leBytes 2 a.count)

/-- An anchor slot read, none when it is not valid (R169). -/
def readAnchor (p : NvPage) : Option Anchor :=
  (p.contents 15).map fun bs =>
    { seq := BitVec.ofNat 32 (natAt bs 0 4), floor := BitVec.ofNat 32 (natAt bs 4 4), activeGen := BitVec.ofNat 32 (natAt bs 8 4),
      latched := (bs.getD 12 0).getLsbD 0, count := natAt bs 13 2 }

/-- A wear page. 'The close count then the hard-break count of K0 to K3' (R205) is read channel by channel: the close count and the
hard-break count of K0, then those of K1, K2 and K3 (DESIGN CHOICE, log 46). -/
def wearPage (w : Wear) : NvPage :=
  checkedPage (le32 w.seq ++ w.counts.flatMap fun c => leBytes 4 c.1 ++ leBytes 4 c.2)

/-- A wear page read, none when its check fails (R170); its counts stand channel by channel (log 46). -/
def readWear (p : NvPage) : Option Wear :=
  (p.contents 36).map fun bs =>
    { seq := BitVec.ofNat 32 (natAt bs 0 4),
      counts := (List.range 4).map fun k => (natAt bs (4 + 8 * k) 4, natAt bs (8 + 8 * k) 4) }

/-- The bytes of a page; a torn page's are undefined and no reading of the part depends on them (R174, log 5). -/
def NvPage.bytes : NvPage → List Byte
  | .torn => []
  | .data bs => bs

/-- The body of a bank. -/
def BankMem.bodyBytes (b : BankMem) : List Byte := b.body.flatMap NvPage.bytes

/-- The image a bank holds, by the length of its header. -/
def BankMem.image (b : BankMem) : List Byte :=
  match readHeader b.header with
  | some (_, len, _) => b.bodyBytes.take len
  | none => []

/-- The classification of a bank against a version floor (R168, R175). -/
def classifyBank (floor : BitVec 32) (b : BankMem) : BankStatus :=
  match readGen b.gen, readHeader b.header with
  | some _, some (version, len, tag) =>
    if Config.profileTag (b.bodyBytes.take len) ≠ tag then .rejected
    else if (validImage (b.bodyBytes.take len)).isNone then .rejected
    else if version < floor then .belowFloor
    else .valid
  | _, _ => .incomplete

/-- A bank of nonvolatile memory. -/
def NvMem.bank (m : NvMem) : AB → BankMem
  | .a => m.bankA
  | .b => m.bankB

/-- Replaces a bank. -/
def NvMem.setBank (m : NvMem) (x : AB) (b : BankMem) : NvMem :=
  match x with
  | .a => { m with bankA := b }
  | .b => { m with bankB := b }

/-- The other of two. -/
def AB.other : AB → AB
  | .a => .b
  | .b => .a

/-- Of two numbered alternatives, the current one: the one whose number is one greater than the other's modulo 2^32; else the larger,
or A when they are equal; a lone valid one is current (R169, R170). -/
def currentOf (a b : Option (BitVec 32)) : Option AB :=
  match a, b with
  | some x, some y => some (if x = y + 1 then .a else if y = x + 1 then .b else if x < y then .b else .a)
  | some _, none => some .a
  | none, some _ => some .b
  | none, none => none

/-- What a reset leaves of a page, or of the bank being erased, when it falls during a step: torn (R174). -/
def tearStep (m : NvMem) : NvStep → NvMem
  | .erase x => m.setBank x { header := .torn, body := List.replicate 64 .torn, gen := .torn }
  | .body x i => m.setBank x { m.bank x with body := (m.bank x).body.set i .torn }
  | .header x => m.setBank x { m.bank x with header := .torn }
  | .gen x _ => m.setBank x { m.bank x with gen := .torn }
  | .wipeGen x => m.setBank x { m.bank x with gen := .torn }
  | .anchor .a _ => { m with anchorA := .torn }
  | .anchor .b _ => { m with anchorB := .torn }
  | .wear .a _ => { m with wearA := .torn }
  | .wear .b _ => { m with wearB := .torn }

end Sys2Proof.Machine
end

