-- ==== Sys2Proof/Machine/Nv.lean ====
section
/-! DEFINITION. The NV engine: its queue, the beginning of an operation, the effect of a step on nonvolatile memory (R171 to R174). -/
namespace Sys2Proof.Machine

/-- A page write takes 4 ms, a bank erase 20 ms (spec/10, "What nonvolatile memory holds"). -/
def stepTime : NvStep → Nat
  | .erase _ => 20000
  | _ => 4000

/-- The tamper-class operations (R171). -/
def NvOp.tamperClass : NvOp → Bool
  | .anchorTamper | .invalidate _ => true
  | .bankCommit _ _ | .anchorActivate _ _ _ | .anchorSelect _ _ _ | .anchorClear | .wearSave => false

/-- The operations of which a second offer is satisfied by a waiting one (R171). -/
def NvOp.merges : NvOp → Bool
  | .anchorTamper | .anchorClear | .wearSave => true
  | .bankCommit _ _ | .anchorActivate _ _ _ | .anchorSelect _ _ _ | .invalidate _ => false

/-- The number of waiting operations below which an offer is admitted (R171). -/
def NvOp.room (op : NvOp) : Nat := if op.tamperClass then 6 else 4

/-- An operation is offered: merged with a waiting one, admitted, or refused (none) (R171). -/
def offerOp (op : NvOp) (s : State) : Option State :=
  if op.merges && s.nvs.queue.contains op then some s
  else if s.nvs.queue.length < op.room then some (s.setNvs { s.nvs with queue := s.nvs.queue ++ [op] })
  else none

/-- An operation is offered whose offerer has no answer to a refusal; R171 shows that its offer is always admitted. -/
def offerSure (op : NvOp) (s : State) : State := (offerOp op s).getD s

/-- The operation that begins next: the oldest tamper-class one, else the oldest ordinary one (R172). -/
def nextOp (q : List NvOp) : Option NvOp :=
  match q.find? NvOp.tamperClass with
  | some op => some op
  | none => q.head?

/-- The status of a bank. -/
def State.bankStatus (s : State) : AB → BankStatus
  | .a => s.nvs.statusA
  | .b => s.nvs.statusB

/-- A bank takes a status. -/
def setBankStatus (x : AB) (st : BankStatus) (s : State) : State :=
  match x with
  | .a => s.setNvs { s.nvs with statusA := st }
  | .b => s.setNvs { s.nvs with statusB := st }

/-- The contents an ANCHOR_WRITE forms at its beginning (R173). -/
def formAnchor (op : NvOp) (s : State) : Anchor :=
  let a := s.nvs.anchor
  let latched := if op = .anchorClear then false else s.tmp.latch
  match op with
  | .anchorActivate _ v g | .anchorSelect _ v g =>
    { seq := a.seq + 1, floor := v, activeGen := g, latched := latched, count := s.tmp.count }
  | _ => { seq := a.seq + 1, floor := a.floor, activeGen := a.activeGen, latched := latched, count := s.tmp.count }

/-- The wear counts captured at the beginning of a WEAR_SAVE (R110, R170). -/
def formWear (s : State) : Wear :=
  { seq := s.nvs.curWearSeq + 1, counts := s.kdr.chans.map fun c => (c.closes, c.hardBreaks) }

/-- The first step of an operation (R173). -/
def firstStep (op : NvOp) (s : State) : NvStep :=
  match op with
  | .bankCommit x _ => .erase x
  | .anchorTamper | .anchorActivate _ _ _ | .anchorSelect _ _ _ | .anchorClear => .anchor s.nvs.curAnchor.other (formAnchor op s)
  | .wearSave => .wear s.nvs.curWear.other (formWear s)
  | .invalidate x => .wipeGen x

/-- What the beginning of an operation does beside its first step (R110, R173, R184, R186). -/
def beginEffects (op : NvOp) (s : State) : State :=
  match op with
  | .bankCommit x _ =>
    let s1 := setBankStatus x .incomplete s
    if (s1.upd.mark.map PendMark.bank) = some x then s1.setUpd { s1.upd with mark := none } else s1
  | .anchorActivate _ _ _ => s.setUpd { s.upd with act := .writing, mark := none }
  | .anchorClear => s.setTmp { s.tmp with clearSt := .inFlight }
  | .wearSave => s.setKdr { s.kdr with wearSave := .writing }
  | .anchorTamper | .anchorSelect _ _ _ | .invalidate _ => s

/-- When nothing is in flight and the part is not in SLEEP, the engine begins the next waiting operation (R158, R172). -/
def nvBegin (s : State) : State :=
  if s.nvs.flight.isSome || s.pwr.mode == .sleep then s
  else
    match nextOp s.nvs.queue with
    | none => s
    | some op =>
      let st := firstStep op s
      let s1 := s.setNvs { s.nvs with
        queue := s.nvs.queue.erase op
        flight := some { op := op, step := st, ends := s.now + us (stepTime st), void := false } }
      beginEffects op s1

/-- The bytes of body page i of the image in the staging buffer (R168, R173). -/
def stagedPage (s : State) (i : Nat) : NvPage :=
  pageOf (Memory.readBytes s.upd.staging (64 * i) (min 64 (s.upd.length - 64 * i)))

/-- The number of body pages of the staged image (R173). -/
def bodyPages (s : State) : Nat := (s.upd.length + 63) / 64

/-- Nonvolatile memory after a step (R168, R173). The spec says that a PENDING_INVALIDATE overwrites the generation page so that it reads
as not written, not with which bytes: the model writes the erased page, 64 bytes of 0xFF (DESIGN CHOICE, log 42). -/
def stepMem (s : State) : NvStep → NvMem
  | .erase x => s.nvs.mem.setBank x erasedBank
  | .body x i => s.nvs.mem.setBank x { s.nvs.mem.bank x with body := (s.nvs.mem.bank x).body.set i (stagedPage s i) }
  | .header x => s.nvs.mem.setBank x { s.nvs.mem.bank x with header := headerPage s.upd.version s.upd.length s.upd.tag }
  | .gen x g => s.nvs.mem.setBank x { s.nvs.mem.bank x with gen := genPage g }
  | .wipeGen x => s.nvs.mem.setBank x { s.nvs.mem.bank x with gen := erasedPage }
  | .anchor .a c => { s.nvs.mem with anchorA := anchorPage c }
  | .anchor .b c => { s.nvs.mem with anchorB := anchorPage c }
  | .wear .a w => { s.nvs.mem with wearA := wearPage w }
  | .wear .b w => { s.nvs.mem with wearB := wearPage w }

/-- The step after a step of an operation, none after its last (R173). -/
def nextStep (s : State) : NvOp → NvStep → Option NvStep
  | .bankCommit x _, .erase _ => some (if bodyPages s = 0 then .header x else .body x 0)
  | .bankCommit x _, .body _ i => some (if i + 1 < bodyPages s then .body x (i + 1) else .header x)
  | .bankCommit x g, .header _ => some (.gen x g)
  | _, _ => none

/-- A VALID bank whose version is below the floor becomes BELOW_FLOOR (R168). -/
def floorRaised (x : AB) (s : State) : State :=
  match readHeader (s.nvs.mem.bank x).header with
  | some (v, _, _) => if s.bankStatus x = .valid ∧ v < s.nvs.anchor.floor then setBankStatus x .belowFloor s else s
  | none => s

/-- An anchor write's slot becomes current and its contents the anchor in force (R173). -/
def anchorInForce (slot : AB) (c : Anchor) (s : State) : State :=
  floorRaised .b (floorRaised .a (s.setNvs { s.nvs with anchor := c, curAnchor := slot }))

/-- The greatest of three generations. -/
def maxGen (a b c : BitVec 32) : BitVec 32 := if a < b then (if b < c then c else b) else (if a < c then c else a)

/-- A complete bank's generation, 0 for an incomplete one (R180). -/
def State.bankGen (s : State) (x : AB) : BitVec 32 :=
  if s.bankStatus x = .incomplete then 0 else (readGen (s.nvs.mem.bank x).gen).getD 0

/-- The generation of the next commit: one more than the greatest of the two complete banks' and the anchor's (R180). Past 2^32 - 1 the
spec states none (log 16). -/
def commitGen (s : State) : BitVec 32 :=
  let g := maxGen (s.bankGen .a) (s.bankGen .b) s.nvs.anchor.activeGen
  if g = BitVec.allOnes 32 then Config.generationPastEnd else g + 1

/-- The target of the next commit: the bank that is not active; under the factory profile the bank with the pending mark, else the one
with the lower generation, bank A on a tie (R180). -/
def commitTarget (s : State) : AB :=
  match s.nvs.active with
  | some x => x.other
  | none =>
    match s.upd.mark with
    | some m => m.bank
    | none => if s.bankGen .b < s.bankGen .a then .b else .a

end Sys2Proof.Machine
end

