-- ==== Sys2Proof/Machine/Analog.lean ====
section
/-! DEFINITION. The analog channels' ring (R41 to R49), the alignment unit (R50 to R58) and the resistance unit (R59 to R69). -/
namespace Sys2Proof.Machine

/-! ## The ring -/

/-- The newest ring entry (R48). -/
def State.newest (s : State) : Option RingEntry := s.ana.ring.getLast?

/-- An entry is appended; the oldest of 64 is removed (R43). By R48 an entry would stay until the 65th arrival after it; the model follows
R43 (log 32). -/
def appendRing (ring : List RingEntry) (e : RingEntry) : List RingEntry :=
  if ring.length < 64 then ring ++ [e] else ring.drop (ring.length - 63) ++ [e]

/-- A delivered conversion as a ring entry, clamped and marked (R43). -/
def ringEntry (t : Time) (current : Int) (pack link : Nat) : RingEntry :=
  { time := t, current := max (-20000) (min 20000 current), pack := min 10000 pack, link := min 10000 link,
    saturated := decide (20000 < current ∨ current < -20000) }

/-- The distance of two instants, in microseconds. -/
def timeDist (a b : Time) : Nat := (timeDiff a b).natAbs

/-- The entry nearest an instant, the older of two equally close (R48). -/
def nearestOf (t : Time) : List RingEntry → Option RingEntry
  | [] => none
  | e :: rest =>
    match nearestOf t rest with
    | some f => if timeDist f.time t < timeDist e.time t then some f else some e
    | none => some e

/-- The ring's answer to "entry nearest an instant": the newest entry while ANALOG_FAULT is set (R48). -/
def State.nearest (s : State) (t : Time) : Option RingEntry := if s.ana.fault then s.newest else nearestOf t s.ana.ring

/-! ## Over-current -/

/-- Whether an entry is above (R47). -/
def entryAbove (p : Profile) (e : RingEntry) : Bool := decide (p.ocLimit < e.current.natAbs) || e.saturated

/-- An appended entry's part in the over-current check (R47). -/
def classEntry (e : RingEntry) (s : State) : State :=
  if s.ana.active then
    let above := entryAbove s.prof e
    s.setAna { s.ana with latestAbove := some above, run := if above = s.ana.overCurrent then 0 else s.ana.run }
  else s

/-- The tick's part in the over-current check: the run count advances when the latest class opposes the condition (R47). It stops at
the over-current time, where the run is complete and waits to be taken (log 2). -/
def tickOverCurrent (s : State) : State :=
  if s.ana.active && !s.ana.fault && s.ana.latestAbove == some (!s.ana.overCurrent) then
    s.setAna { s.ana with run := min (s.ana.run + 1) s.prof.ocTime }
  else s

/-- The over-current run is complete (R47). -/
def State.ocDue (s : State) : Bool := s.ana.active && decide (0 < s.prof.ocTime ∧ s.prof.ocTime ≤ s.ana.run)

/-! ## Alignment -/

/-- Whether a mark is held (spec/03, "Aligning a cell"). -/
def AlignMark.held : AlignMark → Bool
  | .heldOld | .heldNew | .saturated => true
  | .exact | .interpolated => false

/-- SATURATED takes the place of a mark when an entry used is saturated (R55). -/
def markOf (saturated : Bool) (m : AlignMark) : AlignMark := if saturated then .saturated else m

/-- The interpolated current at an instant between two consecutive entries (R53). -/
def interpolate (e f : RingEntry) (t : Time) : Int :=
  e.current + divAway ((f.current - e.current) * timeDiff t e.time) (timeDiff f.time e.time)

/-- The place of an instant among the entries, when it is not earlier than the first and not later than the last (R52 step 4, R53). -/
def alignWithin (t : Time) : List RingEntry → Option Aligned
  | [] => none
  | e :: rest =>
    if e.time = t then some { current := some e.current, mark := markOf e.saturated .exact }
    else
      match rest with
      | [] => none
      | f :: _ =>
        if isEarlier t f.time then
          some { current := some (interpolate e f t), mark := markOf (e.saturated || f.saturated) .interpolated }
        else alignWithin t rest

/-- The classification of an instant against the ring: an alignment, or none for deferred (R52 to R55). -/
def classify (s : State) (t : Time) : Option Aligned :=
  if s.ana.fault then none
  else
    match s.ana.ring.head?, s.newest with
    | some old, some new =>
      if isEarlier t old.time then some { current := some old.current, mark := markOf old.saturated .heldOld }
      else if isEarlier new.time t then none
      else alignWithin t s.ana.ring
    | _, _ => none

/-- The alignment a deadline makes: HELD_NEW from the newest entry, its current absent when the ring is empty (R53, R55). -/
def heldNewAlign (s : State) : Aligned :=
  match s.newest with
  | some e => { current := some e.current, mark := markOf e.saturated .heldNew }
  | none => { current := none, mark := .heldNew }

/-! ## Resistance -/

/-- A reading becomes the cell's reference (R63, R67). -/
def storeRef (v : Nat) (i : Int) (c : Cell) : Cell := { c with ref := some { v := v, i := i, age := 0, expired := false } }

/-- The raw estimate of R65, before its classification. -/
def rawEstimate (dv di : Int) : Int := divAway (1000 * dv) di

/-- The filter of R68 with shift f. -/
def filterStep (f : Nat) (old : Option Nat) (raw : Nat) : Nat :=
  match old with
  | none => raw
  | some r => ((r : Int) + divAway ((raw : Int) - r) (2 ^ f : Nat)).toNat

/-- A FORMED or CLAMPED estimate is kept and filtered (R65, R68). -/
def keepEstimate (p : Profile) (m : ResMark) (raw : Nat) (c : Cell) : Cell :=
  { c with rMark := m, rRaw := some raw, rFilt := some (filterStep p.filterShift c.rFilt raw) }

/-- A usable reading of a cell with an unexpired reference (R64 to R68). -/
def estimate (p : Profile) (v : Nat) (i : Int) (r : Ref) (c : Cell) : Cell :=
  let dv : Int := (v : Int) - r.v
  let di := i - r.i
  if di.natAbs < p.minStep then { c with rMark := .smallStep }
  else
    let e := rawEstimate dv di
    let c1 :=
      if e < 0 then { c with rMark := .negative }
      else if e ≤ 65535 then keepEstimate p .formed e.toNat c
      else keepEstimate p .clamped 65535 c
    storeRef v i c1

/-- A reference's age is greater than the reference maximum age: the tick has found it expired (R61). -/
def Ref.overdue (p : Profile) (r : Ref) : Bool := decide (p.refMaxAge < r.age)

/-- The resistance unit takes an aligned reading of a cell (R62 to R68). A reference that the tick before has found expired is expired for
the reading, also while its flag has not been set yet (R61). -/
def takeReading (p : Profile) (source : SweepSource) (al : Aligned) (c : Cell) : Cell :=
  if source = .sleep then c
  else if al.mark.held then { c with rMark := .held }
  else
    match c.code, al.current with
    | some v, some i =>
      match c.ref with
      | none => { storeRef v i c with rMark := .noReference }
      | some r => if r.expired || r.overdue p then { storeRef v i c with rMark := .noReference } else estimate p v i r c
    | _, _ => { c with rMark := .held }

/-- The source of the sweep record that stands. -/
def State.sweepSource (s : State) : SweepSource :=
  match s.sch.sweep with
  | some w => w.source
  | none => .demand

/-- An alignment is made: written to the cell, counted and reported when held, and handed to the resistance unit (R56); or kept for the
summary (R57). -/
def makeAlignment (target : Option Nat) (al : Aligned) (s : State) : State :=
  match target with
  | none => s.setSch { s.sch with sumAlign := some al }
  | some i =>
    let s1 := s.setCell i { s.cell i with current := al.current, mark := some al.mark }
    let s2 := if al.mark.held then setCond .alignHeld (occurrence .alignHeld s1) else s1
    s2.setCell i (takeReading s2.prof s2.sweepSource al (s2.cell i))

/-- An instant is submitted: aligned at once, or deferred with the instant plus 2P as its deadline (R51, R52), also when that deadline is
already past (log 33). P is the period in force: after a profile switch the old one, until the next sampling instant (R46). -/
def submitAlign (target : Option Nat) (t : Time) (s : State) : State :=
  match classify s t with
  | some al => makeAlignment target al s
  | none => s.setAln (s.aln ++ [{ target := target, instant := t, deadline := t + us (2 * s.ana.period) }])

/-- Each deferred item is classified again at an arrival; those aligned leave the list (R52). -/
def reclassify : List AlignItem → State → State
  | [], s => s
  | it :: rest, s =>
    match classify s it.instant with
    | some al => reclassify rest (makeAlignment it.target al (s.setAln (s.aln.erase it)))
    | none => reclassify rest s

/-! ## Power of the channels -/

/-- A power-down of the channels (R45). A ready report still owed is dropped (log 34). -/
def anaPowerDown (s : State) : State :=
  clearCond .overCurrent (clearCond .analogFault (s.setAna { s.ana with
    sampling := false, outstanding := none, ring := [], lost := 0, fault := false, overCurrent := false, run := 0,
    latestAbove := none, readyOwed := none }))

/-- A power-up of the channels, owing a ready report after two entries; the first sampling instant is one period
later (R45). The period is the one in force at the request, also when a switch to a new one has met no sampling instant yet (DESIGN
CHOICE, log 45). -/
def anaPowerUp (s : State) : State :=
  if s.ana.sampling then s.setAna { s.ana with ring := [], readyOwed := some 2, latestAbove := none }
  else s.setAna { s.ana with
    sampling := true, nextInstant := s.now + us s.ana.period, ring := [], readyOwed := some 2, latestAbove := none }

end Sys2Proof.Machine
end

