-- ==== Sys2Proof/Machine/Contactors.lean ====
section
/-! DEFINITION. The contactor drivers: coils, feedback, the contactor state machine and what they hand on (R91 to R108). The sequence
runner hears of a transition from its caller (R105 stage 4). -/
namespace Sys2Proof.Machine

/-- Measured times saturate here (R99). -/
def maxMeasured : Nat := 65535000

/-- Counts saturate here (R99, R102). -/
def maxCount : Nat := 4294967295

/-- A measured time: a signed difference of two instants, in microseconds, saturating (R99, R101). -/
def measured (fin start : Time) : Nat := min maxMeasured (timeDiff fin start).toNat

/-- The coil's drive in 256ths of full strength: OFF 0, PULL_IN 256, HOLD the hold width (R93). -/
def coilDrive (s : State) (k : Nat) : Nat :=
  match (s.chan k).coil with
  | .off => 0
  | .pullIn => 256
  | .hold => (s.chanCfg k).holdWidth

/-- A channel's feedback level read through its polarity, true for CLOSED (R95). -/
def readFeedback (p : Polarity) (level : Bool) : Bool :=
  match p with
  | .highClosed => level
  | .lowClosed => !level

/-- A closing change is in debounce: accepted OPEN with a run being counted (R95). -/
def Chan.closingChange (c : Chan) : Bool := !c.closedFb && decide (0 < c.debounce)

/-- A channel releases its coil at a pack time (R93). -/
def Chan.release (t : Time) (c : Chan) : Chan := { c with coil := .off, pullIn := none, releaseAt := t }

/-- A CONTACTOR record's make or break time (R104). -/
structure Times where
  make : Option Nat
  brk : Option Nat

/-- A record of a transition that carries no time. -/
def noTimes : Times := { make := none, brk := none }

/-- A channel has taken its new values; its record is written and CONTACTOR_FAULT judged (R104, R105 stages 2 and 3). `instant` is the
record's instant. -/
def handOn (k : Nat) (left entered : KState) (tm : Times) (hardBreak : Bool) (instant : Time) (s : State) : State :=
  let body := RecordBody.contactor k left entered s.now tm.make tm.brk hardBreak (s.nearest instant)
  judgeContactorFault (offerRecord entered.faulted body s)

/-- The hard-break test on the newest ring entry. With an empty ring it finds none, also at a hard-break limit of 0, of which R102 says
too that every open of a CLOSED contactor is a hard break (DESIGN CHOICE, log 41). -/
def hardBreakTest (s : State) : Bool :=
  match s.newest with
  | some e => decide (s.prof.hardBreakLimit ≤ e.current.natAbs)
  | none => false

/-- Channel k moves from OPENING to OPEN with no break time measured (R101). -/
def enterOpenUntimed (k : Nat) (s : State) : State :=
  let c := s.chan k
  handOn k .opening .opened noTimes c.underLoad s.now (s.setChan k { c with st := .opened, superv := none })

/-- An open command for channel k (R96, R100 to R102). -/
def openCmd (k : Nat) (s : State) : State :=
  let c := s.chan k
  if s.inUse k && (c.st == .closing || c.st == .closed) then
    let hard := c.st == .closed && hardBreakTest s
    let c1 := { c.release s.now with
      st := .opening, superv := some (s.chanCfg k).breakMax, underLoad := hard,
      hardBreaks := if hard then min maxCount (c.hardBreaks + 1) else c.hardBreaks }
    let s1 := s.setChan k c1
    let s2 := if hard then occurrence .hardBreak s1 else s1
    if !c.closedFb && !c.closingChange then enterOpenUntimed k s2 else s2
  else s

/-- A close command for channel k (R93, R96, R97). -/
def closeCmd (k : Nat) (s : State) : State :=
  let c := s.chan k
  if s.inUse k && c.st == .opened then
    s.setChan k { c with
      st := .closing, coil := .pullIn, pullIn := some (s.chanCfg k).pullIn, energizeAt := s.now,
      superv := some (s.chanCfg k).makeMax, underLoad := false }
  else s

/-- An open command to every channel in CLOSING or CLOSED, in order K0 to K3 (R128 stage 1, R129, R130). -/
def openEvery (s : State) : State := openCmd 3 (openCmd 2 (openCmd 1 (openCmd 0 s)))

/-- Channel k enters a faulted state: its coil is off and no countdown runs (R103). -/
def enterFault (k : Nat) (entered : KState) (hardBreak : Bool) (instant : Time) (s : State) : State :=
  let c := s.chan k
  let c1 := if c.st == .closing || c.st == .closed then c.release s.now else c
  handOn k c.st entered noTimes hardBreak instant
    (s.setChan k { c1 with st := entered, pullIn := none, superv := none, settling := none })

/-- The drivers act on an accepted change of channel k's feedback, already taken; the acceptance is 2000 us after its edge
(R95, R97 to R99, R101, R103, R107). The channel's new state is told to the runner when the answer says so. An
accepted CLOSED in CLOSING moves to CLOSED by R99, also when its debounce began before the close command: so R97's list and its last
paragraph, against its words 'treated under R98' (DEDUCED, log 50). -/
def actOnFeedback (k : Nat) (s : State) : State × Bool :=
  let c := s.chan k
  let at_ := c.edge + us 2000
  if !s.inUse k then (s, false)
  else
    match c.st, c.closedFb with
    | .closing, true =>
      let mk := measured at_ c.energizeAt
      let s1 := s.setChan k { c with
        st := .closed, superv := none, lastMake := some mk, closes := min maxCount (c.closes + 1) }
      (handOn k .closing .closed { make := some mk, brk := none } false c.edge (occurrence .contactorClosed s1), true)
    | .closed, false => (enterFault k .dropout false c.edge s, true)
    | .opening, false =>
      let br := measured at_ c.releaseAt
      let s1 := s.setChan k { c with st := .opened, superv := none, lastBreak := some br }
      (handOn k .opening .opened { make := none, brk := some br } c.underLoad c.edge s1, true)
    | .opened, true => if c.settling.isSome then (s, false) else (enterFault k .weldSuspect false c.edge s, true)
    | _, _ => (s, false)

/-- The sample of a tick on a channel, before any accepted change acts (R95). -/
def Chan.sample (sample : Bool) (t : Time) (c : Chan) : Chan :=
  if sample = c.closedFb then { c with debounce := 0, acceptDue := false }
  else
    match c.debounce with
    | 0 => { c with debounce := 1, edge := t }
    | 1 => { c with debounce := 2 }
    | _ => { c with acceptDue := true }

/-- A countdown of the drivers goes down by one and stops at 0. -/
def tickDown : Option Nat → Option Nat
  | some n => some (n - 1)
  | none => none

/-- The countdowns of a channel at a tick: pull-in, then supervision and settling (R95). -/
def Chan.countDown (c : Chan) : Chan :=
  { c with pullIn := tickDown c.pullIn, superv := tickDown c.superv, settling := tickDown c.settling }

/-- An accepted change is taken into the channel (R95). -/
def Chan.accept (c : Chan) : Chan := { c with closedFb := !c.closedFb, debounce := 0, acceptDue := false }

/-- A channel whose polarity changes reads its accepted feedback afresh from the input level (R92, R108). -/
def rereadFeedback (old new : ChanCfg) (level : Bool) (c : Chan) : Chan :=
  if old.polarity = new.polarity then c
  else { c with closedFb := readFeedback new.polarity level, debounce := 0, acceptDue := false }

/-- The drivers take a new profile's polarities, the active profile being the old one still (R92, R108). The input level that is read
afresh is the one the last tick sampled, since a level reaches the model with a tick alone (DESIGN CHOICE, log 48). -/
def takePolarities (p : Profile) (s : State) : State :=
  s.setKdr { s.kdr with
    chans := (List.range s.kdr.chans.length).map fun k =>
      rereadFeedback (s.chanCfg k) (p.chans.getD k factoryChan) (s.pins.feedback.getLsbD k) (s.chan k) }

/-- At a profile switch, an in-use channel with closed feedback moves from OPEN to WELD_SUSPECT (R108). -/
def switchWeld (k : Nat) (s : State) : State :=
  if s.inUse k && (s.chan k).closedFb && (s.chan k).st == .opened then enterFault k .weldSuspect false s.now s else s

/-- R108. The order K0 to K3 of the channels is the model's (log 36). -/
def switchWelds (s : State) : State := switchWeld 3 (switchWeld 2 (switchWeld 1 (switchWeld 0 s)))

/-- At selection the settling countdown of every in-use channel is loaded with its break max (R107). -/
def loadSettling (s : State) : State :=
  s.setKdr { s.kdr with
    chans := (List.range s.kdr.chans.length).map fun k =>
      { s.chan k with settling := if s.inUse k then some (s.chanCfg k).breakMax else none } }

/-- Every channel has settled (R107). -/
def State.allSettled (s : State) : Bool := s.kdr.chans.all fun c => c.settling.isNone

/-- Supervision is suspended as the part enters SLEEP (R95, R156). -/
def suspendSupervision (s : State) : State := s.setKdr { s.kdr with suspended := true }

/-- Supervision resumes as the part enters WAKING: accepted feedback OPEN, count 0 (R95). -/
def resumeSupervision (s : State) : State :=
  s.setKdr { s.kdr with
    suspended := false
    chans := s.kdr.chans.map fun c => { c with closedFb := false, debounce := 0, acceptDue := false } }

end Sys2Proof.Machine
end

