-- ==== Sys2Proof/Machine/Sched.lean ====
section
/-! DEFINITION. The sampling scheduler: slots, launches, the arbiter, suspension and release (R1 to R16), and the chain master's module
table, enumeration and power (R23 to R36). -/
namespace Sys2Proof.Machine

/-! ## Launches and the arbiter -/

/-- A launch is granted: the sweep tag advances and a new record enters BROADCASTING (R10, R23). -/
def grant (source : SweepSource) (mask : ModMask) (s : State) : State :=
  let tag := s.chn.sweepTag + 1
  let s1 := s.setChn { s.chn with sweepTag := tag, st := .sweeping, wait := .nothing }
  s1.setSch { s1.sch with
    sweep := some { tag := tag, source := source, requested := mask, received := 0, tb := none, unreported := false,
                    stage := .broadcasting }
    sumAlign := none }

/-- The lowest slot that holds a pending launch, counting from n on, with its mask (R9). -/
def lowestPending : Nat → List (Option ModMask) → Option (Nat × ModMask)
  | _, [] => none
  | n, some m :: _ => some (n, m)
  | n, none :: rest => lowestPending (n + 1) rest

/-- The launch arbiter (R9): when no sweep is in flight, the chain master is not enumerating and the scheduler is not suspended, it
grants the event source, else the demand source, else the lowest slot that holds a launch. -/
def arbiter (s : State) : State :=
  if s.linkQuiet && !s.sch.suspended then
    match s.sch.pendEvent, s.sch.pendDemand, lowestPending 0 s.sch.pendSlots with
    | some m, _, _ => grant .event m (s.setSch { s.sch with pendEvent := none })
    | none, some m, _ => grant .demand m (s.setSch { s.sch with pendDemand := none })
    | none, none, some (n, m) => grant (.slot n) m (s.setSch { s.sch with pendSlots := s.sch.pendSlots.set n none })
    | none, none, none => s
  else s

/-! ## The schedule -/

/-- The countdowns a start loads: each enabled slot's phase plus 1 (R3). -/
def startCountdowns (p : Profile) : List (Option Nat) := p.slots.map fun c => if c.enabled then some (c.phase + 1) else none

/-- The schedule becomes RUNNING with its countdowns loaded (R3, R15). -/
def runSchedule (s : State) : State := s.setSch { s.sch with running := true, countdowns := startCountdowns s.prof }

/-- Every countdown halted. -/
def haltedCountdowns : List (Option Nat) := List.replicate 8 none

/-- A suspension: the schedule STOPPED, every countdown halted, every pending launch removed (R14). -/
def suspendSched (s : State) : State :=
  s.setSch { s.sch with
    running := false, countdowns := haltedCountdowns, suspended := true, pendEvent := none, pendDemand := none,
    pendSlots := List.replicate 8 none }

/-- A release with the instruction run or stop; the arbiter resumes at once (R15). -/
def releaseSched (run : Bool) (s : State) : State :=
  let s1 := s.setSch { s.sch with suspended := false }
  arbiter (if run then runSchedule s1 else s1)

/-- A slot whose countdown stands at 0 while the schedule is RUNNING: its expiry is due (R5). -/
def State.slotDue (s : State) (i : Nat) : Bool := s.sch.running && s.sch.countdowns.getD i none == some 0

/-- Whether the sweep in flight is slot i's own (R5). -/
def State.slotInFlight (s : State) (i : Nat) : Bool :=
  s.inFlight && (match s.sch.sweep with
    | some w => w.source == .slot i
    | none => false)

/-- The expiry of slot i (R1, R5): the countdown reloads; the slot gains a pending launch, or the expiry is an overrun. -/
def slotExpire (i : Nat) (s : State) : State :=
  let c := s.prof.slots.getD i factorySlot
  let m := effectiveMask s.prof c
  let s1 := s.setSch { s.sch with countdowns := s.sch.countdowns.set i (some c.period) }
  if m = 0 then s1
  else if (s.sch.pendSlots.getD i none).isNone && !s.slotInFlight i then
    arbiter (s1.setSch { s1.sch with pendSlots := s1.sch.pendSlots.set i (some m) })
  else occurrence .slotOverrun (setCond .slotOverrun s1)

/-- The union of the effective masks of the enabled, sleep-eligible slots (R16). -/
def sleepMask (p : Profile) : ModMask :=
  p.slots.foldl (fun m c => if c.enabled && c.sleepEligible then m ||| effectiveMask p c else m) 0

/-! ## The module table and enumeration -/

/-- The end marking of one position: populated ones are lost, the others not (R33). -/
def endMark (p : Profile) (k : Nat) (m : ModEntry) : ModEntry :=
  if k < p.moduleCount then { m with present := false, misses := 3, lost := true }
  else { m with present := false, misses := 0, lost := false }

/-- The end marking of an enumeration that stopped at a position: it and every higher one (R33). -/
def endMarking (from_ : Nat) (s : State) : State :=
  judgeModuleLost (s.setChn { s.chn with
    modules := (List.range s.chn.modules.length).map fun k =>
      if from_ ≤ k then endMark s.prof k (s.modEntry k) else s.modEntry k })

/-- The marking of one position at a profile switch, by the present flag as it stands (R35). -/
def switchMark (p : Profile) (k : Nat) (m : ModEntry) : ModEntry :=
  if k < p.moduleCount then (if m.present then m else { m with misses := 3, lost := true })
  else { m with misses := 0, lost := false }

/-- The end marking at a profile switch (R35). -/
def switchMarking (s : State) : State :=
  judgeModuleLost (s.setChn { s.chn with
    modules := (List.range s.chn.modules.length).map fun k => switchMark s.prof k (s.modEntry k) })

/-- The end of the reply window of a READ or an IDENT that begins now: its 4 bytes leave in 20 us, the window is 400 us
(R22, R26, R204, log 13). -/
def replyEnd (s : State) : Time := s.now + us 420

/-- An IDENT is sent to a position (R32). -/
def sendIdent (k : Nat) (s : State) : State := s.setChn { s.chn with wait := .ident k (replyEnd s) }

/-- An enumeration starts at position 0 (R32). -/
def startEnumeration (s : State) : State := sendIdent 0 (s.setChn { s.chn with st := .enumerating })

/-! ## Chain power -/

/-- The power-up interval of 5 ms (R36). -/
def powerUpInterval : Nat := 5000

/-- A power-down request: taken in IDLE at once, otherwise when the chain returns to IDLE (R36). In POWERING and POWERED_DOWN, which R36
does not name, it waits in the same way, and it then goes before an owed ready report (log 31). -/
def chainPowerDown (s : State) : State :=
  if s.chn.st = .idle then s.setChn { s.chn with st := .poweredDown, downWanted := false }
  else s.setChn { s.chn with downWanted := true }

/-- A power-up request: from POWERED_DOWN the supply is turned on and the ready report owed; in IDLE it is answered at once; otherwise
when the chain reaches IDLE (R36). -/
def chainPowerUp (s : State) : State :=
  match s.chn.st with
  | .poweredDown =>
    s.setChn { s.chn with st := .powering, powerUpEnd := some (s.now + us powerUpInterval), readyOwed := true }
  | .idle => s
  | .powering | .sweeping | .enumerating => s.setChn { s.chn with readyOwed := true }

end Sys2Proof.Machine
end

