-- ==== Sys2Proof/Machine/Runner.lean ====
section
/-! DEFINITION. The sequence runner: the closing gate, the steps, the ends of a sequence, OPEN_ALL and trips (R113 to R131), and the
limit monitor that hands trips to it (R72 to R81). -/
namespace Sys2Proof.Machine

/-! ## The closing gate -/

/-- Whether an activation is in progress (R116). -/
def State.activating (s : State) : Bool := s.upd.act != ActState.none

/-- Whether a term of the closing gate passes (R117). -/
def gatePasses (s : State) : GateTerm → Bool
  | .allFresh => s.populated.all (·.fresh)
  | .noBreach => s.populated.all fun c => c.breach != .ov && c.breach != .uv
  | .noContactorFault => !s.anyFaulted
  | .noOverCurrent => !s.ana.overCurrent
  | .noActivation => !s.activating

/-- The failing terms of the closing gate, in the order of its table; empty when the gate passes (R117). -/
def failingTerms (s : State) : List GateTerm :=
  [.allFresh, .noBreach, .noContactorFault, .noOverCurrent, .noActivation].filter fun t => !gatePasses s t

/-! ## The ends of a sequence -/

/-- The runner withdraws its event request: a pending launch is removed, a granted one marked unreported (R8, R125). -/
def withdrawEvent (s : State) : State :=
  if s.sch.pendEvent.isSome then s.setSch { s.sch with pendEvent := none }
  else
    match s.sch.sweep with
    | some w =>
      if w.source = .event ∧ w.stage ≠ .done then s.setSch { s.sch with sweep := some { w with unreported := true } } else s
    | none => s

/-- A sequence ends without success (R128). The step in progress is the run's. -/
def endSequence (reason : SeqReason) (terms : List GateTerm) (s : State) : State :=
  match s.seq.run with
  | none => s
  | some r =>
    let s1 := openEvery s
    let s2 := if r.eventReq then withdrawEvent s1 else s1
    let s3 := offerRecord true (.sequence r.id (some (r.idx, reason)) s2.now) s2
    let s4 := setCond .seqFailed (occurrence .seqFailed s3)
    s4.setSeq { run := none, last := some (.failed r.id s4.now r.idx reason terms) }

/-- An END step completes the sequence (R126). -/
def completeSequence (r : Run) (s : State) : State :=
  let s1 := setCond .seqDone (offerRecord false (.sequence r.id none s.now) s)
  s1.setSeq { run := none, last := some (.done r.id s1.now) }

/-! ## The steps -/

/-- What the start of a step comes to: it waits; it completes, passing over the next step or not; it fails; it ends the sequence. -/
inductive StepResult where
  | waits (s : State)
  | completes (skip : Bool) (s : State)
  | fails (reason : SeqReason) (terms : List GateTerm) (s : State)
  | ends (s : State)

/-- The steps of a sequence of the active profile (R113). -/
def State.sequence (s : State) (id : Nat) : List SeqStep := s.prof.sequences.getD id []

/-- The step in progress. -/
def State.currentStep (s : State) : Option SeqStep := s.seq.run.bind fun r => (s.sequence r.id)[r.idx]?

/-- Replaces the run. -/
def State.setRun (s : State) (r : Run) : State := s.setSeq { s.seq with run := some r }

/-- The run awaits an item. -/
def awaiting (a : Awaited) (s : State) : State :=
  match s.seq.run with
  | some r => s.setRun { r with awaited := a }
  | none => s

/-- The step timer is loaded (R119). -/
def loadTimer (t : Nat) (s : State) : State :=
  match s.seq.run with
  | some r => s.setRun { r with timer := some t }
  | none => s

/-- "Link at least p% of pack" (R122). -/
def linkAtLeast (p : Nat) (e : RingEntry) : Bool := decide (p * e.pack ≤ 100 * e.link)

/-- "Link at most p% of pack" (R122). -/
def linkAtMost (p : Nat) (e : RingEntry) : Bool := decide (100 * e.link ≤ p * e.pack)

/-- Below this pack voltage a link test means nothing (R122). -/
def minPack : Nat := 500

/-- The start of a CLOSE step (R120). -/
def startClose (k : Nat) (s : State) : StepResult :=
  let failing := failingTerms s
  if failing ≠ [] then .fails .gate failing s
  else
    match (s.chan k).st with
    | .opened => .waits (awaiting (.contactor k) (closeCmd k s))
    | .closed => .completes false s
    | .closing | .opening => .waits (awaiting (.contactor k) s)
    | .closeFailed | .dropout | .weldSuspect => .fails .gate [.noContactorFault] s

/-- The start of an OPEN step (R121). -/
def startOpen (k : Nat) (s : State) : StepResult :=
  match (s.chan k).st with
  | .closing | .closed =>
    let s1 := openCmd k s
    if (s1.chan k).st = .opened then .completes false s1 else .waits (awaiting (.contactor k) s1)
  | .opening => .waits (awaiting (.contactor k) s)
  | .opened => .completes false s
  | .closeFailed | .dropout | .weldSuspect => .fails .fault [] s

/-- A link test of an AWAIT step on an entry; the step's first test checks the pack voltage (R122, R123). -/
def awaitTest (holds : RingEntry → Bool) (e : RingEntry) (s : State) : StepResult :=
  match s.seq.run with
  | none => .waits s
  | some r =>
    if !r.tested && decide (e.pack < minPack) then .fails .noPackVoltage [] s
    else if holds e then .completes false s
    else .waits (s.setRun { r with tested := true })

/-- The start of an AWAIT step (R123). -/
def startAwait (t : Nat) (holds : RingEntry → Bool) (s : State) : StepResult :=
  let s1 := awaiting .arrival (loadTimer t s)
  if s1.ana.fault then .waits s1
  else
    match s1.newest with
    | some e => awaitTest holds e s1
    | none => .waits s1

/-- The start of a SKIP_IF step (R124). -/
def startSkip (c : SkipCond) (s : State) : StepResult :=
  match c with
  | .linkAtLeast p =>
    if s.ana.fault then .completes false s
    else
      match s.newest with
      | none => .completes false s
      | some e => if e.pack < minPack then .fails .noPackVoltage [] s else .completes (linkAtLeast p e) s
  | .closed k => .completes ((s.chan k).st == .closed) s
  | .opened k => .completes ((s.chan k).st == .opened) s
  | .allFresh => .completes (gatePasses s .allFresh) s

/-- The start of a SWEEP step: the event source gains a pending launch of every populated position (R8, R125). -/
def startSweep (s : State) : StepResult :=
  let s1 := s.setSch { s.sch with pendEvent := some (popMask s.prof) }
  match s1.seq.run with
  | some r => .waits (s1.setRun { r with awaited := .sweep, eventReq := true })
  | none => .waits s1

/-- The start of a step by its kind (R118 to R126). -/
def startStep (st : SeqStep) (s : State) : StepResult :=
  match st with
  | .close k => startClose k s
  | .opn k => startOpen k s
  | .wait t => .waits (awaiting .timer (loadTimer t s))
  | .awaitLink p t => startAwait t (linkAtLeast p) s
  | .awaitDecay p t => startAwait t (linkAtMost p) s
  | .skipIf c => startSkip c s
  | .sweep => startSweep s
  | .endSeq =>
    match s.seq.run with
    | some r => .ends (completeSequence r s)
    | none => .ends s

/-- The run enters a step: its index and start instant are recorded, the timer of the step before is gone (R118, R119). -/
def enterStep (idx : Nat) (r : Run) (s : State) : State :=
  s.setRun { r with idx := idx, start := s.now, timer := none, awaited := .nothing, tested := false }

/-- The steps from an index on start one after the other until one waits or the sequence ends (R118). A run has at most 12 steps and
its index only rises, so 13 starts are never used up. -/
def runSteps : Nat → Nat → State → State
  | 0, _, s => s
  | n + 1, idx, s =>
    match s.seq.run with
    | none => s
    | some r =>
      match (s.sequence r.id)[idx]? with
      | none => s
      | some st =>
        match startStep st (enterStep idx r s) with
        | .waits s1 => s1
        | .completes skip s1 => runSteps n (if skip then idx + 2 else idx + 1) s1
        | .fails reason terms s1 => endSequence reason terms s1
        | .ends s1 => s1

/-- The steps from an index on, and then the arbiter, since a SWEEP step may have made a launch (R9, R118). -/
def proceed (idx : Nat) (s : State) : State := arbiter (runSteps 13 idx s)

/-- A result of a test on the step in progress (R118). -/
def settleStep (idx : Nat) : StepResult → State
  | .waits s => s
  | .completes skip s => proceed (if skip then idx + 2 else idx + 1) s
  | .fails reason terms s => endSequence reason terms s
  | .ends s => s

/-! ## Events that reach the runner -/

/-- The reason for which a contactor's fault ends a sequence (R127). -/
def faultReason (s : State) (k : Nat) (entered : KState) : SeqReason :=
  match s.currentStep, s.seq.run.map Run.awaited with
  | some (.close _), some (.contactor j) => if j = k ∧ entered = .closeFailed then .closeFailed else .fault
  | some (.opn _), some (.contactor j) => if j = k ∧ entered = .weldSuspect then .weldSuspect else .fault
  | _, _ => .fault

/-- The drivers' report of a channel and its new state (R105 stage 4, R120, R121, R127). -/
def runnerReport (k : Nat) (entered : KState) (s : State) : State :=
  match s.seq.run with
  | none => s
  | some r =>
    if entered.faulted then endSequence (faultReason s k entered) [] s
    else if r.awaited = .contactor k then
      match s.currentStep, entered with
      | some (.close _), .closed => proceed (r.idx + 1) s
      | some (.close _), .opened => proceed r.idx s
      | some (.opn _), .opened => proceed (r.idx + 1) s
      | _, _ => s
    else s

/-- The scheduler's report of the completion of the event sweep (R125). -/
def runnerSwept (requested received : ModMask) (s : State) : State :=
  match s.seq.run with
  | none => s
  | some r =>
    if r.awaited = .sweep ∧ r.eventReq = true then
      let s1 := s.setRun { r with eventReq := false }
      if received = requested then runSteps 13 (r.idx + 1) s1 else endSequence .sweepFailed [] s1
    else s

/-- The run awaits a ring arrival (R123). -/
def State.awaitsArrival (s : State) : Bool := (s.seq.run.map Run.awaited) == some .arrival

/-- The arrival of a ring entry at the runner (R123). -/
def runnerArrival (e : RingEntry) (s : State) : State :=
  match s.seq.run, s.currentStep with
  | some r, some (.awaitLink p _) => if s.awaitsArrival then settleStep r.idx (awaitTest (linkAtLeast p) e s) else s
  | some r, some (.awaitDecay p _) => if s.awaitsArrival then settleStep r.idx (awaitTest (linkAtMost p) e s) else s
  | _, _ => s

/-- The step timer stands at 0: its end is due (R119). -/
def State.timerDue (s : State) : Bool := (s.seq.run.bind Run.timer) == some 0

/-- The end of the step timer (R119). -/
def runnerTimer (s : State) : State :=
  match s.seq.run, s.currentStep with
  | some r, some (.wait _) => proceed (r.idx + 1) s
  | some _, some (.awaitLink _ _) => endSequence .linkTimeout [] s
  | some _, some (.awaitDecay _ _) => endSequence .decayTimeout [] s
  | _, _ => s

/-- A tick of the step timer (R119). -/
def tickRunner (s : State) : State :=
  match s.seq.run with
  | some r => s.setRun { r with timer := tickDown r.timer }
  | none => s

/-- OPEN_ALL and a trip: a running sequence ends with the reason given, else every closing or closed contactor is commanded open
(R129, R130). -/
def openForAll (reason : SeqReason) (s : State) : State :=
  if s.seq.run.isSome then endSequence reason [] s else openEvery s

/-! ## The limit monitor -/

/-- A change of a tripping condition from clear to set: the trip action is applied (R80). -/
def applyTrip (cause : TripCause) (action : Bool) (s : State) : State :=
  if action && s.pwr.mode == .run then
    let s1 := openForAll .trip s
    s1.setLim { lastTrip := some (cause, s1.now) }
  else s

/-- The class of a reading (R74). -/
inductive ReadingClass where
  | high | low | inside
deriving DecidableEq, Repr

/-- R74. -/
def readingClass (p : Profile) (c : Cell) : ReadingClass :=
  let v := c.code.getD 0
  if c.range = .outOfRange ∨ p.ovLimit < v then .high
  else if v < p.uvLimit then .low
  else .inside

/-- A reading lies in the OV exit band, by R74's own limits. With a hysteresis above OV less UV, which R177 allows, some readings of
class low lie outside it, and R76 says that a low reading lies in it: the model follows R74 (DESIGN CHOICE, log 40). -/
def inOvExit (p : Profile) (c : Cell) : Bool :=
  decide (c.range = .normal ∧ c.code.getD 0 + p.hysteresis ≤ p.ovLimit)

/-- A reading lies in the UV exit band, by R74's own limits. With a hysteresis above OV less UV some readings of class high lie outside
it, against R76's words: the model follows R74 (DESIGN CHOICE, log 40). -/
def inUvExit (p : Profile) (c : Cell) : Bool := decide (p.uvLimit + p.hysteresis ≤ c.code.getD 0)

/-- A reading counts toward OV: the k-th of its run (R75). -/
def towardOv (p : Profile) (k : Nat) (c : Cell) : Cell :=
  if p.debounce ≤ k then { c with breach := .ov, breachCount := 0 } else { c with breach := .ovPending, breachCount := k }

/-- A reading counts toward UV: the k-th of its run (R75). -/
def towardUv (p : Profile) (k : Nat) (c : Cell) : Cell :=
  if p.debounce ≤ k then { c with breach := .uv, breachCount := 0 } else { c with breach := .uvPending, breachCount := k }

/-- A reading of a cell in a breach: toward exit in the exit band, back to 0 outside it (R76). -/
def towardExit (p : Profile) (inBand : Bool) (c : Cell) : Cell :=
  if inBand then
    (if p.debounce ≤ c.breachCount + 1 then { c with breach := .normal, breachCount := 0 }
     else { c with breachCount := c.breachCount + 1 })
  else { c with breachCount := 0 }

/-- A cell's move on its reading (R75, R76). -/
def moveBreach (p : Profile) (c : Cell) : Cell :=
  match c.breach, readingClass p c with
  | .ov, _ => towardExit p (inOvExit p c) c
  | .uv, _ => towardExit p (inUvExit p c) c
  | .ovPending, .high => towardOv p (c.breachCount + 1) c
  | .uvPending, .low => towardUv p (c.breachCount + 1) c
  | _, .high => towardOv p 1 c
  | _, .low => towardUv p 1 c
  | _, .inside => { c with breach := .normal, breachCount := 0 }

/-- Whether a move was a breach entry (R75, R77). -/
def entersBreach (before after : Cell) : Bool :=
  (after.breach == .ov && before.breach != .ov) || (after.breach == .uv && before.breach != .uv)

/-- The cells of a list each make their move; the number of breach entries is counted (R77 steps 1 and 2). -/
def moveCells : List Nat → State → State × Nat
  | [], s => (s, 0)
  | i :: rest, s =>
    let c := s.cell i
    let d := moveBreach s.prof c
    let (s1, n) := moveCells rest (s.setCell i d)
    (s1, if entersBreach c d then n + 1 else n)

/-- The evaluation of a sweep's written cells (R77). -/
def limitEvaluate (written : List Nat) (s : State) : State :=
  let (s1, n) := moveCells written s
  let s2 := judgeBreach (occurrences .cellBreachEnter n s1)
  let newOv := !s1.condSet .cellOv && s2.condSet .cellOv
  let newUv := !s1.condSet .cellUv && s2.condSet .cellUv
  let s3 := if newOv then applyTrip .cellOv s2.prof.tripOv s2 else s2
  if newUv then applyTrip .cellUv s3.prof.tripUv s3 else s3

end Sys2Proof.Machine
end

