-- ==== Sys2Proof/Machine/Switch.lean ====
section
/-! DEFINITION. The transmit path's choice (R87, R166, R196, R198) and the profile switch with its pursuit (R184, R185). -/
namespace Sys2Proof.Machine

/-! ## The transmit path -/

/-- The modes in which a CONDITIONS notice is offered (R87). -/
def Mode.noticesOffered : Mode → Bool
  | .startup | .run | .sleepEntry | .waking => true
  | .sleep | .sleepSweep => false

/-- The modes in which a WOKE notice is offered (R166). -/
def Mode.wokeOffered : Mode → Bool
  | .run | .sleepEntry | .waking => true
  | .startup | .sleep | .sleepSweep => false

/-- A WOKE notice begins: it takes a number and the last wake-cause set, and its flag is cleared (R166, R198). -/
def beginWoke (s : State) : State :=
  let s1 := s.setPwr { s.pwr with wokeFlag := false }
  s1.setPli { s1.pli with sending := some (.woke s.pli.noticeNo s.pwr.lastWake), noticeNo := s.pli.noticeNo + 1 }

/-- A CONDITIONS notice begins: it takes a number and the two sets, and its flag is cleared (R87, R198). -/
def beginConditions (s : State) : State :=
  let s1 := s.setCnd { s.cnd with noticePending := false }
  s1.setPli { s1.pli with
    sending := some (.conditions s.pli.noticeNo s.cnd.set s.cnd.enables), noticeNo := s.pli.noticeNo + 1 }

/-- When the path is FREE it begins the reply of the frame in service, else a WOKE notice, else a CONDITIONS notice (R196). In SLEEP and
SLEEP_SWEEP it sends nothing (R197). -/
def linkPump (s : State) : State :=
  if s.pli.sending.isSome || !s.pwr.mode.noticesOffered then s
  else
    match s.pli.reply with
    | some f => s.setPli { s.pli with reply := none, sending := some f }
    | none =>
      if s.pwr.wokeFlag && s.pwr.mode.wokeOffered then beginWoke s
      else if s.cnd.noticePending then beginConditions s
      else s

/-- The link is at rest, as stage 4 of sleep entry asks (R197). -/
def State.linkAtRest (s : State) : Bool :=
  s.pli.holding.isEmpty && s.pli.sending.isNone && s.pli.reply.isNone && !s.pwr.wokeFlag && !s.cnd.noticePending

/-! ## The profile switch -/

/-- Two profiles have the same population (R185). -/
def samePopulation (p q : Profile) : Bool :=
  p.moduleCount == q.moduleCount && (List.range 12).all fun k => cellsAt p k == cellsAt q k

/-- A cell at a switch that keeps the population (R69, R185). -/
def switchCell (c : Cell) : Cell :=
  { c with breach := .normal, breachCount := 0, ref := none, rRaw := none, rFilt := none, rMark := .none }

/-- The cell table at a switch to a profile (R18, R185). -/
def switchCells (p : Profile) (s : State) : State :=
  s.setCells (s.cells.map fun c => if samePopulation s.prof p then switchCell c else cellReset)

/-- The analog channels take a profile's parameters: the run count starts again, detection is active (R41, R46). The period
in force stays until the next sampling instant. -/
def anaTake (s : State) : State := s.setAna { s.ana with active := true, run := 0 }

/-- The counters take a profile's configuration, and the overflow set is emptied (R133, R134). -/
def countersTake (s : State) : State :=
  judgeOverflow (s.setCtr { counters := s.prof.counters.map Counter.ofCfg, overflow := 0 })

/-- The log takes the profile's threshold (R142, R147). -/
def thresholdTake (s : State) : State := judgeThreshold (s.setLog { s.log with threshold := s.prof.logThreshold })

/-- The blocks take the parameters of the bank's profile that the activation names, and the activation is over (R185). The profile is
the one the bank was classified by; a bank that spells none keeps the profile as it is (log 30). The order of the condition changes, the
CONTACTOR records, the UPDATE record and, last, the enable set is the model's (log 36). -/
def applySwitch (s : State) : State :=
  match s.upd.actBank with
  | none => s
  | some m =>
    let p := (validImage (s.nvs.mem.bank m.bank).image).getD s.prof
    let s1 := s.setNvs { s.nvs with active := some m.bank, activeVer := some (m.version, m.gen) }
    let s2 := takePolarities p (switchCells p s1)
    let s3 := switchMarking (s2.setProf p)
    let s4 := judgeStale (judgeBreach (anaTake s3))
    let s5 := thresholdTake (countersTake (switchWelds s4))
    let s6 := s5.setUpd { s5.upd with act := .none, actBank := none, byPower := false }
    let s7 := clearCond .noProfile (offerRecord false (.update .activated m.version none) s6)
    replaceEnables p.enables s7

/-- The update unit suspends the scheduler and keeps the schedule state (R14, R184). -/
def holdSched (s : State) : State :=
  let s1 := s.setUpd { s.upd with holding := true, keptRun := s.sch.running }
  suspendSched s1

/-- The update unit looks when the link is quiet: it applies the switch when the part is quiet, and releases the scheduler either way
(R184, R185). -/
def lookAgain (s : State) : State :=
  if s.quiet then
    let s1 := applySwitch s
    releaseSched (s1.upd.keptRun || s1.prof.autostart) (s1.setUpd { s1.upd with holding := false })
  else releaseSched s.upd.keptRun (s.setUpd { s.upd with holding := false })

/-- The update unit pursues a switch that is owed at the pack processor's request, or owed in RUN (R184). -/
def pursue (s : State) : State :=
  if s.upd.act = .owed ∧ (s.upd.byPower = false ∨ s.pwr.mode = .run) then
    let s1 := if !s.upd.holding && s.quiet then holdSched s else s
    if s1.upd.holding && s1.linkQuiet then lookAgain s1 else s1
  else s

end Sys2Proof.Machine
end

