-- ==== Sys2Proof/Machine/Power.lean ====
section
/-! DEFINITION. The power controller: sleep entry (R155 to R157), sleep sweeps (R161 to R163) and waking (R160, R164, R165). Each of
these goes on at the end of an event as far as the state then lets it. -/
namespace Sys2Proof.Machine

/-! ## Waking -/

/-- Whether the pending wake set holds something. -/
def State.wakePending (s : State) : Bool := s.pwr.pendHost || s.pwr.pendTamper

/-- WAKING begins with a wake-cause set (R160, R164, R165 stage 1). -/
def beginWaking (w : WakeSet) (s : State) : State :=
  let s1 := s.setPwr { s.pwr with
    mode := .waking, lastWake := some w, pendHost := false, pendTamper := false, sleepTimer := none, wakeStage := 1 }
  let s2 := resumeSupervision s1
  let s3 := s2.setPli { s2.pli with rx := .idleWait (s2.now + us 1000) }
  let s4 := anaPowerUp (chainPowerUp s3)
  s4.setPwr { s4.pwr with waitChain := s4.chn.st != ChainState.idle, waitAna := true }

/-- The wake-cause set of an arrival in SLEEP: the pending wake set and the arrival's own cause (R160). -/
def arrivalCauses (host tamper : Bool) (s : State) : WakeSet :=
  { host := s.pwr.pendHost || host, tamper := s.pwr.pendTamper || tamper, breach := none }

/-- Every cell loses its reference and its sleep reference (R69, R165 stage 3). -/
def forgetPast (s : State) : State := s.setCells (s.cells.map fun c => { c with ref := none, sleepRef := none })

/-- Level 1 of the resume record is taken and level 2 discarded (R152, R165 stage 4). -/
def restoreLevel (s : State) : State :=
  let s1 := s.setPwr { s.pwr with level1 := none, level2 := false }
  match s.pwr.level1 with
  | some (run, e) => releaseSched run (replaceEnables e s1)
  | none => releaseSched false s1

/-- Whether a wake-cause set makes the part pulse WAKE (R165 stage 5). -/
def WakeSet.pulses (w : WakeSet) : Bool := w.tamper || w.breach.isSome

/-- The last stage of WAKING (R165 stage 5). The part enters RUN in the event in which the WAKE pulse begins; the stage does not wait for
the pulse's 2 ms (DESIGN CHOICE, log 49). -/
def announce (s : State) : State :=
  let pulse := (s.pwr.lastWake.map WakeSet.pulses).getD false
  let s1 := if pulse then s.setPwr { s.pwr with wakePulse := some (s.now + us 2000) } else s
  let s2 := setCond .woke s1
  s2.setPwr { s2.pwr with wokeFlag := true, mode := .run, wakeStage := 0 }

/-- The WAKE output (R150, R165). -/
def State.wake (s : State) : Bool := s.pwr.wakePulse.isSome

/-- WAKING goes on: to its enumeration when both power reports are in, and through its last stages when the enumeration has ended
(R165). -/
def wakeProgress (s : State) : State :=
  if s.pwr.mode = .waking then
    let s1 :=
      if s.pwr.wakeStage = 1 ∧ s.pwr.waitChain = false ∧ s.pwr.waitAna = false then
        startEnumeration (s.setPwr { s.pwr with wakeStage := 2 })
      else s
    if s1.pwr.wakeStage = 2 ∧ s1.chn.st = .idle then announce (restoreLevel (forgetPast s1)) else s1
  else s

/-! ## Sleep sweeps -/

/-- The sleep timer and its divider as they stand on entering SLEEP (R156, R158, R163). -/
def loadSleepTimer (s : State) : State := s.setPwr { s.pwr with sleepTimer := some s.prof.sleepPeriod, divider := 0 }

/-- The decision at the end of a sleep sweep (R163). -/
def sleepDecision (s : State) : State :=
  if s.pwr.gathered ≠ noBreaches ∨ s.wakePending = true then
    beginWaking
      { host := s.pwr.pendHost, tamper := s.pwr.pendTamper,
        breach := if s.pwr.gathered = noBreaches then none else some s.pwr.gathered } s
  else
    let s1 := loadSleepTimer (anaPowerDown (chainPowerDown s))
    s1.setPwr { s1.pwr with level2 := false, mode := .sleep }

/-- The sleep launch, granted despite the suspended flag; an empty union ends the sweep at once (R16, R161). -/
def sleepLaunch (s : State) : State :=
  let m := sleepMask s.prof
  if m = 0 then sleepDecision s else grant .sleep m s

/-- In SLEEP_SWEEP the sweep is launched when the second of the two power reports comes (R161). -/
def launchIfReady (s : State) : State :=
  if s.pwr.mode = .sleepSweep ∧ s.pwr.waitChain = false ∧ s.pwr.waitAna = false then sleepLaunch s else s

/-- The chain master's ready report (R36, R161, R165). -/
def chainReport (s : State) : State := launchIfReady (s.setPwr { s.pwr with waitChain := false })

/-- The analog channels' ready or fault report (R45, R161, R165). -/
def anaReport (s : State) : State := launchIfReady (s.setPwr { s.pwr with waitAna := false })

/-- The chain master has returned to IDLE: a power-down that waited takes effect, an owed ready report is made (R36). -/
def chainIdle (s : State) : State :=
  if s.chn.downWanted then s.setChn { s.chn with st := .poweredDown, downWanted := false }
  else if s.chn.readyOwed then chainReport (s.setChn { s.chn with readyOwed := false })
  else s

/-- The sleep timer's expiry (R161). -/
def sleepExpire (s : State) : State :=
  let s1 := s.setPwr { s.pwr with level2 := true, gathered := noBreaches, mode := .sleepSweep }
  let s2 := anaPowerUp (chainPowerUp s1)
  s2.setPwr { s2.pwr with waitChain := s2.chn.st != ChainState.idle, waitAna := true }

/-- The sleep timer stands at 0 in SLEEP: its expiry is due (R158, R161). -/
def State.sleepDue (s : State) : Bool := s.pwr.mode == .sleep && s.pwr.sleepTimer == some 0

/-- A tick of the sleep timer's divider (R158). -/
def tickSleep (s : State) : State :=
  if s.pwr.mode = .sleep then
    if 999 ≤ s.pwr.divider then s.setPwr { s.pwr with divider := 0, sleepTimer := tickDown s.pwr.sleepTimer }
    else s.setPwr { s.pwr with divider := s.pwr.divider + 1 }
  else s

/-- A HOST arrival (R160, R163). -/
def hostArrive (s : State) : State :=
  match s.pwr.mode with
  | .sleep => beginWaking (arrivalCauses true false s) s
  | .sleepSweep => s.setPwr { s.pwr with pendHost := true }
  | .startup | .run | .sleepEntry | .waking => s

/-- The report of a tamper to the power controller (R157, R160, R163, R187 stage 7). -/
def tamperReport (s : State) : State :=
  match s.pwr.mode with
  | .sleep => beginWaking (arrivalCauses false true s) s
  | .sleepSweep | .sleepEntry => s.setPwr { s.pwr with pendTamper := true }
  | .startup | .run | .waking => s

/-! ## Sleep entry -/

/-- A wear save is requested (R110): none when the NV engine refuses it. -/
def requestWear (s : State) : Option State :=
  if s.kdr.wearSave = .queued then some s
  else (offerOp .wearSave s).map fun s1 => s1.setKdr { s1.kdr with wearSave := .queued }

/-- Sets the entry stage. -/
def setEntryStage (n : Nat) (s : State) : State := s.setPwr { s.pwr with entryStage := n }

/-- Whether sleep entry is at a stage. -/
def State.atEntry (s : State) (n : Nat) : Bool := s.pwr.mode == .sleepEntry && s.pwr.entryStage == n

/-- The acceptance of SLEEP, and the beginning of stage 1 (R154, R155). -/
def beginEntry (s : State) : State :=
  let s1 := s.setPwr { s.pwr with mode := .sleepEntry, entryStage := 1, keptRun := s.sch.running }
  suspendSched s1

/-- Stage 1 ends when the link is quiet; stage 2 requests the wear save (R155). -/
def entryOne (s : State) : State :=
  if s.atEntry 1 && s.linkQuiet then
    let s1 := setEntryStage 2 s
    nvBegin ((requestWear s1).getD s1)
  else s

/-- The power controller asks for the activation of a pending bank, without the checks of R183 (R155 stage 3, R183). A refusal by the NV
engine, which R154 and R171 rule out, is taken as a cancellation (log 24). -/
def askActivation (s : State) : State :=
  match s.upd.mark with
  | some m =>
    if s.tmp.latch then s
    else
      match offerOp (.anchorActivate m.bank m.version m.gen) s with
      | some s1 => s1.setUpd { s1.upd with act := .queued, byPower := true, actBank := some m }
      | none => s
  | none => s

/-- Stage 2 ends when the wear-save state is IDLE again; stage 3 asks for the activation (R155). -/
def entryTwo (s : State) : State :=
  if s.atEntry 2 && s.kdr.wearSave == .idle then nvBegin (askActivation (setEntryStage 3 s)) else s

/-- Stage 3 ends when no activation is waited for: none is in progress, or the switch has been applied, or it cannot be (R155, R184). -/
def entryThree (s : State) : State :=
  if s.atEntry 3 then
    match s.upd.act with
    | .queued | .writing => s
    | .none => setEntryStage 4 s
    | .owed =>
      if s.quiet then
        let s1 := applySwitch s
        setEntryStage 4 (s1.setPwr { s1.pwr with keptRun := s1.pwr.keptRun || s1.prof.autostart })
      else setEntryStage 4 s
  else s

/-- Every populated fresh cell takes its voltage code as its sleep reference; every other cell has none (R156). -/
def takeSleepRefs (s : State) : State :=
  let n := population s.prof
  s.setCells ((s.cells.take n).map (fun c => { c with sleepRef := if c.fresh then c.code else none })
    ++ (s.cells.drop n).map fun c => { c with sleepRef := none })

/-- On entering SLEEP, a pending wake set that is not empty wakes the part (R156, R160). -/
def wakeIfPending (s : State) : State := if s.wakePending then beginWaking (arrivalCauses false false s) s else s

/-- The entry completes (R156). -/
def enterSleep (s : State) : State :=
  let s1 := takeSleepRefs s
  let s2 := s1.setPwr { s1.pwr with level1 := some (s1.pwr.keptRun, s1.cnd.enables) }
  let s3 := loadSleepTimer (anaPowerDown (chainPowerDown s2))
  let s4 := suspendSupervision (s3.setPwr { s3.pwr with mode := .sleep, entryStage := 0 })
  wakeIfPending (s4.setPli { s4.pli with rx := .off })

/-- The entry is abandoned (R155). -/
def abandonEntry (s : State) : State :=
  let s1 := releaseSched s.pwr.keptRun s
  s1.setPwr { s1.pwr with mode := .run, entryStage := 0, pendHost := false, pendTamper := false }

/-- Stage 4: when the link is at rest, the contactors are examined (R155, R156). -/
def entryFour (s : State) : State :=
  if s.atEntry 4 && s.linkAtRest then (if s.allOpen then enterSleep s else abandonEntry s) else s

end Sys2Proof.Machine
end

