-- ==== Sys2Proof/Machine/Startup.lean ====
section
/-! DEFINITION. The consequences of a tamper (R186 to R188), the end of an update (R181), the stages of STARTUP (R109, R153, R175,
R176), and what every event ends with: `finish`. -/
namespace Sys2Proof.Machine

/-! ## Tamper -/

/-- An update ends FAILED (R181). -/
def updFail (reason : UpdReason) (s : State) : State :=
  let s1 := s.setUpd { s.upd with st := .idle, staging := [], received := 0, target := none, stop := false }
  offerRecord false (.update .failed s.upd.version (some reason)) (setCond .updateFailed s1)

/-- Whether an operation is a BANK_COMMIT. -/
def NvOp.isCommit : NvOp → Bool
  | .bankCommit _ _ => true
  | .anchorTamper | .anchorActivate _ _ _ | .anchorSelect _ _ _ | .anchorClear | .wearSave | .invalidate _ => false

/-- Whether an operation is an activation's ANCHOR_WRITE. -/
def NvOp.isActivate : NvOp → Bool
  | .anchorActivate _ _ _ => true
  | .bankCommit _ _ | .anchorTamper | .anchorSelect _ _ _ | .anchorClear | .wearSave | .invalidate _ => false

/-- Whether an operation is one of start-up selection's. -/
def NvOp.isSelection : NvOp → Bool
  | .anchorSelect _ _ _ | .invalidate _ => true
  | .bankCommit _ _ | .anchorTamper | .anchorActivate _ _ _ | .anchorClear | .wearSave => false

/-- Operations leave the queue. -/
def dropOps (f : NvOp → Bool) (s : State) : State := s.setNvs { s.nvs with queue := s.nvs.queue.filter fun op => !f op }

/-- A requested clear is cancelled: a waiting clear write leaves the queue, one in flight is made void (R187 stage 1). -/
def cancelClear (s : State) : State :=
  if s.tmp.clearReq then
    let s1 := dropOps (· == .anchorClear) s
    match s1.nvs.flight with
    | some f =>
      if f.op = .anchorClear then
        let s2 := s1.setNvs { s1.nvs with flight := some { f with void := true } }
        s2.setTmp { s2.tmp with clearReq := false, clearSt := .void }
      else s1.setTmp { s1.tmp with clearReq := false, clearSt := .none }
    | none => s1.setTmp { s1.tmp with clearReq := false, clearSt := .none }
  else s

/-- Stages 2 and 3 of a tamper: the update in progress ends, or its commit in flight is asked to stop (R187). -/
def tamperUpdate (s : State) : State :=
  match s.upd.st with
  | .idle => s
  | .receiving | .verifying => updFail .tamper s
  | .committing =>
    if s.nvs.queue.any NvOp.isCommit then updFail .tamper (dropOps NvOp.isCommit s)
    else s.setUpd { s.upd with stop := true }

/-- Stage 4 of a tamper: a pending mark is removed and its bank invalidated (R187). -/
def tamperMark (s : State) : State :=
  match s.upd.mark with
  | some m => offerSure (.invalidate m.bank) (s.setUpd { s.upd with mark := none })
  | none => s

/-- Stage 5 of a tamper: a QUEUED activation is cancelled (R187). -/
def tamperActivation (s : State) : State :=
  if s.upd.act = .queued then
    let s1 := dropOps NvOp.isActivate s
    s1.setUpd { s1.upd with act := .none, actBank := none, byPower := false }
  else s

/-- The consequences of an accepted tamper (R187). -/
def tamperEffects (s : State) : State :=
  let s1 := cancelClear (offerSure .anchorTamper
    (s.setTmp { s.tmp with latch := true, count := min 65535 (s.tmp.count + 1), held := false }))
  let s2 := tamperActivation (tamperMark (tamperUpdate s1))
  let s3 := offerRecord true (.tamper s2.now s2.tmp.count (s.upd.st != .idle) s.upd.mark.isSome) s2
  tamperReport (setCond .tamper s3)

/-- A tamper is accepted; before the anchor has been read it is held (R186). -/
def tamperAccept (s : State) : State :=
  if s.nvs.sel = .unread then s.setTmp { s.tmp with held := true } else tamperEffects s

/-! ## Start-up -/

/-- The anchor slots are read (R169, R175 step 1). -/
def readAnchors (s : State) : State :=
  let a := readAnchor s.nvs.mem.anchorA
  let b := readAnchor s.nvs.mem.anchorB
  match currentOf (a.map Anchor.seq) (b.map Anchor.seq) with
  | some .a => s.setNvs { s.nvs with anchor := a.getD blankAnchor, curAnchor := .a }
  | some .b => s.setNvs { s.nvs with anchor := b.getD blankAnchor, curAnchor := .b }
  | none => s.setNvs { s.nvs with anchor := blankAnchor, curAnchor := .b }

/-- The tamper monitor takes its latch and count from the anchor; a tamper held until now has its consequences (R175 step 1, R186). -/
def takeLatch (s : State) : State :=
  let s1 := judgeTamper (s.setTmp { s.tmp with latch := s.nvs.anchor.latched, count := s.nvs.anchor.count })
  if s.tmp.held then tamperEffects s1 else s1

/-- A channel takes its counts from the wear record (R109). -/
def loadCounts (c : Chan) (w : Nat × Nat) : Chan := { c with closes := w.1, hardBreaks := w.2 }

/-- A wear page is the current one, and its counts are handed to the contactor drivers (R109, R170). -/
def takeWear (x : AB) (w : Wear) (s : State) : State :=
  let s1 := s.setNvs { s.nvs with curWear := x, curWearSeq := w.seq }
  s1.setKdr { s1.kdr with chans := s1.kdr.chans.zipWith loadCounts w.counts, wearLoaded := true }

/-- The wear pages are read, and the wear stage of STARTUP ends (R109, R153 stage 2, R170). -/
def readWears (s : State) : State :=
  let a := readWear s.nvs.mem.wearA
  let b := readWear s.nvs.mem.wearB
  let s1 := match currentOf (a.map Wear.seq) (b.map Wear.seq), a, b with
    | some .a, some w, _ => takeWear .a w s
    | some .b, _, some w => takeWear .b w s
    | _, _, _ => s
  s1.setPwr { s1.pwr with wearEnded := true }

/-- Both banks are classified (R175 step 2). -/
def classifyBanks (s : State) : State :=
  s.setNvs { s.nvs with
    statusA := classifyBank s.nvs.anchor.floor s.nvs.mem.bankA
    statusB := classifyBank s.nvs.anchor.floor s.nvs.mem.bankB }

/-- A bank's version and generation, as its pages read. -/
def State.bankMark (s : State) (x : AB) : PendMark :=
  { bank := x
    version := ((readHeader (s.nvs.mem.bank x).header).map Prod.fst).getD 0
    gen := (readGen (s.nvs.mem.bank x).gen).getD 0 }

/-- A VALID bank newer than the anchor's active generation: a pending bank left by an earlier session (R175 step 3). -/
def State.leftPending (s : State) (x : AB) : Bool :=
  s.bankStatus x == .valid && decide (s.nvs.anchor.activeGen < (s.bankMark x).gen)

/-- Of the pending banks left, the one with the greater generation, bank A when they are equal (R175 step 3, log 15). -/
def State.newestLeft (s : State) : Option AB :=
  match s.leftPending .a, s.leftPending .b with
  | true, true => some (if (s.bankMark .a).gen < (s.bankMark .b).gen then .b else .a)
  | true, false => some .a
  | false, true => some .b
  | false, false => none

/-- Step 3 of the selection queues its operations (R175). Of two invalidations bank A's is queued first (DESIGN CHOICE, log 51). -/
def selectionOps (s : State) : State :=
  if s.tmp.latch then
    let s1 := if s.leftPending .a then offerSure (.invalidate .a) s else s
    if s.leftPending .b then offerSure (.invalidate .b) s1 else s1
  else
    match s.newestLeft with
    | some x => offerSure (.anchorSelect x (s.bankMark x).version (s.bankMark x).gen) s
    | none => s

/-- The start-up reading of nonvolatile memory (R175 steps 1 to 3). -/
def startupRead (s : State) : State :=
  let s1 := classifyBanks (readWears (readAnchors s))
  let s2 := s1.setNvs { s1.nvs with sel := .waiting }
  nvBegin (selectionOps (takeLatch s2))

/-- A VALID bank whose generation is the anchor's active generation (R175 step 4). -/
def State.isSelected (s : State) (x : AB) : Bool :=
  s.bankStatus x == .valid && (s.bankMark x).gen == s.nvs.anchor.activeGen

/-- The bank that becomes the active one, bank A when both qualify, or none for the factory profile (R175 steps 4 and 5, log 15). -/
def State.selectedBank (s : State) : Option AB :=
  if s.isSelected .a then some .a else if s.isSelected .b then some .b else none

/-- Every block takes its parameters from the selected profile (R153 stage 1). -/
def takeProfile (p : Profile) (s : State) : State :=
  let s1 := (takePolarities p s).setProf p
  let s2 := judgeStale (judgeModuleLost (judgeBreach (loadSettling (anaTake s1))))
  replaceEnables p.enables (thresholdTake (countersTake s2))

/-- The selection ends (R153, R175 steps 4 and 5, R176). -/
def selectionEnd (s : State) : State :=
  match s.selectedBank with
  | some x =>
    let p := (validImage (s.nvs.mem.bank x).image).getD factoryProfile
    takeProfile p (s.setNvs { s.nvs with
      active := some x, activeVer := some ((s.bankMark x).version, (s.bankMark x).gen), sel := .ended })
  | none => setCond .noProfile (takeProfile factoryProfile (s.setNvs { s.nvs with active := none, activeVer := none, sel := .ended }))

/-- Whether an operation that the selection queued is waiting or in flight. -/
def State.selectionBusy (s : State) : Bool :=
  s.nvs.queue.any NvOp.isSelection || ((s.nvs.flight.map fun f => f.op.isSelection).getD false)

/-- The selection goes on: it reads, and it ends when its operations are done (R175). -/
def selectionProgress (s : State) : State :=
  let s1 := if s.nvs.sel = .unread then startupRead s else s
  if s1.nvs.sel = .waiting ∧ s1.selectionBusy = false then selectionEnd s1 else s1

/-- The start-up enumeration starts when the selection has ended and the chain is IDLE (R35, R153 stage 3). -/
def enumerateProgress (s : State) : State :=
  if s.nvs.sel = .ended ∧ s.pwr.enumEnded = false ∧ s.chn.st = .idle then startEnumeration s else s

/-- The settling stage ends when every channel has settled (R107, R153 stage 4). -/
def settleProgress (s : State) : State :=
  if s.nvs.sel = .ended ∧ s.allSettled = true then s.setPwr { s.pwr with settleEnded := true } else s

/-- STARTUP ends when all four stages have (R2, R153). -/
def startupEnd (s : State) : State :=
  if s.nvs.sel = .ended ∧ s.pwr.wearEnded = true ∧ s.pwr.enumEnded = true ∧ s.pwr.settleEnded = true then
    let s1 := s.setPwr { s.pwr with mode := .run }
    if s1.prof.autostart then runSchedule s1 else s1
  else s

/-- STARTUP goes on as far as the state lets it (R153). -/
def startupProgress (s : State) : State :=
  if s.pwr.mode = .startup then startupEnd (settleProgress (enumerateProgress (selectionProgress s))) else s

/-! ## The end of an event -/

/-- What every event ends with: the NV engine begins what it can, the update unit pursues its switch, sleep entry, start-up and waking
go on, and the transmit path begins what it can (R155, R153, R165, R172, R184, R196; log 9, log 12). -/
def finish (s : State) : State :=
  let s1 := pursue (nvBegin s)
  let s2 := entryThree (entryTwo (entryOne s1))
  let s3 := linkPump (wakeProgress (startupProgress s2))
  linkPump (entryFour s3)

end Sys2Proof.Machine
end

