-- ==== Sys2Proof/Machine/Requests.lean ====
section
/-! DEFINITION. The owning blocks' rules for the thirty-five requests: each answers with the part after the request and the reply
(R3 to R201). The checks that come before them are the link's (R195). -/
namespace Sys2Proof.Machine

/-- What a request comes to: the part after it, and the reply. -/
abbrev Answer := State × Reply

/-- A reply of a status alone. -/
def plain (st : Status) : Reply := { status := st, body := .empty }

/-- A request changes nothing and is answered with a status alone. -/
def refuse (st : Status) (s : State) : Answer := (s, plain st)

/-- A request is answered OK with fields. -/
def okWith (b : ReplyBody) (s : State) : Answer := (s, { status := .ok, body := b })

/-! ## Sampling scheduler and cell table -/

/-- R3. -/
def ownScheduleStart (s : State) : Answer :=
  if s.sch.suspended then refuse .busy s
  else if s.sch.running then refuse .ok s
  else (runSchedule s, plain .ok)

/-- R4. -/
def ownScheduleStop (s : State) : Answer :=
  if s.sch.suspended then refuse .busy s
  else (s.setSch { s.sch with
    running := false, countdowns := haltedCountdowns, pendSlots := List.replicate 8 none }, plain .ok)

/-- R7, R14. A suspended scheduler refuses with BUSY whatever the mask (log 21). -/
def ownSampleNow (mask : BitVec 16) (s : State) : Answer :=
  let m := mask.setWidth 12 &&& popMask s.prof
  if s.sch.suspended then refuse .busy s
  else if m = 0 then refuse .badArgument s
  else if s.sch.pendDemand.isSome then refuse .busy s
  else (arbiter (s.setSch { s.sch with pendDemand := some m }), plain .accepted)

/-- R17. The reply holds the whole record of the sweep in flight, its unreported mark with it, which R17 does not name; the mark is not
among the reply's bytes (log 20). -/
def ownReadSweep (s : State) : Answer :=
  okWith (.sweep (if s.inFlight then s.sch.sweep else none) s.sch.summary) s

/-- The range of cells that READ_CELLS and READ_RESISTANCE name: none when it is refused (R21, R71). -/
def cellRange (p : Profile) (first count : Nat) : Option (List Nat) :=
  if count = 0 ∨ 16 < count ∨ population p ≤ first then none
  else some ((List.range (min count (population p - first))).map fun i => first + i)

/-- What READ_CELLS reports of a cell (R21). -/
def cellView (c : Cell) : CellView :=
  { code := c.code, range := c.range, inst := c.inst, tag := c.tag, fresh := c.fresh, current := c.current, mark := c.mark,
    breach := c.breach }

/-- R21. -/
def ownReadCells (first count : Byte) (s : State) : Answer :=
  match cellRange s.prof first.toNat count.toNat with
  | none => refuse .badArgument s
  | some is => okWith (.cells (is.map fun i => cellView (s.cell i))) s

/-! ## Module chain -/

/-- R34. -/
def ownChainEnumerate (s : State) : Answer :=
  if s.chn.st == .idle && s.linkQuiet && !s.sch.suspended then (startEnumeration s, plain .accepted) else refuse .busy s

/-- R37. -/
def ownReadModules (s : State) : Answer :=
  okWith (.modules s.chn.st s.chn.sweepTag
    ((List.range 12).map fun k => (decide (k < s.prof.moduleCount), cellsAt s.prof k, s.modEntry k))) s

/-! ## Analog channels and resistance unit -/

/-- R49. The current period is the one in force, after a profile switch the old one until the next sampling instant (R46; DEDUCED, log
45). -/
def ownReadAnalog (s : State) : Answer :=
  okWith (.analog s.now s.ana.period s.ana.sampling s.ana.ring.length s.ana.fault s.ana.overCurrent s.newest) s

/-- A cell at a clearing of scope REFERENCES, or WITH_ESTIMATES (R70). -/
def clearRefs (estimates : Bool) (c : Cell) : Cell :=
  if estimates then { c with ref := none, rRaw := none, rFilt := none, rMark := .none } else { c with ref := none }

/-- R70. -/
def ownResetReferences (scope : Byte) (s : State) : Answer :=
  if 1 < scope.toNat then refuse .badArgument s
  else (s.setCells (s.cells.map (clearRefs (scope == 1))), plain .ok)

/-- What READ_RESISTANCE reports of a cell (R71). -/
def resView (c : Cell) : ResView := { tag := c.tag, rMark := c.rMark, rFilt := c.rFilt, rRaw := c.rRaw, ref := c.ref }

/-- R71. -/
def ownReadResistance (first count : Byte) (s : State) : Answer :=
  match cellRange s.prof first.toNat count.toNat with
  | none => refuse .badArgument s
  | some is => okWith (.resistance (is.map fun i => resView (s.cell i))) s

/-! ## Condition unit -/

/-- R88. -/
def ownReadConditions (s : State) : Answer :=
  okWith (.conditions {
    set := s.cnd.set, enables := s.cnd.enables, alert := s.alert, noticePending := s.cnd.noticePending,
    inOv := s.countBreach .ov, inUv := s.countBreach .uv, inPending := s.countBreach .ovPending + s.countBreach .uvPending,
    notFresh := s.populated.countP (!·.fresh), lastTrip := s.lim.lastTrip }) s

/-- A set of conditions of 32 bits names none but the twenty-two (R89, R90, R202). -/
def namesConditions (set : BitVec 32) : Bool := decide (set.toNat < 2 ^ 22)

/-- R89. -/
def ownClearConditions (set : BitVec 32) (s : State) : Answer :=
  if namesConditions set then
    let s1 := s.setCnd { s.cnd with set := s.cnd.set &&& ~~~(set.setWidth 22 &&& clearable) }
    okWith (.condSet s1.cnd.set) s1
  else refuse .badArgument s

/-- R90. -/
def ownSetAlertEnable (set : BitVec 32) (s : State) : Answer :=
  if namesConditions set then
    let s1 := replaceEnables (set.setWidth 22) s
    okWith (.condSet s1.cnd.enables) s1
  else refuse .badArgument s

/-! ## Contactor drivers -/

/-- R110. -/
def ownSaveWear (s : State) : Answer :=
  match requestWear s with
  | some s1 => (s1, plain .accepted)
  | none => refuse .busy s

/-- R111. -/
def ownClearContactorFault (channel : Byte) (s : State) : Answer :=
  let k := channel.toNat
  let c := s.chan k
  if s.seq.run.isSome then refuse .busy s
  else if 4 ≤ k ∨ c.st.faulted = false then refuse .badArgument s
  else if c.closedFb then refuse .notReady s
  else (handOn k c.st .opened noTimes false s.now (s.setChan k { c with st := .opened }), plain .ok)

/-- What READ_CONTACTORS reports of channel k (R112). -/
def chanView (s : State) (k : Nat) : ChanView :=
  let c := s.chan k
  { role := (s.chanCfg k).role, st := c.st, coil := c.coil, closedFb := c.closedFb, inDebounce := decide (0 < c.debounce),
    settling := c.settling.isSome, lastMake := c.lastMake, lastBreak := c.lastBreak, closes := c.closes, hardBreaks := c.hardBreaks }

/-- R112. -/
def ownReadContactors (s : State) : Answer :=
  okWith (.contactors ((List.range 4).map (chanView s)) s.prof.hardBreakLimit s.kdr.wearLoaded s.kdr.wearSave s.kdr.lastSave) s

/-! ## Sequence runner -/

/-- Whether a step is a CLOSE. -/
def SeqStep.isClose : SeqStep → Bool
  | .close _ => true
  | .opn _ | .wait _ | .awaitLink _ _ | .awaitDecay _ _ | .skipIf _ | .sweep | .endSeq => false

/-- The state of a sequence that starts (R115, R116). -/
def runStart (id : Nat) (t : Time) : Run :=
  { id := id, idx := 0, start := t, timer := none, awaited := .nothing, eventReq := false, tested := false }

/-- R116. -/
def ownRunSequence (id : Byte) (s : State) : Answer :=
  if s.seq.run.isSome then refuse .busy s
  else if s.activating then refuse .busy s
  else if 6 ≤ id.toNat ∨ s.sequence id.toNat = [] then refuse .badArgument s
  else if (s.sequence id.toNat).any SeqStep.isClose && !(failingTerms s).isEmpty then
    (s, { status := .notReady, body := .gate (failingTerms s) })
  else (proceed 0 (s.setRun (runStart id.toNat s.now)), plain .accepted)

/-- R129. -/
def ownOpenAll (s : State) : Answer := (openForAll .aborted s, plain .ok)

/-- R132. -/
def ownReadRunner (s : State) : Answer :=
  okWith (.runner (s.seq.run.map fun r => { run := r, step := s.currentStep }) s.seq.last (failingTerms s)) s

/-! ## Event counters and capture log -/

/-- R139. The value and the reload have 24 bits, so none is above 16,777,215. -/
def ownSetCounter (number kind flags : Byte) (value reload : BitVec 24) (s : State) : Answer :=
  match eventKindOf kind.toNat with
  | some e =>
    if number.toNat < 8 then
      let c : Counter := { kind := e, value := value, reload := reload, snap := flags.getLsbD 0, armed := false }
      okWith (.counter c) (s.setCtr { s.ctr with counters := s.ctr.counters.set number.toNat c })
    else refuse .badArgument s
  | none => refuse .badArgument s

/-- The overflow set with counters removed. -/
def removeCounters (set : Byte) (numbers : List Byte) : Byte :=
  numbers.foldl (fun m n => m &&& ~~~(BitVec.twoPow 8 n.toNat)) set

/-- R140. -/
def ownClearOverflow (numbers : List Byte) (s : State) : Answer :=
  if numbers.all fun n => decide (n.toNat < 8) then
    let s1 := judgeOverflow (s.setCtr { s.ctr with overflow := removeCounters s.ctr.overflow numbers })
    okWith (.overflow s1.ctr.overflow) s1
  else refuse .badArgument s

/-- R141. -/
def ownReadCounters (s : State) : Answer := okWith (.counters s.ctr.counters s.ctr.overflow) s

/-- R148. -/
def ownLogRead (n : Byte) (s : State) : Answer :=
  if n.toNat = 0 ∨ 4 < n.toNat then refuse .badArgument s
  else okWith (.log s.log.records.length s.log.nextNo s.log.threshold (s.log.records.take n.toNat)) s

/-- R149. -/
def ownLogRelease (n : Byte) (s : State) : Answer :=
  if n.toNat = 0 then refuse .badArgument s
  else
    let s1 := judgeThreshold (s.setLog { s.log with records := s.log.records.drop n.toNat })
    okWith (.released (min n.toNat s.log.records.length) s1.log.records.length) s1

/-! ## Power controller -/

/-- The NV engine has an operation in flight or waiting. -/
def State.nvBusy (s : State) : Bool := s.nvs.flight.isSome || !s.nvs.queue.isEmpty

/-- R154. -/
def ownSleep (s : State) : Answer :=
  if s.allOpen = false then refuse .live s
  else if s.seq.run.isSome || s.activating || s.nvBusy then refuse .busy s
  else if s.upd.st = .receiving ∨ s.upd.st = .verifying then refuse .updateOpen s
  else (beginEntry s, plain .accepted)

/-! ## Update unit, activation and tamper -/

/-- R179. -/
def ownUpdateBegin (version : BitVec 32) (length : BitVec 16) (imageTag : BitVec 128) (s : State) : Answer :=
  if s.tmp.latch then refuse .tampered s
  else if version ≤ s.nvs.anchor.floor then refuse .rollback s
  else if length.toNat = 0 ∨ 4096 < length.toNat then refuse .badLength s
  else if s.upd.st ≠ .idle ∨ s.activating = true then refuse .busy s
  else (s.setUpd { s.upd with
    st := .receiving, staging := [], received := 0, version := version, length := length.toNat, tag := imageTag }, plain .ok)

/-- A reply to UPDATE_CHUNK carries the count of bytes received (R180). -/
def withReceived (st : Status) (s : State) : Answer := (s, { status := st, body := .received s.upd.received })

/-- R180. -/
def ownUpdateChunk (offset : BitVec 16) (data : List Byte) (s : State) : Answer :=
  match s.upd.st with
  | .idle => withReceived .notReady s
  | .verifying | .committing => withReceived .busy s
  | .receiving =>
    if offset.toNat ≠ s.upd.received then withReceived .outOfOrder s
    else if s.upd.length < s.upd.received + data.length then withReceived .badLength s
    else withReceived .ok (s.setUpd { s.upd with
      staging := Memory.writeBytes s.upd.staging offset.toNat data, received := s.upd.received + data.length })

/-- R180. -/
def ownUpdateCommit (s : State) : Answer :=
  match s.upd.st with
  | .idle => refuse .notReady s
  | .verifying | .committing => refuse .busy s
  | .receiving =>
    if s.upd.received = s.upd.length then (s.setUpd { s.upd with st := .verifying }, plain .accepted) else refuse .badLength s

/-- R182. -/
def ownUpdateAbort (s : State) : Answer :=
  match s.upd.st with
  | .idle => refuse .ok s
  | .verifying | .committing => refuse .busy s
  | .receiving => (s.setUpd { s.upd with st := .idle, staging := [], received := 0 }, plain .ok)

/-- R183. -/
def ownActivate (s : State) : Answer :=
  if s.tmp.latch then refuse .tampered s
  else
    match s.upd.mark with
    | none => refuse .noPending s
    | some m =>
      if s.upd.st ≠ .idle ∨ s.activating = true then refuse .busy s
      else if s.quiet = false then refuse .live s
      else
        match offerOp (.anchorActivate m.bank m.version m.gen) s with
        | none => refuse .busy s
        | some s1 => (s1.setUpd { s1.upd with act := .queued, byPower := false, actBank := some m }, plain .accepted)

/-- R189. Where an earlier clear write is still in flight and void when this one is admitted, R186's one value for the state of the clear
write shows the new one, waiting; the void mark stands on the operation in flight alone (DESIGN CHOICE, log 44). -/
def ownTamperClear (s : State) : Answer :=
  if s.tmp.latch = false then refuse .ok s
  else if s.tmp.asserted = true ∨ 0 < s.tmp.run then refuse .notReady s
  else if s.tmp.clearReq then refuse .accepted s
  else
    match offerOp .anchorClear s with
    | none => refuse .busy s
    | some s1 => (s1.setTmp { s1.tmp with clearReq := true, clearSt := .waiting }, plain .accepted)

/-- What READ_PROFILE_INFO returns of a bank (R190): version and length when the header page reads, generation when the generation page
reads, each by its own page (log 37). -/
def bankView (s : State) (x : AB) : BankView :=
  { status := s.bankStatus x
    header := (readHeader (s.nvs.mem.bank x).header).map fun h => (h.1, h.2.1)
    gen := readGen (s.nvs.mem.bank x).gen }

/-- R190. -/
def ownReadProfileInfo (s : State) : Answer :=
  okWith (.profile {
    active := s.nvs.active, activeVer := s.nvs.activeVer, anchor := s.nvs.anchor, curAnchor := s.nvs.curAnchor,
    bankA := bankView s .a, bankB := bankView s .b, mark := s.upd.mark, updSt := s.upd.st, received := s.upd.received,
    declared := if s.upd.st = .idle then none else some (s.upd.version, s.upd.length), act := s.upd.act,
    latch := s.tmp.latch, count := s.tmp.count, asserted := s.tmp.asserted, clearReq := s.tmp.clearReq,
    flight := s.nvs.flight.map NvFlight.op, waiting := s.nvs.queue.length }) s

/-! ## The link's own requests -/

/-- Which of the four stages of STARTUP have ended (R153, R199). -/
def State.stagesEnded (s : State) : Bool × Bool × Bool × Bool :=
  (s.nvs.sel == .ended, s.pwr.wearEnded, s.pwr.enumEnded, s.pwr.settleEnded)

/-- R199. -/
def ownStatus (s : State) : Answer :=
  okWith (.status {
    mode := s.pwr.mode
    startup := if s.pwr.mode = .startup then some s.stagesEnded else none
    stage := match s.pwr.mode with
      | .sleepEntry => some s.pwr.entryStage
      | .waking => some s.pwr.wakeStage
      | .startup | .run | .sleep | .sleepSweep => none
    lastWake := s.pwr.lastWake, time := s.now, alert := s.alert, noticePending := s.cnd.noticePending,
    wokePending := s.pwr.wokeFlag, held := s.pli.holding.length }) s

/-- R200. -/
def ownIdentify (s : State) : Answer := okWith (.identify Config.serialNumber) s

/-- R201. The reset itself comes when the reply has left the part. -/
def ownResetPart (s : State) : Answer :=
  if (s.kdr.chans.any fun c => c.st == .closing || c.st == .closed) || s.seq.run.isSome then refuse .live s else refuse .ok s

/-- The owning block of each request applies its rule (R195 check 4, and the table of requests). -/
def own : Request → State → Answer
  | .scheduleStart, s => ownScheduleStart s
  | .scheduleStop, s => ownScheduleStop s
  | .sampleNow mask, s => ownSampleNow mask s
  | .readSweep, s => ownReadSweep s
  | .readCells first count, s => ownReadCells first count s
  | .chainEnumerate, s => ownChainEnumerate s
  | .readModules, s => ownReadModules s
  | .readAnalog, s => ownReadAnalog s
  | .resetReferences scope, s => ownResetReferences scope s
  | .readResistance first count, s => ownReadResistance first count s
  | .readConditions, s => ownReadConditions s
  | .clearConditions set, s => ownClearConditions set s
  | .setAlertEnable set, s => ownSetAlertEnable set s
  | .saveWear, s => ownSaveWear s
  | .clearContactorFault channel, s => ownClearContactorFault channel s
  | .readContactors, s => ownReadContactors s
  | .runSequence id, s => ownRunSequence id s
  | .openAll, s => ownOpenAll s
  | .readRunner, s => ownReadRunner s
  | .setCounter number kind flags value reload, s => ownSetCounter number kind flags value reload s
  | .clearOverflow numbers, s => ownClearOverflow numbers s
  | .readCounters, s => ownReadCounters s
  | .logRead n, s => ownLogRead n s
  | .logRelease n, s => ownLogRelease n s
  | .sleep, s => ownSleep s
  | .updateBegin version length imageTag, s => ownUpdateBegin version length imageTag s
  | .updateChunk offset data, s => ownUpdateChunk offset data s
  | .updateCommit, s => ownUpdateCommit s
  | .updateAbort, s => ownUpdateAbort s
  | .activate, s => ownActivate s
  | .tamperClear, s => ownTamperClear s
  | .readProfileInfo, s => ownReadProfileInfo s
  | .status, s => ownStatus s
  | .identify, s => ownIdentify s
  | .resetPart, s => ownResetPart s

end Sys2Proof.Machine
end

