-- ==== Sys2Proof/WellFormed.lean ====
section
/-! DEFINITION. Which commands name something the part has: numbers in their ranges, payloads that fit a frame. An ill-formed
command names nothing the part could act on; its meaning is still total. -/
namespace Sys2Proof

/-- The request codes of R202. -/
def isRequestCode (type : Byte) : Bool := decide (1 ≤ type.toNat ∧ type.toNat ≤ 0x23)

/-- A command is well formed when each number it carries names something of the part and its bytes fit their frame. -/
def Instr.wellFormed : Instr → Bool
  | .slotExpiry slot => decide (slot < 8)
  | .freshnessExpiry cell => decide (cell < 192)
  | .referenceExpiry cell => decide (cell < 192)
  | .alignDeadline (some cell) => decide (cell < 192)
  | .chainReplyComplete bytes => decide (bytes.length = 38 ∨ bytes.length = 5)
  | .feedbackAccepted k => decide (k < 4)
  | .pullInEnd k => decide (k < 4)
  | .makeMaxExpiry k => decide (k < 4)
  | .breakMaxExpiry k => decide (k < 4)
  | .settlingEnd k => decide (k < 4)
  | .unknownRequest type _ payload => !isRequestCode type && decide (payload.length ≤ 240)
  | .clearOverflow _ numbers => decide (numbers.length ≤ 240)
  | .updateChunk _ _ data => decide (data.length ≤ 238)
  | .powerOnReset | .tick _ _ | .samplingInstant | .conversionDelivered _ _ _ _ | .overCurrentRunComplete
  | .alignDeadline none | .sampleBroadcastSent | .conversionWindowEnd | .replyWindowEnd | .chainPowerUpDone
  | .stepTimerExpiry | .sleepTimerExpiry | .hostArrival | .wakePulseEnd | .nvStepComplete | .verificationComplete
  | .tamperAccepted | .tamperReleaseAccepted | .receiverIdleWaitEnd | .frameGapTimeout | .frameComplete
  | .transmitFrameEnd | .scheduleStart _ | .scheduleStop _ | .sampleNow _ _ | .readSweep _ | .readCells _ _ _
  | .chainEnumerate _ | .readModules _ | .readAnalog _ | .resetReferences _ _ | .readResistance _ _ _
  | .readConditions _ | .clearConditions _ _ | .setAlertEnable _ _ | .saveWear _ | .clearContactorFault _ _
  | .readContactors _ | .runSequence _ _ | .openAll _ | .readRunner _ | .setCounter _ _ _ _ _ _ | .readCounters _
  | .logRead _ _ | .logRelease _ _ | .sleep _ | .updateBegin _ _ _ _ | .updateCommit _ | .updateAbort _ | .activate _
  | .tamperClear _ | .readProfileInfo _ | .status _ | .identify _ | .resetPart _ | .linkByteReceived _ => true

end Sys2Proof
end

