-- ==== Sys2Proof/Machine/Link.lean ====
section
/-! DEFINITION. The pack link interface: service (R151, R194, R195), the receiver (R192, R193), the end of a transmitted frame (R194,
R196, R201) and the resets (R150, R174, R201). The functions here make an event's own effects; the command's meaning ends the event
with `finish`. -/
namespace Sys2Proof.Machine

/-! ## Resets -/

/-- What a reset leaves of nonvolatile memory: a step in flight leaves its page or bank torn (R174). -/
def State.memAfterReset (s : State) : NvMem :=
  match s.nvs.flight with
  | some f => tearStep s.nvs.mem f.step
  | none => s.nvs.mem

/-- A power-on reset, and what RESET_PART performs (R150, R174, R201). The start-up reading follows in the same event (log 8). -/
def resetPart (s : State) : State := blocksReset s.memAfterReset s.pins s.pending

/-! ## Service -/

/-- Whether a mode serves a request code (R151): STATUS is 0x21, IDENTIFY 0x22. -/
def Mode.serves (m : Mode) (code : Byte) : Bool :=
  match m with
  | .run => true
  | .startup | .waking => code == 0x21 || code == 0x22
  | .sleepEntry => code == 0x21
  | .sleep | .sleepSweep => false

/-- The checks common to every request, and the owning block's rule (R195). -/
def answer (f : InFrame) (s : State) : Answer :=
  if isRequestCode f.type = false then refuse .unknownRequest s
  else if s.pwr.mode.serves f.type = false then refuse .busy s
  else
    match parseArgs f.type.toNat f.payload with
    | none => refuse .badArgument s
    | some r => own r s

/-- A frame enters service: its reply is formed in the same event (R195). -/
def serve (f : InFrame) (s : State) : State :=
  let (s1, r) := answer f s
  s1.setPli { s1.pli with reply := some (.reply f.type f.tag r) }

/-- A frame whose check holds is offered to the receive holding (R194). -/
def offerFrame (f : InFrame) (s : State) : State :=
  match s.pli.holding with
  | [] => serve f (s.setPli { s.pli with holding := [f] })
  | [g] => s.setPli { s.pli with holding := [g, f] }
  | _ :: _ :: _ => setCond .linkOverrun s

/-- The receiver is off (R151). -/
def Mode.deaf : Mode → Bool
  | .sleep | .sleepSweep => true
  | .startup | .run | .sleepEntry | .waking => false

/-- A whole frame arrives: it is offered to the holding, or it is activity on the receive line while the receiver is off (R151, R193,
log 4). -/
def frameArrives (f : InFrame) (s : State) : State := if s.pwr.mode.deaf then hostArrive s else offerFrame f s

/-- The frame of a request (R191, R202). -/
def requestFrame (tag : Byte) (r : Request) : InFrame := { type := r.code, tag := tag, payload := r.payload }

/-- A request arrives as a whole frame. -/
def requestArrives (tag : Byte) (r : Request) (s : State) : State := frameArrives (requestFrame tag r) s

/-! ## The end of a transmitted frame -/

/-- The reply OK to a RESET_PART (R201). -/
def OutFrame.isReset : OutFrame → Bool
  | .reply type _ r => type == 0x23 && r.status == .ok
  | .conditions _ _ _ | .woke _ _ => false

/-- The frame in service leaves the holding; the waiting frame enters service (R194). -/
def nextFrame (s : State) : State :=
  match s.pli.holding with
  | _ :: f :: rest => serve f (s.setPli { s.pli with holding := f :: rest })
  | _ => s.setPli { s.pli with holding := [] }

/-- The last byte of a frame has left the part (R194, R196, R201). -/
def transmitEnds (s : State) : State :=
  match s.pli.sending with
  | none => s
  | some f =>
    let s1 := s.setPli { s.pli with sending := none }
    match f with
    | .reply _ _ _ => if f.isReset then resetPart s1 else nextFrame s1
    | .conditions _ _ _ | .woke _ _ => s1

/-! ## The receiver -/

/-- The sync value (R202). -/
def syncByte : Byte := 0xA5

/-- A frame in assembly has a length byte above 240: it never completes (R192). -/
def frameTooLong (bs : List Byte) : Bool := decide (3 ≤ bs.length) && decide (240 < (bs.getD 2 0).toNat)

/-- The bytes after the sync byte make a complete frame: type, tag, length, payload and check (R192). -/
def frameWhole (bs : List Byte) : Bool := decide (3 ≤ bs.length) && !frameTooLong bs && decide ((bs.getD 2 0).toNat + 5 ≤ bs.length)

/-- The frame that a complete assembly spells, none when its check fails (R191, R193). -/
def judgeFrame (bs : List Byte) : Option InFrame :=
  let n := (bs.getD 2 0).toNat
  if le16 (crc16 (bs.take (n + 3))) = (bs.drop (n + 3)).take 2 then
    some { type := bs.getD 0 0, tag := bs.getD 1 0, payload := (bs.drop 3).take n }
  else none

/-- LINK_ERROR is set and raised (R192, R193). -/
def linkError (s : State) : State := occurrence .linkError (setCond .linkError s)

/-- The receiver takes a state. -/
def setRx (r : Rx) (s : State) : State := s.setPli { s.pli with rx := r }

/-- A complete frame is waiting to be judged (R192, R193). -/
def State.frameDue (s : State) : Bool :=
  match s.pli.rx with
  | .assembling bs _ => frameWhole bs
  | .off | .idleWait _ | .hunting => false

/-- A complete frame is judged by its check and offered to the holding (R193). -/
def frameJudged (s : State) : State :=
  match s.pli.rx with
  | .assembling bs _ =>
    if frameWhole bs then
      let s1 := setRx .hunting s
      match judgeFrame bs with
      | some f => offerFrame f s1
      | none => linkError s1
    else s
  | .off | .idleWait _ | .hunting => s

/-- The idle wait ends (R192). -/
def idleWaitEnds (s : State) : State :=
  match s.pli.rx with
  | .idleWait t => setRx .hunting (advanceTo t s)
  | .off | .hunting | .assembling _ _ => s

/-- The gap after a byte of a frame in assembly has lasted 1 ms: the frame is discarded (R192). -/
def gapEnds (s : State) : State :=
  match s.pli.rx with
  | .assembling bs t => if frameWhole bs then s else linkError (setRx .hunting (advanceTo t s))
  | .off | .idleWait _ | .hunting => s

/-- What the receiver still has to take before a byte that started at an instant: a complete frame, an idle wait or a gap that had ended
by then (R192, log 26). -/
def rxCatchUp (start : Time) (s : State) : State :=
  match s.pli.rx with
  | .off | .hunting => s
  | .idleWait t => if isEarlier start t then s else setRx .hunting s
  | .assembling bs t =>
    if frameWhole bs then frameJudged s
    else if isEarlier start t then s
    else linkError (setRx .hunting s)

/-- A byte that has ended now is taken by the receiver's state (R192). -/
def takeByte (b : Byte) (s : State) : State :=
  let t := s.now + us 1000
  match s.pli.rx with
  | .off => s
  | .idleWait _ => setRx (.idleWait t) s
  | .hunting => if b = syncByte then setRx (.assembling [] t) s else s
  | .assembling bs _ => setRx (.assembling (if frameTooLong bs then bs else bs ++ [b]) t) s

/-- A byte arrives on the receive line; it ends now and started 10 us before (R151, R192, log 26). -/
def byteArrives (b : Byte) (s : State) : State :=
  if s.pwr.mode.deaf then hostArrive s else takeByte b (rxCatchUp (s.now - us 10) s)

end Sys2Proof.Machine
end

