-- ==== Sys2Proof/Machine/Sweep.lean ====
section
/-! DEFINITION. The life of a sweep and of an enumeration on the chain: the broadcast, the reads and their outcomes, the cell table's
writes, the sweep's completion with its judgement, the IDENTs (R10 to R13, R19, R24 to R33, R36, R162). The functions here make an
event's own effects; the command's meaning ends the event with `finish`. -/
namespace Sys2Proof.Machine

/-! ## Replies of the monitors (R22, R26, R204) -/

/-- What a request to a monitor comes to: its outcome, the status byte of a reply whose check holds, and the codes of a good READ. -/
structure MonitorReply where
  outcome : ReadOutcome
  status : Option Byte
  codes : List Nat
deriving DecidableEq, Repr

/-- No complete reply within the window. -/
def noReply : MonitorReply := { outcome := .noReply, status := none, codes := [] }

/-- A complete reply that fails its check, its kind or its position. -/
def badReply : MonitorReply := { outcome := .badCrc, status := none, codes := [] }

/-- A reply of n bytes bears the kind and position expected and its check holds. The start byte is not judged (log 14). -/
def replyHolds (n : Nat) (kind : Byte) (k : Nat) (bs : List Byte) : Bool :=
  crc8 ((bs.take (n - 1)).drop 1) == bs.getD (n - 1) 0 && bs.getD 1 0 == kind && (bs.getD 2 0).toNat == k

/-- A complete READ reply of position k, for a sweep's tag (R26). The sample-held flag is bit 7 of the status byte (R204). -/
def judgeRead (tag : Byte) (k : Nat) (bs : List Byte) : MonitorReply :=
  if replyHolds 38 0xA0 k bs then
    let status := bs.getD 35 0
    if bs.getD 36 0 = tag ∧ status.getLsbD 7 = true then
      { outcome := .good, status := some status, codes := (List.range 16).map fun c => natAt bs (3 + 2 * c) 2 }
    else { outcome := .tagMismatch, status := some status, codes := [] }
  else badReply

/-- A complete IDENT reply of position k (R26). -/
def judgeIdent (k : Nat) (bs : List Byte) : MonitorReply :=
  if replyHolds 5 0xB0 k bs then { outcome := .good, status := some (bs.getD 3 0), codes := [] } else badReply

/-! ## The cell table's writes -/

/-- The cell instant of channel c of position k (R50). -/
def cellInstant (p : Profile) (tb : Time) (k c : Nat) : Time := tb + us (p.convOffset + k * p.hopDelay + c * p.cellSpacing)

/-- A cell written from a code (R19, R28). -/
def writeCell (code : Nat) (t : Time) (tag : Byte) (c : Cell) : Cell :=
  { c with
    code := some (min 50000 code), range := if 50000 < code then .outOfRange else .normal, inst := some t, tag := tag,
    age := 0, fresh := true, staleDue := false, current := none, mark := none }

/-- The channels of a module from c on are written, one entry after the other (R19, R27). -/
def writeChannels (tag : Byte) (tb : Time) (k : Nat) : Nat → List Nat → State → State
  | _, [], s => s
  | c, code :: rest, s =>
    let i := cellBase s.prof k + c
    writeChannels tag tb k (c + 1) rest (s.setCell i (writeCell code (cellInstant s.prof tb k c) tag (s.cell i)))

/-- The cells of a module are submitted to the alignment unit, in channel order (R27, R51). -/
def submitCells : List Nat → State → State
  | [], s => s
  | i :: rest, s =>
    match (s.cell i).inst with
    | some t => submitCells rest (submitAlign (some i) t s)
    | none => submitCells rest s

/-- A cell whose age the tick has found past the freshness limit goes stale (R20, R79). -/
def freshnessTaken (i : Nat) (s : State) : State :=
  if (s.cell i).staleDue then judgeStale (s.setCell i { s.cell i with fresh := false, staleDue := false }) else s

/-- The cells that the tick before left to go stale do so before they are written: the tick came first (R20, R79). -/
def takeStale : List Nat → State → State
  | [], s => s
  | i :: rest, s => takeStale rest (freshnessTaken i s)

/-- The codes of a GOOD read of position k go to the cell table, and the position into the received mask (R11, R19, R27). -/
def takeCodes (k : Nat) (codes : List Nat) (w : SweepRec) (s : State) : State :=
  let s0 := takeStale (moduleCells s.prof k) s
  let s1 := writeChannels w.tag (w.tb.getD s0.now) k 0 (codes.take (cellsAt s0.prof k)) s0
  let s2 := judgeStale (s1.setSch { s1.sch with sweep := some { w with received := w.received ||| BitVec.twoPow 12 k } })
  submitCells (moduleCells s2.prof k) s2

/-! ## The module table -/

/-- A module table entry at a miss (R30). -/
def missEntry (o : MonitorReply) (m : ModEntry) : ModEntry :=
  let n := min 3 (m.misses + 1)
  { m with last := o.outcome, status := if o.status.isSome then o.status else m.status, misses := n, lost := m.lost || n == 3 }

/-- A module table entry at a GOOD READ or IDENT (R30, R32). -/
def goodEntry (o : MonitorReply) (m : ModEntry) : ModEntry :=
  { m with present := true, misses := 0, last := .good, status := o.status, lost := false }

/-- The module table and the chain's conditions at the outcome of a READ in a sweep (R29 to R31). -/
def readEntry (k : Nat) (o : MonitorReply) (s : State) : State :=
  if o.outcome = .good then judgeModuleLost (s.setMod k (goodEntry o (s.modEntry k)))
  else
    let s1 := s.setMod k (missEntry o (s.modEntry k))
    judgeModuleLost (setCond .chainError (occurrence .moduleMiss s1))

/-! ## Completion -/

/-- A cell's code with its index takes the place of the one held when it is less; the cells come in rising order (R13). -/
def lesser (acc : Option (Nat × Nat)) (x : Nat × Nat) : Option (Nat × Nat) :=
  match acc with
  | some a => if x.2 < a.2 then some x else acc
  | none => some x

/-- As `lesser`, for the greater code (R13). -/
def greater (acc : Option (Nat × Nat)) (x : Nat × Nat) : Option (Nat × Nat) :=
  match acc with
  | some a => if a.2 < x.2 then some x else acc
  | none => some x

/-- The cells that a sweep wrote, in rising order. -/
def State.writtenCells (s : State) (w : SweepRec) : List Nat := maskCells s.prof w.received

/-- The last-sweep summary of a sweep (R13, R57). -/
def formSummary (w : SweepRec) (s : State) : Summary :=
  let cs := (s.writtenCells w).map fun i => (i, (s.cell i).code.getD 0)
  { tag := w.tag, source := w.source, tb := w.tb, requested := w.requested, received := w.received,
    minCell := cs.foldl lesser none, maxCell := cs.foldl greater none,
    sum := BitVec.ofNat 32 (cs.map Prod.snd).sum, aligned := s.sch.sumAlign }

/-- Whether a sweep read every populated position (R12 stage 2). -/
def fullSweep (p : Profile) (w : SweepRec) : Bool := w.received &&& popMask p == popMask p

/-- The breach kinds of a cell under the sleep limits (R162). -/
def sleepBreaches (p : Profile) (c : Cell) : Breaches :=
  let v := c.code.getD 0
  { ov := c.range == .outOfRange || decide (p.sleepOv < v)
    uv := decide (v < p.sleepUv)
    selfDischarge := match c.sleepRef with
      | some r => decide (v + p.selfDischarge < r)
      | none => false
    chain := false }

/-- Two sets of breach kinds together. -/
def Breaches.union (a b : Breaches) : Breaches :=
  { ov := a.ov || b.ov, uv := a.uv || b.uv, selfDischarge := a.selfDischarge || b.selfDischarge, chain := a.chain || b.chain }

/-- The judgement of a sleep sweep (R162). -/
def sleepJudge (w : SweepRec) (s : State) : State :=
  let s1 := occurrence .sleepSweep s
  let found := (s1.writtenCells w).foldl (fun b i => b.union (sleepBreaches s1.prof (s1.cell i))) s1.pwr.gathered
  s1.setPwr { s1.pwr with gathered := { found with chain := found.chain || w.requested &&& ~~~w.received != 0 } }

/-- The sweep record moves to DONE, and the chain master returns to IDLE (R12 stage 5, R23). -/
def sweepDone (s : State) : State :=
  let s1 := s.setSch { s.sch with sweep := s.sch.sweep.map fun w => { w with stage := .done } }
  s1.setChn { s1.chn with st := if s1.chn.st = .sweeping then .idle else s1.chn.st, wait := .nothing }

/-- The runner is told of the completion of an event sweep that is not marked unreported (R8, R12 stage 5). -/
def tellRunner (s : State) : State :=
  match s.sch.sweep with
  | some w => if w.source = .event ∧ w.unreported = false then runnerSwept w.requested w.received s else s
  | none => s

/-- The power controller is told of the completion of a sleep sweep (R12 stage 5, R163). -/
def tellPower (w : SweepRec) (s : State) : State := if w.source = .sleep then sleepDecision s else s

/-- A sweep completes: the five stages of R12. The arbiter chooses again after the runner has been told (log 11). -/
def completeSweep (w : SweepRec) (s : State) : State :=
  let s1 := occurrence .sweepDone (s.setSch { s.sch with summary := some (formSummary w s) })
  let s2 := if fullSweep s.prof w then snapshotCheck (occurrence .fullSweepDone s1) else s1
  let s3 := if w.source = .sleep then sleepJudge w s2 else limitEvaluate (s2.writtenCells w) s2
  tellPower w (arbiter (tellRunner (chainIdle (sweepDone s3))))

/-- A sweep in ALIGNING completes when every alignment it needs has been made (R11, R12). -/
def completeIfAligned (s : State) : State :=
  match s.sch.sweep with
  | some w => if w.stage = .aligning ∧ s.aln = [] then completeSweep w s else s
  | none => s

/-! ## Broadcast and reads -/

/-- The conversion window after the broadcast instant (R25). -/
def conversionWindow (p : Profile) : Nat := p.convOffset + 11 * p.hopDelay + 16 * p.cellSpacing

/-- The broadcast has left the part (R10, R24, R51). -/
def broadcastSent (s : State) : State :=
  match s.sch.sweep with
  | some w =>
    if w.stage = .broadcasting then
      let s1 := s.setSch { s.sch with sweep := some { w with tb := some s.now, stage := .reading } }
      let s2 := s1.setChn { s1.chn with wait := .window (s.now + us (conversionWindow s.prof)) }
      submitAlign none s.now s2
    else s
  | none => s

/-- The READ of position k is sent (R25). -/
def sendRead (k : Nat) (s : State) : State := s.setChn { s.chn with wait := .read k (replyEnd s) }

/-- READING ends (R11, R25). -/
def readingEnds (s : State) : State :=
  let s1 := s.setChn { s.chn with wait := .nothing }
  completeIfAligned (s1.setSch { s1.sch with sweep := s1.sch.sweep.map fun w => { w with stage := .aligning } })

/-- The next READ: of the lowest position of the requested mask that is at or above one; with none left READING ends (R25). -/
def readFrom (k : Nat) (s : State) : State :=
  match s.sch.sweep with
  | some w =>
    match (maskPositions w.requested).find? (fun j => decide (k ≤ j)) with
    | some j => sendRead j s
    | none => readingEnds s
  | none => s

/-- The conversion window has passed (R25). -/
def windowEnds (s : State) : State :=
  match s.chn.wait with
  | .window t => readFrom 0 (advanceTo t s)
  | .nothing | .read _ _ | .ident _ _ => s

/-- The outcome of the READ of position k (R11, R25 to R31). -/
def readDone (k : Nat) (o : MonitorReply) (s : State) : State :=
  let s1 := readEntry k o s
  match s1.sch.sweep with
  | some w => readFrom (k + 1) (if o.outcome = .good then takeCodes k o.codes w s1 else s1)
  | none => s1

/-! ## Enumeration -/

/-- The enumeration stops; the positions from one on gave no GOOD IDENT (R9, R32, R33, R36, R153 stage 3). -/
def enumerationEnds (from_ : Nat) (s : State) : State :=
  let s1 := endMarking from_ s
  let s2 := s1.setChn { s1.chn with st := .idle, wait := .nothing }
  let s3 := if s2.pwr.mode = .startup then s2.setPwr { s2.pwr with enumEnded := true } else s2
  arbiter (chainIdle s3)

/-- The outcome of the IDENT of position k (R31, R32). -/
def identDone (k : Nat) (o : MonitorReply) (s : State) : State :=
  if o.outcome = .good then
    let s1 := judgeModuleLost (s.setMod k (goodEntry o (s.modEntry k)))
    if k < 11 then sendIdent (k + 1) s1 else enumerationEnds 12 s1
  else
    let s1 := s.setMod k { s.modEntry k with last := o.outcome }
    let s2 := if o.outcome = .badCrc ∨ k < s.prof.moduleCount then setCond .chainError s1 else s1
    enumerationEnds k s2

/-! ## What arrives from the chain -/

/-- A reply's bytes have arrived within the window: the outcome is decided when there are as many as the kind requires (R26). Bytes
that come while no reply is awaited are discarded (R22). -/
def chainReply (bs : List Byte) (s : State) : State :=
  match s.chn.wait with
  | .read k _ => if 38 ≤ bs.length then readDone k (judgeRead s.chn.sweepTag k bs) s else s
  | .ident k _ => if 5 ≤ bs.length then identDone k (judgeIdent k bs) s else s
  | .nothing | .window _ => s

/-- The reply window ends without a complete reply (R26). -/
def replyWindowEnds (s : State) : State :=
  match s.chn.wait with
  | .read k t => readDone k noReply (advanceTo t s)
  | .ident k t => identDone k noReply (advanceTo t s)
  | .nothing | .window _ => s

/-- The power-up interval ends (R36). -/
def chainUp (s : State) : State :=
  match s.chn.st, s.chn.powerUpEnd with
  | .powering, some t =>
    let s1 := advanceTo t s
    chainIdle (s1.setChn { s1.chn with st := .idle, powerUpEnd := none })
  | _, _ => s

end Sys2Proof.Machine
end

