-- ==== Sys2Proof/Machine/Work.lean ====
section
/-! DEFINITION. What the clock, the converter and the nonvolatile memory do to the blocks: the tick (R40), the expiries that it finds,
the conversions (R42 to R47, R53), the steps of the NV engine (R172, R173, R181, R188) and the verification (R180). The functions here
make an event's own effects; the command's meaning ends the event with `finish`. -/
namespace Sys2Proof.Machine

/-! ## Expiries. Each has its effect when it is due, and none otherwise (log 2). -/

/-- R5. -/
def slotTaken (i : Nat) (s : State) : State := if s.slotDue i then slotExpire i s else s

/-- A reference older than the maximum age and not yet marked expired (R61). -/
def refDue (p : Profile) (c : Cell) : Bool :=
  match c.ref with
  | some r => r.overdue p && !r.expired
  | none => false

/-- R61. -/
def referenceTaken (i : Nat) (s : State) : State :=
  if refDue s.prof (s.cell i) then
    s.setCell i { s.cell i with ref := (s.cell i).ref.map fun r => { r with expired := true } }
  else s

/-- OVER_CURRENT changes state; its change to set applies the trip action (R47, R80). -/
def overCurrentTaken (s : State) : State :=
  if s.ocDue then
    let on := !s.ana.overCurrent
    let s1 := liveCond .overCurrent on (s.setAna { s.ana with overCurrent := on, run := 0 })
    if on then applyTrip .overCurrent s1.prof.tripOc s1 else s1
  else s

/-- The runner is told a channel's new state (R105 stage 4). -/
def tellChannel (k : Nat) (s : State) : State := runnerReport k (s.chan k).st s

/-- An accepted change of channel k's feedback: it is taken and acted on, then the tick's countdowns of the channel go down
(R95, log 19). -/
def feedbackTaken (k : Nat) (s : State) : State :=
  if (s.chan k).acceptDue && !s.kdr.suspended then
    let (s1, told) := actOnFeedback k (s.setChan k (s.chan k).accept)
    let s2 := if told then tellChannel k s1 else s1
    s2.setChan k (s2.chan k).countDown
  else s

/-- R94. -/
def pullInTaken (k : Nat) (s : State) : State :=
  if (s.chan k).coil == .pullIn && (s.chan k).pullIn == some 0 then
    s.setChan k { s.chan k with coil := .hold, pullIn := none }
  else s

/-- R97. -/
def makeMaxTaken (k : Nat) (s : State) : State :=
  if (s.chan k).st == .closing && (s.chan k).superv == some 0 then
    tellChannel k (enterFault k .closeFailed false s.now s)
  else s

/-- R101. -/
def breakMaxTaken (k : Nat) (s : State) : State :=
  if (s.chan k).st == .opening && (s.chan k).superv == some 0 then
    tellChannel k (enterFault k .weldSuspect (s.chan k).underLoad s.now s)
  else s

/-- R107. -/
def settlingTaken (k : Nat) (s : State) : State :=
  if (s.chan k).settling == some 0 then
    let s1 := s.setChan k { s.chan k with settling := none }
    if s.inUse k && (s.chan k).closedFb && (s.chan k).st == .opened then
      tellChannel k (enterFault k .weldSuspect false s.now s1)
    else s1
  else s

/-- R119. -/
def stepTimerTaken (s : State) : State := if s.timerDue then runnerTimer s else s

/-- R161. -/
def sleepTimerTaken (s : State) : State := if s.sleepDue then sleepExpire s else s

/-- R186, R187. -/
def tamperTaken (s : State) : State :=
  if s.tmp.acceptDue && !s.tmp.asserted then
    tamperAccept (s.setTmp { s.tmp with asserted := true, run := 0, acceptDue := false })
  else s

/-- R186. -/
def tamperReleaseTaken (s : State) : State :=
  if s.tmp.acceptDue && s.tmp.asserted then s.setTmp { s.tmp with asserted := false, run := 0, acceptDue := false } else s

/-- An event of the part's own, when it is due. -/
def takeEvent (due : Bool) (f : State → State) (s : State) : State := if due then finish (f s) else s

/-- The indices, counted from n on, of the cells that have a property. -/
def cellsWith (f : Cell → Bool) : Nat → List Cell → List Nat
  | _, [] => []
  | n, c :: rest => if f c then n :: cellsWith f (n + 1) rest else cellsWith f (n + 1) rest

/-- An event for each of some numbers, in order. -/
def takeEach (f : Nat → State → State) : List Nat → State → State
  | [], s => s
  | i :: rest, s => takeEach f rest (f i s)

/-- The part's own work that is due and has not been taken, each piece a whole event, in the order of the opcode table (log 2):
what the last tick left to expire or to accept, a complete frame to judge, and the start-up reading right after a reset (log 8). Of
several slots, cells or channels that one row finds due, the lower number comes first: slots 0 to 7, so that slot 0's expiry is the first
to be granted on a free link (DESIGN CHOICE, log 2). -/
def dueWork (s : State) : State :=
  let s0 := takeEvent (s.pwr.mode == .startup && s.nvs.sel == .unread) id s
  let s1 := takeEach (fun i s => takeEvent (s.slotDue i) (slotTaken i) s) (List.range 8) s0
  let s2 := takeEach (fun i s => takeEvent (s.cell i).staleDue (freshnessTaken i) s) (cellsWith (·.staleDue) 0 s1.cells) s1
  let s3 := takeEach (fun i s => takeEvent (refDue s.prof (s.cell i)) (referenceTaken i) s)
    (cellsWith (refDue s2.prof) 0 s2.cells) s2
  let s4 := takeEvent s3.ocDue overCurrentTaken s3
  let s5 := takeEach (fun k s => takeEvent (s.chan k).acceptDue (feedbackTaken k) s) (List.range 4) s4
  let s6 := takeEach (fun k s => takeEvent ((s.chan k).pullIn == some 0) (pullInTaken k) s) (List.range 4) s5
  let s7 := takeEach (fun k s => takeEvent ((s.chan k).st == .closing && (s.chan k).superv == some 0) (makeMaxTaken k) s)
    (List.range 4) s6
  let s8 := takeEach (fun k s => takeEvent ((s.chan k).st == .opening && (s.chan k).superv == some 0) (breakMaxTaken k) s)
    (List.range 4) s7
  let s9 := takeEach (fun k s => takeEvent ((s.chan k).settling == some 0) (settlingTaken k) s) (List.range 4) s8
  let s10 := takeEvent s9.timerDue stepTimerTaken s9
  let s11 := takeEvent s10.sleepDue sleepTimerTaken s10
  let s12 := takeEvent s11.tmp.acceptDue (fun s => if s.tmp.asserted then tamperReleaseTaken s else tamperTaken s) s11
  takeEvent s12.frameDue frameJudged s12

/-! ## The tick -/

/-- Pack time at a tick: the tick's own instant; it does not go backwards (R38, R40, log 3). -/
def tickTime (s : State) : State :=
  s.setTim { packTime := if isEarlier s.now s.tim.nextTick then s.tim.nextTick else s.now, nextTick := s.tim.nextTick + us 1000 }

/-- A tick of channel k: the sample, then the countdowns, unless a change is accepted and they follow it (R95). A run toward CLOSED that
is abandoned in OPENING moves the contactor to OPEN (R101). -/
def tickChan (k : Nat) (s : State) : State :=
  let c := s.chan k
  let c1 := c.sample (readFeedback (s.chanCfg k).polarity (s.pins.feedback.getLsbD k)) s.now
  let s1 := s.setChan k c1
  let s2 :=
    if c.st = .opening ∧ c.closingChange = true ∧ c1.debounce = 0 then tellChannel k (enterOpenUntimed k s1) else s1
  if c1.acceptDue then s2 else s2.setChan k (s2.chan k).countDown

/-- A tick of the contactor drivers, unless supervision is suspended (R95). -/
def tickDrivers (s : State) : State := if s.kdr.suspended then s else tickChan 3 (tickChan 2 (tickChan 1 (tickChan 0 s)))

/-- A tick of a cell: its age and its reference's age (R20, R61). -/
def tickCell (p : Profile) (c : Cell) : Cell :=
  let age := if c.code.isSome then min 65535 (c.age + 1) else c.age
  { c with
    age := age
    staleDue := c.staleDue || (c.fresh && decide (p.freshness < age))
    ref := c.ref.map fun r => { r with age := min 65535 (r.age + 1) } }

/-- A tick of the slots' countdowns, which run while the schedule is RUNNING (R5). -/
def tickSlots (s : State) : State :=
  if s.sch.running then s.setSch { s.sch with countdowns := s.sch.countdowns.map tickDown } else s

/-- A tick of the tamper debounce (R186). -/
def tickTamper (s : State) : State :=
  if s.pins.tamper = s.tmp.asserted then s.setTmp { s.tmp with run := 0, acceptDue := false }
  else if s.tmp.run < 10 then s.setTmp { s.tmp with run := s.tmp.run + 1 }
  else s.setTmp { s.tmp with acceptDue := true }

/-- The work of a tick, the inputs sampled (R40, log 19). -/
def tickWork (feedback : BitVec 4) (tamper : Bool) (s : State) : State :=
  let s1 := tickRunner (tickTime (s.setPins { feedback := feedback, tamper := tamper }))
  let s2 := tickDrivers s1
  let s3 := s2.setCells (s2.cells.map (tickCell s2.prof))
  tickSleep (tickTamper (tickOverCurrent (tickSlots s3)))

/-! ## Conversions -/

/-- A lost conversion; the second in a row is the fault, at which an owed ready report is made (R42, R44, R45). -/
def loseConversion (s : State) : State :=
  let n := min 2 (s.ana.lost + 1)
  let s1 := s.setAna { s.ana with lost := n }
  if n = 2 ∧ s.ana.fault = false then
    let s2 := setCond .analogFault (s1.setAna { s1.ana with fault := true })
    if s2.ana.readyOwed.isSome then anaReport (s2.setAna { s2.ana with readyOwed := none }) else s2
  else s1

/-- A sampling instant (R42), at which the active profile's period takes effect (R46). The new conversion is started before the loss of
the old one is counted, so that a power-down which the fault report brings about abandons it (R44, R45). -/
def sampleInstant (s : State) : State :=
  if s.ana.sampling then
    let t := s.ana.nextInstant
    let s1 := advanceTo t s
    let s2 := s1.setAna { s1.ana with outstanding := some t, period := s1.prof.period, nextInstant := t + us s1.prof.period }
    if s.ana.outstanding.isSome then loseConversion s2 else s2
  else s

/-- A delivered conversion joins the ring; a fault ends and empties the ring first (R43, R44). -/
def appendEntry (e : RingEntry) (s : State) : State :=
  let s1 := if s.ana.fault then clearCond .analogFault (s.setAna { s.ana with fault := false, ring := [] }) else s
  s1.setAna { s1.ana with outstanding := none, lost := 0, ring := appendRing s1.ana.ring e }

/-- An appended entry is counted toward a ready report that is owed (R45). -/
def countReady (s : State) : State :=
  match s.ana.readyOwed with
  | none => s
  | some n => s.setAna { s.ana with readyOwed := some (n - 1) }

/-- The ready report is made when no entry is wanted any more (R45). A power-up in the same arrival owes a report of its own, for which
this arrival's entry does not count. -/
def reportReady (s : State) : State :=
  if s.ana.readyOwed = some 0 then anaReport (s.setAna { s.ana with readyOwed := none }) else s

/-- The arrival of an entry at those who await it: the over-current check, the deferred alignments with the completion they may bring,
the step that was awaiting it, the ready report (R43, R45, R47, R52, R123, log 10). -/
def arrival (e : RingEntry) (s : State) : State :=
  let s1 := countReady (classEntry e s)
  let s2 := completeIfAligned (reclassify s1.aln s1)
  let s3 := if s.awaitsArrival && s2.seq.run == s.seq.run then runnerArrival e s2 else s2
  reportReady s3

/-- What the tick before left of the over-current run and of the step timer, each a whole event. A delivery that comes after that tick
finds it taken: the run has completed and OVER_CURRENT has changed (R47), the step has ended (R119, R123). -/
def dueAtDelivery (s : State) : State :=
  let s1 := takeEvent s.ocDue overCurrentTaken s
  takeEvent s1.timerDue stepTimerTaken s1

/-- A conversion is delivered; one that is not the outstanding one is discarded (R42, R43). -/
def deliver (t : Time) (current : Int) (pack link : Nat) (s : State) : State :=
  let s1 := dueAtDelivery s
  if s1.ana.outstanding = some t then
    let e := ringEntry t current pack link
    arrival e (appendEntry e s1)
  else s1

/-- The deadline of a deferred alignment (R53). -/
def deadlineTaken (target : Option Nat) (s : State) : State :=
  match s.aln.find? (fun it => it.target == target) with
  | some it =>
    let s1 := advanceTo it.deadline s
    completeIfAligned (makeAlignment target (heldNewAlign s1) (s1.setAln (s1.aln.erase it)))
  | none => s

/-! ## Power -/

/-- The end of the WAKE pulse (R165). -/
def wakePulseEnds (s : State) : State :=
  match s.pwr.wakePulse with
  | some t =>
    let s1 := advanceTo t s
    s1.setPwr { s1.pwr with wakePulse := none }
  | none => s

/-! ## The NV engine's steps -/

/-- A BANK_COMMIT has completed: the bank is pending, the update is over (R181). -/
def commitDone (x : AB) (g : BitVec 32) (s : State) : State :=
  let s1 := s.setUpd { s.upd with
    mark := some { bank := x, version := s.upd.version, gen := g }, staging := [], received := 0, target := none, st := .idle }
  offerRecord false (.update .committed s.upd.version none) (setCond .updateDone s1)

/-- A clear write has completed: the latch clears unless the write is void (R188, R189). -/
def clearDone (void : Bool) (s : State) : State :=
  if void then (if s.tmp.clearSt = .void then s.setTmp { s.tmp with clearSt := .none } else s)
  else judgeTamper (s.setTmp { s.tmp with latch := false, clearReq := false, clearSt := .none })

/-- An anchor write has put its slot in force. -/
def anchorDone (st : NvStep) (s : State) : State :=
  match st with
  | .anchor slot c => anchorInForce slot c s
  | .erase _ | .body _ _ | .header _ | .gen _ _ | .wear _ _ | .wipeGen _ => s

/-- A wear page has been written (R110, R170). -/
def wearDone (st : NvStep) (s : State) : State :=
  match st with
  | .wear page w =>
    let s1 := s.setNvs { s.nvs with curWear := page, curWearSeq := w.seq }
    s1.setKdr { s1.kdr with
      lastSave := some s1.now, wearSave := if s1.kdr.wearSave = .writing then .idle else s1.kdr.wearSave }
  | .erase _ | .body _ _ | .header _ | .gen _ _ | .anchor _ _ | .wipeGen _ => s

/-- The end of an operation (R173, R181, R184, R188, R189). -/
def operationEnds (f : NvFlight) (s : State) : State :=
  match f.op with
  | .bankCommit x g =>
    let s1 := setBankStatus x .valid s
    if s1.upd.stop then updFail .tamper (offerSure (.invalidate x) s1) else commitDone x g s1
  | .anchorTamper | .anchorSelect _ _ _ => anchorDone f.step s
  | .anchorActivate _ _ _ =>
    let s1 := anchorDone f.step s
    s1.setUpd { s1.upd with act := .owed }
  | .anchorClear => clearDone f.void (anchorDone f.step s)
  | .wearSave => wearDone f.step s
  | .invalidate x => setBankStatus x .incomplete s

/-- A step of the NV engine ends: the operation goes on, stops when a stop was requested of a commit, or ends (R172, R173, R187). Until
then the page, or the bank being erased, reads as it did before the step (log 38). -/
def nvStepTaken (s : State) : State :=
  match s.nvs.flight with
  | none => s
  | some f =>
    let s1 := advanceTo f.ends s
    let s2 := s1.setNvs { s1.nvs with mem := stepMem s1 f.step, flight := none }
    match nextStep s1 f.op f.step with
    | some st =>
      if s2.upd.stop && f.op.isCommit then updFail .tamper s2
      else s2.setNvs { s2.nvs with flight := some { f with step := st, ends := f.ends + us (stepTime st) } }
    | none => operationEnds f s2

/-! ## The update unit's verification -/

/-- The image in the staging buffer. -/
def stagedImage (s : State) : List Byte := Memory.readBytes s.upd.staging 0 s.upd.length

/-- The verification completion (R180). -/
def verified (s : State) : State :=
  if s.upd.st = .verifying then
    let img := stagedImage s
    if Config.profileTag img ≠ s.upd.tag then updFail .tag s
    else if (validImage img).isNone then updFail .invalid s
    else
      let x := commitTarget s
      let g := commitGen s
      match offerOp (.bankCommit x g) s with
      | some s1 => s1.setUpd { s1.upd with st := .committing, target := some (x, g), stop := false }
      | none => updFail .nvBusy s
  else s

/-! ## The passing of time -/

/-- The instants at which an event of the part's own falls (log 3). -/
def State.instants (s : State) : List Time :=
  [s.tim.nextTick]
    ++ (if s.ana.sampling then [s.ana.nextInstant] else [])
    ++ s.aln.map AlignItem.deadline
    ++ (match s.chn.wait with
        | .window t | .read _ t | .ident _ t => [t]
        | .nothing => [])
    ++ s.chn.powerUpEnd.toList ++ (s.nvs.flight.map NvFlight.ends).toList ++ s.pwr.wakePulse.toList
    ++ (match s.pli.rx with
        | .idleWait t | .assembling _ t => [t]
        | .off | .hunting => [])

/-- A microsecond passes, but not past an instant at which an event falls that has not been commanded; in SLEEP the tick alone moves
pack time (R38, log 3). A deadline that was past when its instant was submitted lies behind pack time and holds nothing up (log 33). -/
def passTime (s : State) : State :=
  if s.pwr.mode = .sleep ∨ s.instants.contains s.now = true then s
  else s.setTim { s.tim with packTime := s.tim.packTime + 1 }

/-- What the part does while no command waits: its due work, then the passing of a microsecond (log 3, log 25). -/
def idle (s : State) : State := passTime (dueWork s)

end Sys2Proof.Machine
end

