-- ==== Sys2Proof/Machine/Commands.lean ====
section
/-! DEFINITION. The meanings of the commands that are requests of the pack processor: each arrives as a whole frame of the pack link with
its tag (R191, R194, log 4), is served at once or when the frame in service has been answered (R195), and its owning block's rule stands
in Requests.lean. -/
namespace Sys2Proof.Machine

/-- A request with a tag: the frame's arrival, and what every event ends with. -/
def request (tag : Byte) (r : Request) (s : State) : Host.Outcome State Fault Refusal := .next (finish (requestArrives tag r s))

/-- R3. -/
def execScheduleStart (tag : Byte) (s : State) : Host.Outcome State Fault Refusal := request tag .scheduleStart s

/-- R4. -/
def execScheduleStop (tag : Byte) (s : State) : Host.Outcome State Fault Refusal := request tag .scheduleStop s

/-- R7. -/
def execSampleNow (tag : Byte) (mask : BitVec 16) (s : State) : Host.Outcome State Fault Refusal := request tag (.sampleNow mask) s

/-- R17. -/
def execReadSweep (tag : Byte) (s : State) : Host.Outcome State Fault Refusal := request tag .readSweep s

/-- R21. -/
def execReadCells (tag : Byte) (first : Byte) (count : Byte) (s : State) :
    Host.Outcome State Fault Refusal := request tag (.readCells first count) s

/-- R34. -/
def execChainEnumerate (tag : Byte) (s : State) : Host.Outcome State Fault Refusal := request tag .chainEnumerate s

/-- R37. -/
def execReadModules (tag : Byte) (s : State) : Host.Outcome State Fault Refusal := request tag .readModules s

/-- R49. -/
def execReadAnalog (tag : Byte) (s : State) : Host.Outcome State Fault Refusal := request tag .readAnalog s

/-- R70. -/
def execResetReferences (tag : Byte) (scope : Byte) (s : State) :
    Host.Outcome State Fault Refusal := request tag (.resetReferences scope) s

/-- R71. -/
def execReadResistance (tag : Byte) (first : Byte) (count : Byte) (s : State) :
    Host.Outcome State Fault Refusal := request tag (.readResistance first count) s

/-- R88. -/
def execReadConditions (tag : Byte) (s : State) : Host.Outcome State Fault Refusal := request tag .readConditions s

/-- R89. -/
def execClearConditions (tag : Byte) (set : BitVec 32) (s : State) :
    Host.Outcome State Fault Refusal := request tag (.clearConditions set) s

/-- R90. -/
def execSetAlertEnable (tag : Byte) (set : BitVec 32) (s : State) :
    Host.Outcome State Fault Refusal := request tag (.setAlertEnable set) s

/-- R110. -/
def execSaveWear (tag : Byte) (s : State) : Host.Outcome State Fault Refusal := request tag .saveWear s

/-- R111. -/
def execClearContactorFault (tag : Byte) (channel : Byte) (s : State) :
    Host.Outcome State Fault Refusal := request tag (.clearContactorFault channel) s

/-- R112. -/
def execReadContactors (tag : Byte) (s : State) : Host.Outcome State Fault Refusal := request tag .readContactors s

/-- R116. -/
def execRunSequence (tag : Byte) (id : Byte) (s : State) : Host.Outcome State Fault Refusal := request tag (.runSequence id) s

/-- R129. -/
def execOpenAll (tag : Byte) (s : State) : Host.Outcome State Fault Refusal := request tag .openAll s

/-- R132. -/
def execReadRunner (tag : Byte) (s : State) : Host.Outcome State Fault Refusal := request tag .readRunner s

/-- R139. -/
def execSetCounter (tag : Byte) (number : Byte) (kind : Byte) (flags : Byte) (value : BitVec 24) (reload : BitVec 24) (s : State) :
    Host.Outcome State Fault Refusal := request tag (.setCounter number kind flags value reload) s

/-- R140. -/
def execClearOverflow (tag : Byte) (numbers : List Byte) (s : State) :
    Host.Outcome State Fault Refusal := request tag (.clearOverflow numbers) s

/-- R141. -/
def execReadCounters (tag : Byte) (s : State) : Host.Outcome State Fault Refusal := request tag .readCounters s

/-- R148. -/
def execLogRead (tag : Byte) (n : Byte) (s : State) : Host.Outcome State Fault Refusal := request tag (.logRead n) s

/-- R149. -/
def execLogRelease (tag : Byte) (n : Byte) (s : State) : Host.Outcome State Fault Refusal := request tag (.logRelease n) s

/-- R154. -/
def execSleep (tag : Byte) (s : State) : Host.Outcome State Fault Refusal := request tag .sleep s

/-- R179. -/
def execUpdateBegin (tag : Byte) (version : BitVec 32) (length : BitVec 16) (imageTag : BitVec 128) (s : State) :
    Host.Outcome State Fault Refusal := request tag (.updateBegin version length imageTag) s

/-- R180. -/
def execUpdateChunk (tag : Byte) (offset : BitVec 16) (data : List Byte) (s : State) :
    Host.Outcome State Fault Refusal := request tag (.updateChunk offset data) s

/-- R180. -/
def execUpdateCommit (tag : Byte) (s : State) : Host.Outcome State Fault Refusal := request tag .updateCommit s

/-- R182. -/
def execUpdateAbort (tag : Byte) (s : State) : Host.Outcome State Fault Refusal := request tag .updateAbort s

/-- R183. -/
def execActivate (tag : Byte) (s : State) : Host.Outcome State Fault Refusal := request tag .activate s

/-- R189. -/
def execTamperClear (tag : Byte) (s : State) : Host.Outcome State Fault Refusal := request tag .tamperClear s

/-- R190. -/
def execReadProfileInfo (tag : Byte) (s : State) : Host.Outcome State Fault Refusal := request tag .readProfileInfo s

/-- R199. -/
def execStatus (tag : Byte) (s : State) : Host.Outcome State Fault Refusal := request tag .status s

/-- R200. -/
def execIdentify (tag : Byte) (s : State) : Host.Outcome State Fault Refusal := request tag .identify s

/-- R201. -/
def execResetPart (tag : Byte) (s : State) : Host.Outcome State Fault Refusal := request tag .resetPart s

end Sys2Proof.Machine
end

