-- ==== Sys2Proof/Machine/Events.lean ====
section
/-! DEFINITION. The meanings of the commands that are events: of the clock, and at the part's connections. Each is the event's own
effects, and then what every event ends with. -/
namespace Sys2Proof.Machine

/-- An event: its own effects, and what every event ends with. -/
def event (f : State → State) (s : State) : Host.Outcome State Fault Refusal := .next (finish (f s))

/-- R150, R174. -/
def execPowerOnReset (s : State) : Host.Outcome State Fault Refusal := event resetPart s

/-- R40; what the tick before left to be taken comes first (log 2). -/
def execTick (feedback : BitVec 4) (tamper : Bool) (s : State) : Host.Outcome State Fault Refusal :=
    event (fun s => tickWork feedback tamper (dueWork s)) s

/-- R5. -/
def execSlotExpiry (slot : Nat) (s : State) : Host.Outcome State Fault Refusal := event (fun s => slotTaken slot s) s

/-- R20, R79. -/
def execFreshnessExpiry (cell : Nat) (s : State) : Host.Outcome State Fault Refusal := event (freshnessTaken cell) s

/-- R61. -/
def execReferenceExpiry (cell : Nat) (s : State) : Host.Outcome State Fault Refusal := event (referenceTaken cell) s

/-- R42, R44. -/
def execSamplingInstant (s : State) : Host.Outcome State Fault Refusal := event sampleInstant s

/-- R43. -/
def execConversionDelivered (instant : Time) (current : Int) (pack : Nat) (link : Nat) (s : State) : Host.Outcome State Fault Refusal :=
    event (deliver instant current pack link) s

/-- R47, R80. -/
def execOverCurrentRunComplete (s : State) : Host.Outcome State Fault Refusal := event overCurrentTaken s

/-- R53. -/
def execAlignDeadline (target : Option Nat) (s : State) : Host.Outcome State Fault Refusal := event (deadlineTaken target) s

/-- R24. -/
def execSampleBroadcastSent (s : State) : Host.Outcome State Fault Refusal := event broadcastSent s

/-- R25. -/
def execConversionWindowEnd (s : State) : Host.Outcome State Fault Refusal := event windowEnds s

/-- R26. -/
def execChainReplyComplete (bytes : List Byte) (s : State) : Host.Outcome State Fault Refusal := event (chainReply bytes) s

/-- R26. -/
def execReplyWindowEnd (s : State) : Host.Outcome State Fault Refusal := event replyWindowEnds s

/-- R36. -/
def execChainPowerUpDone (s : State) : Host.Outcome State Fault Refusal := event chainUp s

/-- R95. -/
def execFeedbackAccepted (channel : Nat) (s : State) : Host.Outcome State Fault Refusal := event (feedbackTaken channel) s

/-- R94. -/
def execPullInEnd (channel : Nat) (s : State) : Host.Outcome State Fault Refusal := event (pullInTaken channel) s

/-- R97. -/
def execMakeMaxExpiry (channel : Nat) (s : State) : Host.Outcome State Fault Refusal := event (makeMaxTaken channel) s

/-- R101. -/
def execBreakMaxExpiry (channel : Nat) (s : State) : Host.Outcome State Fault Refusal := event (breakMaxTaken channel) s

/-- R107. -/
def execSettlingEnd (channel : Nat) (s : State) : Host.Outcome State Fault Refusal := event (settlingTaken channel) s

/-- R119. -/
def execStepTimerExpiry (s : State) : Host.Outcome State Fault Refusal := event stepTimerTaken s

/-- R161. -/
def execSleepTimerExpiry (s : State) : Host.Outcome State Fault Refusal := event sleepTimerTaken s

/-- R160, R163; in the other modes the receiver is on and its bytes are no arrival (R167, log 29). -/
def execHostArrival (s : State) : Host.Outcome State Fault Refusal := event hostArrive s

/-- R165. -/
def execWakePulseEnd (s : State) : Host.Outcome State Fault Refusal := event wakePulseEnds s

/-- R172, R173. -/
def execNvStepComplete (s : State) : Host.Outcome State Fault Refusal := event nvStepTaken s

/-- R180. -/
def execVerificationComplete (s : State) : Host.Outcome State Fault Refusal := event verified s

/-- R186, R187. -/
def execTamperAccepted (s : State) : Host.Outcome State Fault Refusal := event tamperTaken s

/-- R186. -/
def execTamperReleaseAccepted (s : State) : Host.Outcome State Fault Refusal := event tamperReleaseTaken s

/-- R192. -/
def execReceiverIdleWaitEnd (s : State) : Host.Outcome State Fault Refusal := event idleWaitEnds s

/-- R192. -/
def execFrameGapTimeout (s : State) : Host.Outcome State Fault Refusal := event gapEnds s

/-- R193. -/
def execFrameComplete (s : State) : Host.Outcome State Fault Refusal := event frameJudged s

/-- R195 check 1; the frame's arrival is R194's (log 4). -/
def execUnknownRequest (type : Byte) (tag : Byte) (payload : List Byte) (s : State) : Host.Outcome State Fault Refusal :=
    event (fun s => frameArrives { type := type, tag := tag, payload := payload } s) s

/-- R194, R196, R201. -/
def execTransmitFrameEnd (s : State) : Host.Outcome State Fault Refusal := event transmitEnds s

/-- R192; in SLEEP and SLEEP_SWEEP it is a HOST arrival (R151). -/
def execLinkByteReceived (byte : Byte) (s : State) : Host.Outcome State Fault Refusal := event (byteArrives byte) s

end Sys2Proof.Machine
end

