-- ==== Sys2Proof/Machine/Dispatch.lean ====
section
/-! DEFINITION. One arm for each command: a direct call of its meaning. -/
namespace Sys2Proof.Machine

def exec (i : Instr) (s : State) : Host.Outcome State Fault Refusal :=
  match i with
  | .powerOnReset => Sys2Proof.Machine.execPowerOnReset s
  | .tick feedback tamper => Sys2Proof.Machine.execTick feedback tamper s
  | .slotExpiry slot => Sys2Proof.Machine.execSlotExpiry slot s
  | .freshnessExpiry cell => Sys2Proof.Machine.execFreshnessExpiry cell s
  | .referenceExpiry cell => Sys2Proof.Machine.execReferenceExpiry cell s
  | .samplingInstant => Sys2Proof.Machine.execSamplingInstant s
  | .conversionDelivered instant current pack link => Sys2Proof.Machine.execConversionDelivered instant current pack link s
  | .overCurrentRunComplete => Sys2Proof.Machine.execOverCurrentRunComplete s
  | .alignDeadline target => Sys2Proof.Machine.execAlignDeadline target s
  | .sampleBroadcastSent => Sys2Proof.Machine.execSampleBroadcastSent s
  | .conversionWindowEnd => Sys2Proof.Machine.execConversionWindowEnd s
  | .chainReplyComplete bytes => Sys2Proof.Machine.execChainReplyComplete bytes s
  | .replyWindowEnd => Sys2Proof.Machine.execReplyWindowEnd s
  | .chainPowerUpDone => Sys2Proof.Machine.execChainPowerUpDone s
  | .feedbackAccepted channel => Sys2Proof.Machine.execFeedbackAccepted channel s
  | .pullInEnd channel => Sys2Proof.Machine.execPullInEnd channel s
  | .makeMaxExpiry channel => Sys2Proof.Machine.execMakeMaxExpiry channel s
  | .breakMaxExpiry channel => Sys2Proof.Machine.execBreakMaxExpiry channel s
  | .settlingEnd channel => Sys2Proof.Machine.execSettlingEnd channel s
  | .stepTimerExpiry => Sys2Proof.Machine.execStepTimerExpiry s
  | .sleepTimerExpiry => Sys2Proof.Machine.execSleepTimerExpiry s
  | .hostArrival => Sys2Proof.Machine.execHostArrival s
  | .wakePulseEnd => Sys2Proof.Machine.execWakePulseEnd s
  | .nvStepComplete => Sys2Proof.Machine.execNvStepComplete s
  | .verificationComplete => Sys2Proof.Machine.execVerificationComplete s
  | .tamperAccepted => Sys2Proof.Machine.execTamperAccepted s
  | .tamperReleaseAccepted => Sys2Proof.Machine.execTamperReleaseAccepted s
  | .receiverIdleWaitEnd => Sys2Proof.Machine.execReceiverIdleWaitEnd s
  | .frameGapTimeout => Sys2Proof.Machine.execFrameGapTimeout s
  | .frameComplete => Sys2Proof.Machine.execFrameComplete s
  | .unknownRequest type tag payload => Sys2Proof.Machine.execUnknownRequest type tag payload s
  | .transmitFrameEnd => Sys2Proof.Machine.execTransmitFrameEnd s
  | .scheduleStart tag => Sys2Proof.Machine.execScheduleStart tag s
  | .scheduleStop tag => Sys2Proof.Machine.execScheduleStop tag s
  | .sampleNow tag mask => Sys2Proof.Machine.execSampleNow tag mask s
  | .readSweep tag => Sys2Proof.Machine.execReadSweep tag s
  | .readCells tag first count => Sys2Proof.Machine.execReadCells tag first count s
  | .chainEnumerate tag => Sys2Proof.Machine.execChainEnumerate tag s
  | .readModules tag => Sys2Proof.Machine.execReadModules tag s
  | .readAnalog tag => Sys2Proof.Machine.execReadAnalog tag s
  | .resetReferences tag scope => Sys2Proof.Machine.execResetReferences tag scope s
  | .readResistance tag first count => Sys2Proof.Machine.execReadResistance tag first count s
  | .readConditions tag => Sys2Proof.Machine.execReadConditions tag s
  | .clearConditions tag set => Sys2Proof.Machine.execClearConditions tag set s
  | .setAlertEnable tag set => Sys2Proof.Machine.execSetAlertEnable tag set s
  | .saveWear tag => Sys2Proof.Machine.execSaveWear tag s
  | .clearContactorFault tag channel => Sys2Proof.Machine.execClearContactorFault tag channel s
  | .readContactors tag => Sys2Proof.Machine.execReadContactors tag s
  | .runSequence tag id => Sys2Proof.Machine.execRunSequence tag id s
  | .openAll tag => Sys2Proof.Machine.execOpenAll tag s
  | .readRunner tag => Sys2Proof.Machine.execReadRunner tag s
  | .setCounter tag number kind flags value reload => Sys2Proof.Machine.execSetCounter tag number kind flags value reload s
  | .clearOverflow tag numbers => Sys2Proof.Machine.execClearOverflow tag numbers s
  | .readCounters tag => Sys2Proof.Machine.execReadCounters tag s
  | .logRead tag n => Sys2Proof.Machine.execLogRead tag n s
  | .logRelease tag n => Sys2Proof.Machine.execLogRelease tag n s
  | .sleep tag => Sys2Proof.Machine.execSleep tag s
  | .updateBegin tag version length imageTag => Sys2Proof.Machine.execUpdateBegin tag version length imageTag s
  | .updateChunk tag offset data => Sys2Proof.Machine.execUpdateChunk tag offset data s
  | .updateCommit tag => Sys2Proof.Machine.execUpdateCommit tag s
  | .updateAbort tag => Sys2Proof.Machine.execUpdateAbort tag s
  | .activate tag => Sys2Proof.Machine.execActivate tag s
  | .tamperClear tag => Sys2Proof.Machine.execTamperClear tag s
  | .readProfileInfo tag => Sys2Proof.Machine.execReadProfileInfo tag s
  | .status tag => Sys2Proof.Machine.execStatus tag s
  | .identify tag => Sys2Proof.Machine.execIdentify tag s
  | .resetPart tag => Sys2Proof.Machine.execResetPart tag s
  | .linkByteReceived byte => Sys2Proof.Machine.execLinkByteReceived byte s

end Sys2Proof.Machine
end

