-- ==== Sys2Proof/Machine/Step.lean ====
section
/-! DEFINITION. One step of the part: the command at the front of the queue, or the part's idle work. -/
namespace Sys2Proof.Machine

/-- One step: the command at the front of the queue is taken with the queue's rest in place; on an empty queue the part does what is
due and a microsecond passes (log 1, log 25). -/
def step (s : State) : Host.Outcome State Fault Refusal :=
  match s.pending with
  | [] => .next (idle s)
  | c :: rest => exec c (s.setPending rest)

/-- The command that a word spells by the opcode table's bits, put at the front of the queue; no row of the table gives bits, so no word
spells one and the state stands as it is (log 23). -/
def State.withFetchWord (s : State) (nbits w : Nat) : State :=
  match decodeTableWord nbits w with
  | some c => s.setPending (c :: s.pending)
  | none => s

end Sys2Proof.Machine
end

