-- ==== Sys2Proof/Machine/Layouts.lean ====
section
/-! DEFINITION. The bytes that leave the part: the frames of the pack link (R191, R202, R203), and the frames it sends on the
chain (R22, R204). They are views of the state: the state holds the frames with their fields. -/
namespace Sys2Proof.Machine

/-! ## Codes (R202) -/

/-- A status code. -/
def Status.code : Status → Byte
  | .ok => 0 | .accepted => 1 | .busy => 2 | .live => 3 | .notReady => 4 | .badArgument => 5 | .unknownRequest => 6 | .tampered => 7
  | .rollback => 8 | .badLength => 9 | .outOfOrder => 10 | .updateOpen => 11 | .noPending => 12

/-- A range mark. -/
def RangeMark.code : RangeMark → Byte
  | .normal => 0 | .outOfRange => 1

/-- An alignment mark. -/
def AlignMark.code : AlignMark → Byte
  | .exact => 0 | .interpolated => 1 | .heldOld => 2 | .heldNew => 3 | .saturated => 4

/-- A resistance mark. -/
def ResMark.code : ResMark → Byte
  | .none => 0 | .noReference => 1 | .smallStep => 2 | .formed => 3 | .clamped => 4 | .negative => 5 | .held => 6

/-- A breach state. -/
def BreachState.code : BreachState → Byte
  | .normal => 0 | .ovPending => 1 | .ov => 2 | .uvPending => 3 | .uv => 4

/-- A contactor state. -/
def KState.code : KState → Byte
  | .opened => 0 | .closing => 1 | .closed => 2 | .opening => 3 | .closeFailed => 4 | .dropout => 5 | .weldSuspect => 6

/-- A sequence failure reason. -/
def SeqReason.code : SeqReason → Byte
  | .gate => 0 | .closeFailed => 1 | .weldSuspect => 2 | .linkTimeout => 3 | .decayTimeout => 4 | .noPackVoltage => 5
  | .sweepFailed => 6 | .fault => 7 | .trip => 8 | .aborted => 9

/-- An update reason. -/
def UpdReason.code : UpdReason → Byte
  | .tag => 0 | .invalid => 1 | .nvBusy => 2 | .tamper => 3

/-- An update outcome (R203). -/
def UpdOutcome.code : UpdOutcome → Byte
  | .committed => 0 | .activated => 1 | .failed => 2

/-! ## Fields -/

/-- A byte whose low bits are flags, bit 0 first. -/
def flagByte : List Bool → Byte
  | [] => 0
  | b :: bs => (if b then 1 else 0) ||| (flagByte bs <<< (1 : Nat))

/-- A current, in 16 bits of two's complement; an absent one is sent as zeros (R202). -/
def currentBytes (i : Option Int) : List Byte := le16 (BitVec.ofInt 16 (i.getD 0))

/-- A number of n bytes; an absent one is sent as zeros (R202). -/
def natBytes (n : Nat) (x : Option Nat) : List Byte := leBytes n (x.getD 0)

/-- A pack time; an absent one is sent as zeros (R202). -/
def timeBytes (t : Option Time) : List Byte := le32 (t.getD 0)

/-- A cell of a READ_CELLS reply (R202). -/
def CellView.bytes (c : CellView) : List Byte :=
  natBytes 2 c.code ++ [c.range.code] ++ timeBytes c.inst
    ++ [c.tag, flagByte [c.fresh, c.code.isSome, c.current.isSome]]
    ++ currentBytes c.current ++ [(c.mark.map AlignMark.code).getD 0, c.breach.code]

/-- A cell of a READ_RESISTANCE reply (R202). -/
def ResView.bytes (c : ResView) : List Byte :=
  [c.tag, c.rMark.code, flagByte [c.rFilt.isSome, c.rRaw.isSome, c.ref.isSome, (c.ref.map Ref.expired).getD false]]
    ++ natBytes 2 c.rFilt ++ natBytes 2 c.rRaw ++ natBytes 2 (c.ref.map Ref.v)
    ++ currentBytes (c.ref.map Ref.i) ++ natBytes 2 (c.ref.map Ref.age)

/-- The capacities of R200, in the order given there (R202). -/
def capacityBytes : List Byte := [12, 16] ++ leBytes 2 192 ++ [4, 6, 12, 8, 8, 64] ++ leBytes 2 4096

/-- The body of a log record (R203). -/
def RecordBody.bytes : RecordBody → List Byte
  | .contactor k left entered t make brk hard ring =>
    [BitVec.ofNat 8 k, left.code, entered.code, flagByte [make.isSome, brk.isSome, ring.isSome, hard]]
      ++ le32 t ++ natBytes 4 (if make.isSome then make else brk)
      ++ currentBytes (ring.map RingEntry.current) ++ natBytes 2 (ring.map RingEntry.pack) ++ natBytes 2 (ring.map RingEntry.link)
  | .sequence id failed t =>
    [BitVec.ofNat 8 id, if failed.isSome then 1 else 0, flagByte [failed.isSome, failed.isSome],
     BitVec.ofNat 8 ((failed.map Prod.fst).getD 0), (failed.map fun f => f.2.code).getD 0] ++ le32 t
  | .snapshot tag tb lo hi sum al overflow =>
    [tag, flagByte [lo.isSome, hi.isSome, ((al.bind Aligned.current).isSome)]] ++ timeBytes tb
      ++ natBytes 1 (lo.map Prod.fst) ++ natBytes 2 (lo.map Prod.snd)
      ++ natBytes 1 (hi.map Prod.fst) ++ natBytes 2 (hi.map Prod.snd) ++ le32 sum
      ++ currentBytes (al.bind Aligned.current) ++ [(al.map fun a => a.mark.code).getD 0, overflow]
  | .tamper t count staging pending => le32 t ++ leBytes 2 count ++ [flagByte [staging, pending]]
  | .update outcome version reason =>
    [outcome.code, flagByte [reason.isSome]] ++ le32 version ++ [(reason.map UpdReason.code).getD 0]

/-- The kind code of a log record (R203). -/
def RecordBody.kind : RecordBody → Byte
  | .contactor _ _ _ _ _ _ _ _ => 0
  | .sequence _ _ _ => 1
  | .snapshot _ _ _ _ _ _ _ => 2
  | .tamper _ _ _ _ => 3
  | .update _ _ _ => 4

/-- A log record: its head of 5 bytes, then its body (R203). -/
def LogRecord.bytes (r : LogRecord) : List Byte :=
  le16 r.number ++ [r.body.kind, if r.faultClass then 1 else 0, BitVec.ofNat 8 r.body.bytes.length] ++ r.body.bytes

/-- The two bytes of a wake-cause set; an absent one is sent as zeros (R202). -/
def wakeBytes (w : Option WakeSet) : List Byte :=
  match w with
  | none => [0, 0]
  | some c =>
    let b := c.breach.getD noBreaches
    [flagByte [c.host, c.tamper, c.breach.isSome], flagByte [b.ov, b.uv, b.selfDischarge, b.chain]]

/-! ## Codes and fields of the replies that R202 encodes and does not lay out (log 20) -/

/-- A yes or no in a byte of its own, 1 for yes (log 20). -/
def boolByte (b : Bool) : Byte := if b then 1 else 0

/-- A mode (R202). -/
def Mode.code : Mode → Byte
  | .startup => 0 | .run => 1 | .sleepEntry => 2 | .sleep => 3 | .sleepSweep => 4 | .waking => 5

/-- A sweep source; a SLOT source is followed by the slot number (R202). -/
def SweepSource.bytes : SweepSource → List Byte
  | .event => [0]
  | .demand => [1]
  | .slot n => [2, BitVec.ofNat 8 n]
  | .sleep => [3]

/-- A state of a sweep in flight, in the order of R17. -/
def SweepStage.code : SweepStage → Byte
  | .broadcasting => 0 | .reading => 1 | .aligning => 2 | .done => 3

/-- A chain state, in the order of R23. -/
def ChainState.code : ChainState → Byte
  | .poweredDown => 0 | .powering => 1 | .idle => 2 | .sweeping => 3 | .enumerating => 4

/-- A last outcome, in the order of the module table's fields (spec/02). -/
def ReadOutcome.code : ReadOutcome → Byte
  | .none => 0 | .good => 1 | .noReply => 2 | .badCrc => 3 | .tagMismatch => 4

/-- A cause of a trip, in the order of R80. -/
def TripCause.code : TripCause → Byte
  | .cellOv => 0 | .cellUv => 1 | .overCurrent => 2

/-- A role, in the order of spec/06. -/
def Role.code : Role → Byte
  | .mainPos => 0 | .mainNeg => 1 | .precharge => 2 | .aux => 3 | .unused => 4

/-- A coil phase, in the order of R92. -/
def Coil.code : Coil → Byte
  | .off => 0 | .pullIn => 1 | .hold => 2

/-- A wear-save state, in the order of R110. -/
def WearSave.code : WearSave → Byte
  | .idle => 0 | .queued => 1 | .writing => 2

/-- An event kind (R202). -/
def EventKind.code : EventKind → Byte
  | .none => 0 | .sweepDone => 1 | .fullSweepDone => 2 | .moduleMiss => 3 | .cellBreachEnter => 4 | .alignHeld => 5
  | .slotOverrun => 6 | .contactorClosed => 7 | .hardBreak => 8 | .seqFailed => 9 | .sleepSweep => 10 | .linkError => 11

/-- A term of the closing gate, in the order of R117. -/
def GateTerm.code : GateTerm → Byte
  | .allFresh => 0 | .noBreach => 1 | .noContactorFault => 2 | .noOverCurrent => 3 | .noActivation => 4

/-- What a step awaits, in the order of R115. -/
def Awaited.bytes : Awaited → List Byte
  | .contactor k => [0, BitVec.ofNat 8 k]
  | .arrival => [1, 0]
  | .sweep => [2, 0]
  | .timer => [3, 0]
  | .nothing => [4, 0]

/-- A step: kind, first argument, second argument of two bytes, as in an image (R202, R205). -/
def SeqStep.bytes : SeqStep → List Byte
  | .close k => [0, BitVec.ofNat 8 k, 0, 0]
  | .opn k => [1, BitVec.ofNat 8 k, 0, 0]
  | .wait t => [2, 0] ++ leBytes 2 t
  | .awaitLink p t => [3, BitVec.ofNat 8 p] ++ leBytes 2 t
  | .awaitDecay p t => [4, BitVec.ofNat 8 p] ++ leBytes 2 t
  | .skipIf (.linkAtLeast p) => [5, 0] ++ leBytes 2 p
  | .skipIf (.closed k) => [5, 1] ++ leBytes 2 k
  | .skipIf (.opened k) => [5, 2] ++ leBytes 2 k
  | .skipIf .allFresh => [5, 3, 0, 0]
  | .sweep => [6, 0, 0, 0]
  | .endSeq => [7, 0, 0, 0]

/-- A bank, slot or page: A is 0, B is 1. -/
def AB.code : AB → Byte
  | .a => 0 | .b => 1

/-- A bank status, in the order of R168. -/
def BankStatus.code : BankStatus → Byte
  | .incomplete => 0 | .rejected => 1 | .belowFloor => 2 | .valid => 3

/-- An update state, in the order of R178. -/
def UpdState.code : UpdState → Byte
  | .idle => 0 | .receiving => 1 | .verifying => 2 | .committing => 3

/-- An activation state, in the order of R178. -/
def ActState.code : ActState → Byte
  | .none => 0 | .queued => 1 | .writing => 2 | .owed => 3

/-- An operation of the NV engine, in the order of R173. -/
def NvOp.code : NvOp → Byte
  | .bankCommit _ _ => 0
  | .anchorTamper | .anchorActivate _ _ _ | .anchorSelect _ _ _ | .anchorClear => 1
  | .wearSave => 2
  | .invalidate _ => 3

/-- A counter: kind, value and reload of three bytes each, flags with the snapshot flag in bit 0 and the armed flag in bit 1
(R139, R141, R202). -/
def Counter.bytes (c : Counter) : List Byte := [c.kind.code] ++ le24 c.value ++ le24 c.reload ++ [flagByte [c.snap, c.armed]]

/-- The sweep in flight as READ_SWEEP gives it; its unreported mark is not among the fields of R17. -/
def SweepRec.bytes (w : SweepRec) : List Byte :=
  [flagByte [w.tb.isSome], w.tag] ++ w.source.bytes ++ [w.stage.code]
    ++ leBytes 2 w.requested.toNat ++ leBytes 2 w.received.toNat ++ timeBytes w.tb

/-- A last-sweep summary (R13). -/
def Summary.bytes (m : Summary) : List Byte :=
  [flagByte [m.tb.isSome, m.minCell.isSome, m.maxCell.isSome, (m.aligned.bind Aligned.current).isSome], m.tag] ++ m.source.bytes
    ++ timeBytes m.tb ++ leBytes 2 m.requested.toNat ++ leBytes 2 m.received.toNat
    ++ natBytes 1 (m.minCell.map Prod.fst) ++ natBytes 2 (m.minCell.map Prod.snd)
    ++ natBytes 1 (m.maxCell.map Prod.fst) ++ natBytes 2 (m.maxCell.map Prod.snd) ++ le32 m.sum
    ++ currentBytes (m.aligned.bind Aligned.current) ++ [(m.aligned.map fun a => a.mark.code).getD 0]

/-- An entry of READ_MODULES (R37). -/
def moduleBytes (e : Bool × Nat × ModEntry) : List Byte :=
  let m := e.2.2
  [boolByte e.1, BitVec.ofNat 8 e.2.1, flagByte [m.status.isSome], boolByte m.present, BitVec.ofNat 8 m.misses, m.last.code,
   m.status.getD 0, boolByte m.lost]

/-- A ring entry (R43). -/
def ringBytes (e : Option RingEntry) : List Byte :=
  timeBytes (e.map RingEntry.time) ++ currentBytes (e.map RingEntry.current) ++ natBytes 2 (e.map RingEntry.pack)
    ++ natBytes 2 (e.map RingEntry.link) ++ [boolByte ((e.map RingEntry.saturated).getD false)]

/-- What READ_CONDITIONS reports (R88). -/
def CondInfo.bytes (c : CondInfo) : List Byte :=
  le32 (c.set.setWidth 32) ++ le32 (c.enables.setWidth 32) ++ [boolByte c.alert, boolByte c.noticePending]
    ++ leBytes 2 c.inOv ++ leBytes 2 c.inUv ++ leBytes 2 c.inPending ++ leBytes 2 c.notFresh
    ++ [flagByte [c.lastTrip.isSome], (c.lastTrip.map fun t => t.1.code).getD 0] ++ timeBytes (c.lastTrip.map Prod.snd)

/-- What READ_CONTACTORS reports of a channel (R112). -/
def ChanView.bytes (c : ChanView) : List Byte :=
  [c.role.code, c.st.code, c.coil.code, boolByte c.closedFb, boolByte c.inDebounce, boolByte c.settling,
   flagByte [c.lastMake.isSome, c.lastBreak.isSome]]
    ++ natBytes 4 c.lastMake ++ natBytes 4 c.lastBreak ++ leBytes 4 c.closes ++ leBytes 4 c.hardBreaks

/-- A list of gate terms, after its count (R116, R132). -/
def gateBytes (ts : List GateTerm) : List Byte := BitVec.ofNat 8 ts.length :: ts.map GateTerm.code

/-- What READ_RUNNER reports while RUNNING (R132). -/
def RunView.bytes (v : RunView) : List Byte :=
  [flagByte [v.run.timer.isSome], BitVec.ofNat 8 v.run.id, BitVec.ofNat 8 v.run.idx] ++ (v.step.map SeqStep.bytes).getD [0, 0, 0, 0]
    ++ le32 v.run.start ++ natBytes 2 v.run.timer ++ v.run.awaited.bytes ++ [boolByte v.run.eventReq]

/-- A last outcome: presence (bit 0 failing step, bit 1 reason, bit 2 gate terms), sequence id, DONE 0 or FAILED 1, pack time, failing
step, reason, gate terms. DONE has none of the three, and the terms belong to the reason GATE (R115, R202; log 20). -/
def SeqOutcome.bytes : SeqOutcome → List Byte
  | .done id t => [flagByte [false, false, false], BitVec.ofNat 8 id, 0] ++ le32 t ++ [0, 0] ++ gateBytes []
  | .failed id t step reason terms =>
    [flagByte [true, true, decide (reason = .gate)], BitVec.ofNat 8 id, 1] ++ le32 t ++ [BitVec.ofNat 8 step, reason.code]
      ++ gateBytes terms

/-- What READ_PROFILE_INFO reports of a bank (R190). -/
def BankView.bytes (b : BankView) : List Byte :=
  [b.status.code, flagByte [b.header.isSome, b.gen.isSome]] ++ natBytes 4 (b.header.map fun h => h.1.toNat)
    ++ natBytes 2 (b.header.map Prod.snd) ++ timeBytes b.gen

/-- The source of the active profile, in the order of R190: bank A, bank B, factory. -/
def sourceCode : Option AB → Byte
  | some x => x.code
  | none => 2

/-- An accepted level of the tamper input, in the order of R186: ASSERTED, RELEASED. -/
def levelCode (asserted : Bool) : Byte := if asserted then 0 else 1

/-- What READ_PROFILE_INFO reports. Its presence byte marks the version and generation of the active bank, the pending mark, what is
declared, and the operation in flight (R190, R202; log 20). -/
def ProfileInfo.bytes (i : ProfileInfo) : List Byte :=
  [flagByte [i.activeVer.isSome, i.mark.isSome, i.declared.isSome, i.flight.isSome], sourceCode i.active]
    ++ timeBytes (i.activeVer.map Prod.fst) ++ timeBytes (i.activeVer.map Prod.snd)
    ++ le32 i.anchor.seq ++ le32 i.anchor.floor ++ le32 i.anchor.activeGen ++ [boolByte i.anchor.latched]
    ++ leBytes 2 i.anchor.count ++ [i.curAnchor.code] ++ i.bankA.bytes ++ i.bankB.bytes
    ++ [(i.mark.map fun m => m.bank.code).getD 0] ++ timeBytes (i.mark.map PendMark.version) ++ timeBytes (i.mark.map PendMark.gen)
    ++ [i.updSt.code] ++ leBytes 2 i.received ++ timeBytes (i.declared.map Prod.fst) ++ natBytes 2 (i.declared.map Prod.snd)
    ++ [i.act.code, boolByte i.latch] ++ leBytes 2 i.count ++ [levelCode i.asserted, boolByte i.clearReq,
      (i.flight.map NvOp.code).getD 0, BitVec.ofNat 8 i.waiting]

/-- What STATUS reports: the mode, a presence byte (bit 0 the ended stages of STARTUP, bit 1 the stage of SLEEP_ENTRY, bit 2 that of
WAKING), the ended stages as a byte of flags, each stage in a byte of its own, then the wake-cause set after its presence byte
(R199, R202; log 20). -/
def StatusInfo.bytes (i : StatusInfo) : List Byte :=
  let ended := i.startup.getD (false, false, false, false)
  let stageIn (m : Mode) : Option Nat := if i.mode = m then i.stage else none
  [i.mode.code, flagByte [i.startup.isSome, (stageIn .sleepEntry).isSome, (stageIn .waking).isSome],
   flagByte [ended.1, ended.2.1, ended.2.2.1, ended.2.2.2]]
    ++ natBytes 1 (stageIn .sleepEntry) ++ natBytes 1 (stageIn .waking)
    ++ [boolByte i.lastWake.isSome] ++ wakeBytes i.lastWake ++ le32 i.time
    ++ [boolByte i.alert, boolByte i.noticePending, boolByte i.wokePending, BitVec.ofNat 8 i.held]

/-- Which layout of a reply's fields the manual gives whole (R202, R203); the others are the model's arrangement of the fields that the
reply's rule names, in that rule's order, each encoded as R202 says, with a presence byte before the group that has optional fields
(DESIGN CHOICE, log 20). -/
def ReplyBody.laidOut : ReplyBody → Bool
  | .empty | .cells _ | .resistance _ | .identify _ | .log _ _ _ _ => true
  | .sweep _ _ | .modules _ _ _ | .analog _ _ _ _ _ _ _ | .conditions _ | .condSet _ | .contactors _ _ _ _ _ | .gate _
  | .runner _ _ _ | .counter _ | .overflow _ | .counters _ _ | .released _ _ | .received _ | .profile _ | .status _ => false

/-- The fields of a reply after its status byte (R202, R203; log 20 for those that are not `laidOut`). -/
def ReplyBody.bytes : ReplyBody → List Byte
  | .empty => []
  | .cells views => BitVec.ofNat 8 views.length :: views.flatMap CellView.bytes
  | .resistance views => BitVec.ofNat 8 views.length :: views.flatMap ResView.bytes
  | .identify serial => [0x4E] ++ leBytes 2 0x0412 ++ [1] ++ leBytes 8 serial.toNat ++ capacityBytes
  | .log occupancy nextNo threshold records =>
    [BitVec.ofNat 8 occupancy] ++ le16 nextNo ++ [BitVec.ofNat 8 threshold, BitVec.ofNat 8 records.length]
      ++ records.flatMap LogRecord.bytes
  | .sweep inFlight summary =>
    flagByte [inFlight.isSome, summary.isSome] :: (inFlight.map SweepRec.bytes).getD (List.replicate 12 0)
      ++ (summary.map Summary.bytes).getD (List.replicate 24 0)
  | .modules st tag entries => [st.code, tag] ++ entries.flatMap moduleBytes
  | .analog time period sampling entries fault overCurrent newest =>
    le32 time ++ leBytes 2 period
      ++ [boolByte sampling, BitVec.ofNat 8 entries, boolByte fault, boolByte overCurrent, flagByte [newest.isSome]] ++ ringBytes newest
  | .conditions info => info.bytes
  | .condSet set => le32 (set.setWidth 32)
  | .contactors views hardBreakLimit wearLoaded wearSave lastSave =>
    views.flatMap ChanView.bytes ++ leBytes 2 hardBreakLimit
      ++ [if wearLoaded then 0 else 1, wearSave.code, flagByte [lastSave.isSome]] ++ timeBytes lastSave
  | .gate failing => gateBytes failing
  | .runner run last failing =>
    [boolByte run.isSome, flagByte [run.isSome, last.isSome]] ++ (run.map RunView.bytes).getD (List.replicate 16 0)
      ++ (last.map SeqOutcome.bytes).getD (List.replicate 10 0) ++ gateBytes failing
  | .counter c => c.bytes
  | .overflow set => [set]
  | .counters cs set => cs.flatMap Counter.bytes ++ [set]
  | .released removed occupancy => [BitVec.ofNat 8 removed, BitVec.ofNat 8 occupancy]
  | .received n => leBytes 2 n
  | .profile info => info.bytes
  | .status info => info.bytes

/-! ## Frames -/

/-- A frame's bytes: sync, type, tag, length, payload, check (R191). -/
def frameBytes (type tag : Byte) (payload : List Byte) : List Byte :=
  let body := [type, tag, BitVec.ofNat 8 payload.length] ++ payload
  syncByte :: body ++ le16 (crc16 body)

/-- The bytes of a frame of the transmit path (R191, R198, R202). A reply carries the type of its request with the marker 0x80 added. -/
def OutFrame.bytes : OutFrame → List Byte
  | .reply type tag r => frameBytes (type + 0x80) tag (r.status.code :: r.body.bytes)
  | .conditions n set enables => frameBytes 0x40 n (le32 (set.setWidth 32) ++ le32 (enables.setWidth 32))
  | .woke n causes => frameBytes 0x41 n (wakeBytes causes)

/-- A chain frame: start byte, kind, position, payload, check (R22, R204). -/
def chainBytes (kind position : Byte) (payload : List Byte) : List Byte :=
  let body := [kind, position] ++ payload
  0x5A :: body ++ [crc8 body]

/-- The SAMPLE broadcast of a sweep tag. -/
def sampleBytes (tag : Byte) : List Byte := chainBytes 0x10 0x0F [tag]

/-- The READ of position k. -/
def readBytes (k : Nat) : List Byte := chainBytes 0x20 (BitVec.ofNat 8 k) []

/-- The IDENT of position k. -/
def identBytes (k : Nat) : List Byte := chainBytes 0x30 (BitVec.ofNat 8 k) []

/-- What the chain master is sending, or has sent and awaits the reply to (R24, R25, R32). -/
def State.chainFrame (s : State) : Option (List Byte) :=
  match s.chn.wait with
  | .read k _ => some (readBytes k)
  | .ident k _ => some (identBytes k)
  | .window _ => none
  | .nothing =>
    match s.sch.sweep with
    | some w => if w.stage = .broadcasting then some (sampleBytes w.tag) else none
    | none => none

end Sys2Proof.Machine
end

