-- ==== Sys2Proof/Safety.lean ====
section
/-! DEFINITION. What a right state of the part is, in the terms the claims use: coils against contactor states, the capture log's order,
live conditions against their causes, and the sizes that no run exceeds. -/
namespace Sys2Proof.Machine

/-- A channel's coil is energized exactly when its contactor is in CLOSING or CLOSED (R93). -/
def Chan.coilRight (c : Chan) : Prop := c.coil ≠ .off ↔ c.st = .closing ∨ c.st = .closed

/-- Every channel's coil is right (R93). -/
def State.coilsRight (s : State) : Prop := ∀ c ∈ s.kdr.chans, c.coilRight

/-- Record numbers that follow each other modulo 65536 up to the next record number (R144). -/
def numbersRight (next : BitVec 16) : List LogRecord → Prop
  | [] => True
  | r :: rest => r.number + BitVec.ofNat 16 (rest.length + 1) = next ∧ numbersRight next rest

/-- The capture log is right: at most 64 records, at most 60 of them general, their numbers consecutive (R142, R144). -/
def CapLog.right (l : CapLog) : Prop :=
  l.records.length ≤ 64 ∧ l.records.countP (fun r => !r.faultClass) ≤ 60 ∧ numbersRight l.nextNo l.records

/-- The sizes that nothing exceeds: the ring's 64 entries (R43), the two frames of the receive holding (R194), the six operations of the
NV engine's queue (R171); and the staging buffer in its canonical form. -/
def State.sized (s : State) : Prop :=
  s.ana.ring.length ≤ 64 ∧ s.pli.holding.length ≤ 2 ∧ s.nvs.queue.length ≤ 6 ∧ Memory.wf s.upd.staging = true

/-- Some populated position is lost (R29). -/
def State.someLost (s : State) : Bool := (List.range 12).any fun k => decide (k < s.prof.moduleCount) && (s.modEntry k).lost

/-- Each live condition is set exactly while its cause holds (R78, R79, R29, R47, R44, R103, R147, R186, R176), COUNTER_OVERFLOW exactly
while the overflow set is not empty (R83). The four channels are the shape that the wear record of R170 keeps. -/
def State.conditionsShowCauses (s : State) : Prop :=
  s.kdr.chans.length = 4
  ∧ s.condSet .cellOv = decide (0 < s.countBreach .ov)
  ∧ s.condSet .cellUv = decide (0 < s.countBreach .uv)
  ∧ s.condSet .cellStale = s.populated.any (fun c => !c.fresh)
  ∧ s.condSet .moduleLost = s.someLost
  ∧ s.condSet .overCurrent = s.ana.overCurrent
  ∧ s.condSet .analogFault = s.ana.fault
  ∧ s.condSet .contactorFault = s.anyFaulted
  ∧ s.condSet .logThreshold = decide (s.log.threshold ≤ s.log.records.length)
  ∧ s.condSet .tamper = s.tmp.latch
  ∧ s.condSet .noProfile = (s.nvs.sel == .ended && s.nvs.active.isNone)
  ∧ s.condSet .counterOverflow = (s.ctr.overflow != 0)

/-- Nothing that the part itself has found is still to be taken: no reading of nonvolatile memory, no expiry, no acceptance, no frame to
judge (log 2, log 8). -/
def State.nothingDue (s : State) : Prop :=
  ¬ (s.pwr.mode = .startup ∧ s.nvs.sel = .unread)
  ∧ (∀ i, i < 8 → s.slotDue i = false)
  ∧ (∀ c ∈ s.cells, c.staleDue = false ∧ refDue s.prof c = false)
  ∧ s.ocDue = false
  ∧ (∀ k, k < 4 → (s.chan k).acceptDue = false ∧ (s.chan k).pullIn ≠ some 0 ∧ (s.chan k).superv ≠ some 0
      ∧ (s.chan k).settling ≠ some 0)
  ∧ s.timerDue = false ∧ s.sleepDue = false ∧ s.tmp.acceptDue = false ∧ s.frameDue = false

/-- Position j is the lowest of a requested mask at or above position k (R25). -/
def nextPosition (mask : ModMask) (k j : Nat) : Prop :=
  k ≤ j ∧ j < 12 ∧ mask.getLsbD j = true ∧ ∀ i, k ≤ i → i < j → mask.getLsbD i = false

/-- In RUN with no switch owed, the end of an event leaves the chain of modes alone. -/
def State.inRun (s : State) : Prop := s.pwr.mode = .run ∧ s.upd.act ≠ .owed

/-- The part serves a request at once: RUN, and no frame in the receive holding (R151, R194). -/
def State.serving (s : State) : Prop := s.pwr.mode = .run ∧ s.pli.holding = []

/-- The command of the opcode table that is the arrival of a request with a tag. -/
def Request.command : Byte → Request → Instr
  | tag, .scheduleStart => .scheduleStart tag
  | tag, .scheduleStop => .scheduleStop tag
  | tag, .sampleNow mask => .sampleNow tag mask
  | tag, .readSweep => .readSweep tag
  | tag, .readCells first count => .readCells tag first count
  | tag, .chainEnumerate => .chainEnumerate tag
  | tag, .readModules => .readModules tag
  | tag, .readAnalog => .readAnalog tag
  | tag, .resetReferences scope => .resetReferences tag scope
  | tag, .readResistance first count => .readResistance tag first count
  | tag, .readConditions => .readConditions tag
  | tag, .clearConditions set => .clearConditions tag set
  | tag, .setAlertEnable set => .setAlertEnable tag set
  | tag, .saveWear => .saveWear tag
  | tag, .clearContactorFault channel => .clearContactorFault tag channel
  | tag, .readContactors => .readContactors tag
  | tag, .runSequence id => .runSequence tag id
  | tag, .openAll => .openAll tag
  | tag, .readRunner => .readRunner tag
  | tag, .setCounter number kind flags value reload => .setCounter tag number kind flags value reload
  | tag, .clearOverflow numbers => .clearOverflow tag numbers
  | tag, .readCounters => .readCounters tag
  | tag, .logRead n => .logRead tag n
  | tag, .logRelease n => .logRelease tag n
  | tag, .sleep => .sleep tag
  | tag, .updateBegin version length imageTag => .updateBegin tag version length imageTag
  | tag, .updateChunk offset data => .updateChunk tag offset data
  | tag, .updateCommit => .updateCommit tag
  | tag, .updateAbort => .updateAbort tag
  | tag, .activate => .activate tag
  | tag, .tamperClear => .tamperClear tag
  | tag, .readProfileInfo => .readProfileInfo tag
  | tag, .status => .status tag
  | tag, .identify => .identify tag
  | tag, .resetPart => .resetPart tag

/-- Whether a request kind's payload may have a length, as the table of request codes gives it (R202). -/
def lengthAllowed (code n : Nat) : Bool :=
  match code with
  | 0x03 | 0x05 | 0x0A => n == 2
  | 0x09 | 0x0F | 0x11 | 0x17 | 0x18 => n == 1
  | 0x0C | 0x0D => n == 4
  | 0x14 => n == 9
  | 0x15 => decide (n ≤ 8)
  | 0x1A => n == 22
  | 0x1B => decide (3 ≤ n ∧ n ≤ 130)
  | _ => decide (1 ≤ code ∧ code ≤ 0x23) && n == 0

/-- The frame of a request is in service (R194, R195). -/
def held (tag : Byte) (r : Request) (s : State) : State := s.setPli { s.pli with holding := [requestFrame tag r] }

/-- The reply of the frame in service has been formed (R191, R195). -/
def replied (tag : Byte) (r : Request) (st : Status) (body : ReplyBody) (s : State) : State :=
  s.setPli { s.pli with reply := some (.reply r.code tag { status := st, body := body }) }

end Sys2Proof.Machine
end

