-- ==== Sys2Proof/Certificates/Slice0/Obligations.lean ====
section
/-! DEFINITION. The statements for the provers. -/

open Sys2Proof Sys2Proof.Machine

/-! ## The machine -/

/-- The queue's first command is taken with the queue's rest in place, and the step is its meaning. The queue is the model's own form
(log 1). -/
def Obligations.StepTakesTheFrontCommand : Prop :=
  ∀ (c : Instr) (rest : List Instr) (s : State), s.pending = c :: rest → step s = exec c (s.setPending rest)

/-- What every event ends with, in RUN with no switch owed: the NV engine begins what it can (R172), then the transmit path begins
what it can (R196), and of the rest of the part nothing changes. In SLEEP an event ends with nothing more, and in SLEEP_SWEEP with
the NV engine alone: the engine begins nothing in SLEEP (R158, R172), and nothing is sent in either mode (R197). That a frame begins
at the end of the event and not inside it is read from R196 (log 9), and that the engine comes before the transmit path is the
model's order (log 12). -/
def Obligations.EndOfEventInRunTouchesEngineAndLink : Prop :=
  (∀ s : State, s.inRun →
    let t := finish s
    t = linkPump (nvBegin s)
    ∧ t.tim = s.tim ∧ t.sch = s.sch ∧ t.chn = s.chn ∧ t.ana = s.ana ∧ t.aln = s.aln ∧ t.cells = s.cells ∧ t.lim = s.lim
    ∧ t.seq = s.seq ∧ t.ctr = s.ctr ∧ t.log = s.log ∧ t.prof = s.prof ∧ t.pins = s.pins ∧ t.pending = s.pending
    ∧ t.cnd.set = s.cnd.set ∧ t.cnd.enables = s.cnd.enables ∧ t.kdr.chans = s.kdr.chans ∧ t.pwr.mode = .run
    ∧ t.nvs.mem = s.nvs.mem ∧ t.nvs.anchor = s.nvs.anchor ∧ t.nvs.active = s.nvs.active ∧ t.upd.st = s.upd.st
    ∧ t.upd.staging = s.upd.staging ∧ t.tmp.latch = s.tmp.latch ∧ t.tmp.count = s.tmp.count ∧ t.pli.holding = s.pli.holding
    ∧ t.pli.rx = s.pli.rx)
  ∧ ∀ s : State, s.upd.act ≠ .owed →
    (s.pwr.mode = .sleep → finish s = s) ∧ (s.pwr.mode = .sleepSweep → finish s = nvBegin s)

/-! ## Invariants -/

/-- The state after reset has every invariant below (R92, R142, R178, R84). -/
def Obligations.ResetStateHasTheInvariants : Prop :=
  State.reset.coilsRight ∧ State.reset.log.right ∧ State.reset.sized ∧ State.reset.conditionsShowCauses

/-- R93: a coil is energized if and only if its contactor is in CLOSING or CLOSED, whatever the step. -/
def Obligations.CoilsStayRight : Prop :=
  ∀ s t : State, s.coilsRight → step s = .next t → t.coilsRight

/-- R144: every step keeps at most 64 records, at most 60 of them general, and their numbers consecutive up to the next one. -/
def Obligations.LogStaysRight : Prop :=
  ∀ s t : State, s.log.right → step s = .next t → t.log.right

/-- R43, R171, R194: every step keeps the ring within 64 entries, the NV engine's queue within six operations and the receive holding within
two frames. It also keeps the staging buffer's list in the canonical form, rising addresses and no zero byte, which is the model's own
form (log 39); no bound on an address is stated here. -/
def Obligations.SizesStayWithinBounds : Prop :=
  ∀ s t : State, s.sized → step s = .next t → t.sized

/-- R82, R83: whatever the step, each live condition stays set exactly while its cause holds, and COUNTER_OVERFLOW exactly while the
overflow set is not empty. That the expiry of freshness is judged when it is taken is the model's form (log 2). -/
def Obligations.ConditionsKeepShowingTheirCauses : Prop :=
  ∀ s t : State, s.conditionsShowCauses → step s = .next t → t.conditionsShowCauses

/-! ## Encodings -/

/-- R202: a request's payload reads back as the request, for every request whose list lengths a frame of its kind may have; and whatever
a code and a payload read as, spells that code and that payload. -/
def Obligations.RequestPayloadsReadBack : Prop :=
  (∀ r : Request,
    (∀ ns, r = .clearOverflow ns → ns.length ≤ 8) → (∀ o d, r = .updateChunk o d → 1 ≤ d.length ∧ d.length ≤ 128) →
    parseArgs r.code.toNat r.payload = some r)
  ∧ ∀ (code : Nat) (bs : List Byte) (r : Request), parseArgs code bs = some r → r.code.toNat = code ∧ r.payload = bs

/-- R191, R193: the bytes of a frame after its sync byte, with their check, make a complete frame, which is judged to be that frame; with
a check that differs it is judged to be none. -/
def Obligations.FramesAreJudgedByTheirCheck : Prop :=
  ∀ (f : InFrame) (c0 c1 : Byte), f.payload.length ≤ 240 →
    let head := [f.type, f.tag, BitVec.ofNat 8 f.payload.length] ++ f.payload
    let check := crc16 head
    frameWhole (head ++ [c0, c1]) = true
    ∧ (c0 = check.setWidth 8 ∧ c1 = (check >>> (8 : Nat)).setWidth 8 → judgeFrame (head ++ [c0, c1]) = some f)
    ∧ (¬ (c0 = check.setWidth 8 ∧ c1 = (check >>> (8 : Nat)).setWidth 8) → judgeFrame (head ++ [c0, c1]) = none)

/-- R168 to R170, R205: what the NV engine writes into a page reads back: a generation, a header, an anchor slot and a wear page. -/
def Obligations.PagesReadBack : Prop :=
  (∀ g : BitVec 32, readGen (genPage g) = some g)
  ∧ (∀ (v : BitVec 32) (n : Nat) (tag : BitVec 128), n < 65536 → readHeader (headerPage v n tag) = some (v, n, tag))
  ∧ (∀ a : Anchor, a.count < 65536 → readAnchor (anchorPage a) = some a)
  ∧ ∀ w : Wear, w.counts.length = 4 → (∀ c ∈ w.counts, c.1 < 4294967296 ∧ c.2 < 4294967296) → readWear (wearPage w) = some w

/-! ## Requests of the pack processor -/

/-- R3, R4: SCHEDULE_START and SCHEDULE_STOP in RUN. While suspended each is refused with BUSY. A start of a RUNNING schedule changes
nothing; a start of a STOPPED one loads each enabled slot's countdown with its phase plus 1. A stop halts the countdowns and removes the
slots' pending launches, and no other. -/
def Obligations.ScheduleStartAndStop : Prop :=
  ∀ (s : State) (tag : Byte), s.serving →
    (s.sch.suspended = true →
      exec (.scheduleStart tag) s = .next (finish (replied tag .scheduleStart .busy .empty (held tag .scheduleStart s)))
      ∧ exec (.scheduleStop tag) s = .next (finish (replied tag .scheduleStop .busy .empty (held tag .scheduleStop s))))
    ∧ (s.sch.suspended = false → s.sch.running = true →
      exec (.scheduleStart tag) s = .next (finish (replied tag .scheduleStart .ok .empty (held tag .scheduleStart s))))
    ∧ (s.sch.suspended = false → s.sch.running = false →
      exec (.scheduleStart tag) s = .next (finish (replied tag .scheduleStart .ok .empty
        ((held tag .scheduleStart s).setSch { s.sch with
          running := true
          countdowns := s.prof.slots.map fun c => if c.enabled then some (c.phase + 1) else none }))))
    ∧ (s.sch.suspended = false →
      exec (.scheduleStop tag) s = .next (finish (replied tag .scheduleStop .ok .empty
        ((held tag .scheduleStop s).setSch { s.sch with
          running := false, countdowns := List.replicate 8 none, pendSlots := List.replicate 8 none }))))

/-- R7, R14, R34: SAMPLE_NOW in RUN. A suspended scheduler refuses it with BUSY whatever its mask (read from R14, log 21). Otherwise the
mask loses its unpopulated positions; an empty rest is refused with BAD_ARGUMENT; a demand launch that is pending gives BUSY; and the
demand source gains the launch and the arbiter chooses. CHAIN_ENUMERATE in RUN starts an enumeration with the IDENT of position 0 when the
chain master is IDLE, no sweep is in flight and the scheduler is not suspended, and is refused with BUSY otherwise. The end of the reply
window, 420 us on, is the model's (log 13). -/
def Obligations.SampleNowAndChainEnumerate : Prop :=
  (∀ (s : State) (tag : Byte) (mask : BitVec 16), s.serving →
     let r := Request.sampleNow mask
     let m := mask.setWidth 12 &&& popMask s.prof
     (s.sch.suspended = true → exec (.sampleNow tag mask) s = .next (finish (replied tag r .busy .empty (held tag r s))))
     ∧ (s.sch.suspended = false → m = 0 →
       exec (.sampleNow tag mask) s = .next (finish (replied tag r .badArgument .empty (held tag r s))))
     ∧ (s.sch.suspended = false → m ≠ 0 → s.sch.pendDemand.isSome = true →
       exec (.sampleNow tag mask) s = .next (finish (replied tag r .busy .empty (held tag r s))))
     ∧ (s.sch.suspended = false → m ≠ 0 → s.sch.pendDemand = none →
       exec (.sampleNow tag mask) s = .next (finish (replied tag r .accepted .empty
         (arbiter ((held tag r s).setSch { s.sch with pendDemand := some m }))))))
  ∧ (∀ (s : State) (tag : Byte), s.serving →
     (s.chn.st = .idle → s.inFlight = false → s.sch.suspended = false →
       exec (.chainEnumerate tag) s = .next (finish (replied tag .chainEnumerate .accepted .empty
         ((held tag .chainEnumerate s).setChn { s.chn with st := .enumerating, wait := .ident 0 (s.tim.packTime + 420#32) }))))
     ∧ (s.chn.st ≠ .idle ∨ s.inFlight = true ∨ s.sch.suspended = true →
       exec (.chainEnumerate tag) s = .next (finish (replied tag .chainEnumerate .busy .empty (held tag .chainEnumerate s)))))

/-- R17, R37, R49, R88, R141: the reports of the scheduler, the chain master, the analog channels, the condition unit and the
counters in RUN. Each is answered OK with the fields of its rule, and nothing else changes. The record of the sweep in flight is
given whole, with its unreported mark, which R17 does not list: that is the model's choice (log 20). READ_ANALOG's current period is
the one in force, which after a profile switch is the old one until the next sampling instant (R46; DEDUCED, log 45). -/
def Obligations.ReportsOfSweepChainAnalogConditionsCounters : Prop :=
  ∀ (s : State) (tag : Byte), s.serving →
    exec (.readSweep tag) s = .next (finish (replied tag .readSweep .ok
      (.sweep (if s.inFlight then s.sch.sweep else none) s.sch.summary) (held tag .readSweep s)))
    ∧ exec (.readModules tag) s = .next (finish (replied tag .readModules .ok
      (.modules s.chn.st s.chn.sweepTag
        ((List.range 12).map fun k => (decide (k < s.prof.moduleCount), cellsAt s.prof k, s.modEntry k)))
      (held tag .readModules s)))
    ∧ exec (.readAnalog tag) s = .next (finish (replied tag .readAnalog .ok
      (.analog s.tim.packTime s.ana.period s.ana.sampling s.ana.ring.length s.ana.fault s.ana.overCurrent s.ana.ring.getLast?)
      (held tag .readAnalog s)))
    ∧ exec (.readConditions tag) s = .next (finish (replied tag .readConditions .ok
      (.conditions {
        set := s.cnd.set, enables := s.cnd.enables, alert := s.alert, noticePending := s.cnd.noticePending,
        inOv := s.populated.countP (fun c => c.breach == .ov), inUv := s.populated.countP (fun c => c.breach == .uv),
        inPending := s.populated.countP (fun c => c.breach == .ovPending) + s.populated.countP (fun c => c.breach == .uvPending),
        notFresh := s.populated.countP (fun c => !c.fresh), lastTrip := s.lim.lastTrip })
      (held tag .readConditions s)))
    ∧ exec (.readCounters tag) s = .next (finish (replied tag .readCounters .ok
      (.counters s.ctr.counters s.ctr.overflow) (held tag .readCounters s)))

/-- R112, R132, R190: the reports of the contactor drivers, the sequence runner and the profile store in RUN. Each is answered OK
with the fields of its rule, and nothing else changes. The run is given whole, with the model's own mark of a step's first link
test, which R132 does not list (the model's choice, log 20). Of each bank the report gives its status, the version and length that
its header page spells and the generation that its generation page spells, each by its own page (the model's choice, log 37), a page
in work with its contents of before (the model's choice, log 38). -/
def Obligations.ReportsOfContactorsRunnerProfile : Prop :=
  ∀ (s : State) (tag : Byte), s.serving →
    let bank := fun (x : AB) =>
      ({ status := s.bankStatus x, header := (readHeader (s.nvs.mem.bank x).header).map fun h => (h.1, h.2.1),
         gen := readGen (s.nvs.mem.bank x).gen } : BankView)
    exec (.readContactors tag) s = .next (finish (replied tag .readContactors .ok
      (.contactors
        ((List.range 4).map fun k =>
          { role := (s.chanCfg k).role, st := (s.chan k).st, coil := (s.chan k).coil, closedFb := (s.chan k).closedFb,
            inDebounce := decide (0 < (s.chan k).debounce), settling := (s.chan k).settling.isSome, lastMake := (s.chan k).lastMake,
            lastBreak := (s.chan k).lastBreak, closes := (s.chan k).closes, hardBreaks := (s.chan k).hardBreaks })
        s.prof.hardBreakLimit s.kdr.wearLoaded s.kdr.wearSave s.kdr.lastSave)
      (held tag .readContactors s)))
    ∧ exec (.readRunner tag) s = .next (finish (replied tag .readRunner .ok
      (.runner (s.seq.run.map fun r => { run := r, step := (s.sequence r.id)[r.idx]? }) s.seq.last
        ([GateTerm.allFresh, .noBreach, .noContactorFault, .noOverCurrent, .noActivation].filter fun t => !gatePasses s t))
      (held tag .readRunner s)))
    ∧ exec (.readProfileInfo tag) s = .next (finish (replied tag .readProfileInfo .ok
      (.profile {
        active := s.nvs.active, activeVer := s.nvs.activeVer, anchor := s.nvs.anchor, curAnchor := s.nvs.curAnchor,
        bankA := bank .a, bankB := bank .b, mark := s.upd.mark, updSt := s.upd.st, received := s.upd.received,
        declared := if s.upd.st = .idle then none else some (s.upd.version, s.upd.length), act := s.upd.act,
        latch := s.tmp.latch, count := s.tmp.count, asserted := s.tmp.asserted, clearReq := s.tmp.clearReq,
        flight := s.nvs.flight.map NvFlight.op, waiting := s.nvs.queue.length })
      (held tag .readProfileInfo s)))

/-- R21, R71: READ_CELLS and READ_RESISTANCE in RUN. A count of 0 or above 16, or a first index at or beyond the population, is
refused with BAD_ARGUMENT; a range past the last populated cell ends there; the cells are given in rising order, and nothing else
changes. R202: the bytes of the two replies after the status byte, a count and 13 bytes for each cell (the frame around them is
TransmitEndServesTheNextFrame's). -/
def Obligations.ReadCellsAndResistanceRanges : Prop :=
  (∀ (s : State) (tag first count : Byte), s.serving →
    let rc := Request.readCells first count
    let rr := Request.readResistance first count
    let n := min count.toNat (population s.prof - first.toNat)
    (count.toNat = 0 ∨ 16 < count.toNat ∨ population s.prof ≤ first.toNat →
      exec (.readCells tag first count) s = .next (finish (replied tag rc .badArgument .empty (held tag rc s)))
      ∧ exec (.readResistance tag first count) s = .next (finish (replied tag rr .badArgument .empty (held tag rr s))))
    ∧ (0 < count.toNat → count.toNat ≤ 16 → first.toNat < population s.prof →
      exec (.readCells tag first count) s = .next (finish (replied tag rc .ok
        (.cells ((List.range n).map fun i =>
          let c := s.cell (first.toNat + i)
          { code := c.code, range := c.range, inst := c.inst, tag := c.tag, fresh := c.fresh, current := c.current, mark := c.mark,
            breach := c.breach }))
        (held tag rc s)))
      ∧ exec (.readResistance tag first count) s = .next (finish (replied tag rr .ok
        (.resistance ((List.range n).map fun i =>
          let c := s.cell (first.toNat + i)
          { tag := c.tag, rMark := c.rMark, rFilt := c.rFilt, rRaw := c.rRaw, ref := c.ref }))
        (held tag rr s)))))
  ∧ ∀ (cells : List CellView) (estimates : List ResView),
    let le := fun (n x : Nat) => (List.range n).map fun j => BitVec.ofNat 8 (x / 256 ^ j)
    let signed := fun (x : Option Int) => le 2 ((x.getD 0) % 65536).toNat
    let bit := fun (n : Nat) (b : Bool) => if b then n else 0
    (ReplyBody.cells cells).bytes = BitVec.ofNat 8 cells.length :: cells.flatMap (fun c =>
      le 2 (c.code.getD 0) ++ [if c.range = .normal then 0 else 1] ++ le 4 (c.inst.getD 0).toNat ++ [c.tag]
        ++ le 1 (bit 1 c.fresh + bit 2 c.code.isSome + bit 4 c.current.isSome) ++ signed c.current
        ++ (match c.mark with
          | some m => le 1 ([AlignMark.exact, .interpolated, .heldOld, .heldNew, .saturated].idxOf m)
          | none => [0])
        ++ le 1 ([BreachState.normal, .ovPending, .ov, .uvPending, .uv].idxOf c.breach))
    ∧ (ReplyBody.resistance estimates).bytes = BitVec.ofNat 8 estimates.length :: estimates.flatMap (fun c =>
      [c.tag] ++ le 1 ([ResMark.none, .noReference, .smallStep, .formed, .clamped, .negative, .held].idxOf c.rMark)
        ++ le 1 (bit 1 c.rFilt.isSome + bit 2 c.rRaw.isSome + bit 4 c.ref.isSome
          + (match c.ref with
            | some r => bit 8 r.expired
            | none => 0))
        ++ le 2 (c.rFilt.getD 0) ++ le 2 (c.rRaw.getD 0)
        ++ (match c.ref with
          | some r => le 2 r.v ++ signed (some r.i) ++ le 2 r.age
          | none => [0, 0, 0, 0, 0, 0]))

/-- R148, R149: LOG_READ in RUN gives the oldest records and changes nothing (that a CONTACTOR record holds the whole ring entry,
with its time and saturated mark, which no byte shows, is the model's choice, log 20); a count outside 1..4 is refused with
BAD_ARGUMENT. LOG_RELEASE in RUN removes that many of the oldest records, keeps the next record number, and LOG_THRESHOLD is judged
again; a count of 0 is refused with BAD_ARGUMENT. R202, R203: the bytes of LOG_READ's reply after the status byte, its four fields
and the records, each a head of 5 bytes and the body of its kind. -/
def Obligations.LogReadAndReleaseTheOldest : Prop :=
  (∀ (s : State) (tag n : Byte), s.serving →
     (n.toNat = 0 ∨ 4 < n.toNat →
       exec (.logRead tag n) s = .next (finish (replied tag (.logRead n) .badArgument .empty (held tag (.logRead n) s))))
     ∧ (0 < n.toNat → n.toNat ≤ 4 →
       exec (.logRead tag n) s = .next (finish (replied tag (.logRead n) .ok
         (.log s.log.records.length s.log.nextNo s.log.threshold (s.log.records.take n.toNat)) (held tag (.logRead n) s)))))
  ∧ (∀ (s : State) (tag n : Byte), s.serving →
     let r := Request.logRelease n
     let h := held tag r s
     let rest := s.log.records.drop n.toNat
     (n.toNat = 0 → exec (.logRelease tag n) s = .next (finish (replied tag r .badArgument .empty h)))
     ∧ (0 < n.toNat → s.log.threshold ≤ rest.length →
       exec (.logRelease tag n) s = .next (finish (replied tag r .ok
         (.released (min n.toNat s.log.records.length) rest.length)
         (setCond .logThreshold (h.setLog { s.log with records := rest })))))
     ∧ (0 < n.toNat → rest.length < s.log.threshold →
       exec (.logRelease tag n) s = .next (finish (replied tag r .ok
         (.released (min n.toNat s.log.records.length) rest.length)
         (clearCond .logThreshold (h.setLog { s.log with records := rest }))))))
  ∧ ∀ (occupancy threshold : Nat) (nextNo : BitVec 16) (records : List LogRecord),
    let le := fun (n x : Nat) => (List.range n).map fun j => BitVec.ofNat 8 (x / 256 ^ j)
    let signed := fun (x : Option Int) => le 2 ((x.getD 0) % 65536).toNat
    let bit := fun (n : Nat) (b : Bool) => if b then n else 0
    let state := fun (x : KState) =>
      le 1 ([KState.opened, .closing, .closed, .opening, .closeFailed, .dropout, .weldSuspect].idxOf x)
    let cell := fun (x : Option (Nat × Nat)) => match x with
      | some y => le 1 y.1 ++ le 2 y.2
      | none => [0, 0, 0]
    let body := fun (x : RecordBody) => match x with
      | .contactor k left entered time make brk hard ring =>
        le 1 k ++ state left ++ state entered ++ le 1 (bit 1 make.isSome + bit 2 brk.isSome + bit 4 ring.isSome + bit 8 hard)
          ++ le 4 time.toNat ++ le 4 ((make.or brk).getD 0)
          ++ (match ring with
            | some e => signed (some e.current) ++ le 2 e.pack ++ le 2 e.link
            | none => [0, 0, 0, 0, 0, 0])
      | .sequence id none time => le 1 id ++ [0, 0, 0, 0] ++ le 4 time.toNat
      | .sequence id (some (step, reason)) time => le 1 id ++ [1, 3] ++ le 1 step
          ++ le 1 ([SeqReason.gate, .closeFailed, .weldSuspect, .linkTimeout, .decayTimeout, .noPackVoltage, .sweepFailed, .fault,
            .trip, .aborted].idxOf reason) ++ le 4 time.toNat
      | .snapshot tag tb lo hi sum aligned overflow =>
        [tag] ++ le 1 (bit 1 lo.isSome + bit 2 hi.isSome + bit 4 (aligned.bind Aligned.current).isSome)
          ++ le 4 (tb.getD 0).toNat ++ cell lo ++ cell hi ++ le 4 sum.toNat ++ signed (aligned.bind Aligned.current)
          ++ (match aligned with
            | some a => le 1 ([AlignMark.exact, .interpolated, .heldOld, .heldNew, .saturated].idxOf a.mark)
            | none => [0])
          ++ [overflow]
      | .tamper time count staging pending => le 4 time.toNat ++ le 2 count ++ le 1 (bit 1 staging + bit 2 pending)
      | .update outcome version reason =>
        le 1 ([UpdOutcome.committed, .activated, .failed].idxOf outcome) ++ le 1 (bit 1 reason.isSome) ++ le 4 version.toNat
          ++ (match reason with
            | some r => le 1 ([UpdReason.tag, .invalid, .nvBusy, .tamper].idxOf r)
            | none => [0])
    let kindAndSize := fun (x : RecordBody) => match x with
      | .contactor _ _ _ _ _ _ _ _ => (0, 18)
      | .sequence _ _ _ => (1, 9)
      | .snapshot _ _ _ _ _ _ _ => (2, 20)
      | .tamper _ _ _ _ => (3, 7)
      | .update _ _ _ => (4, 7)
    (ReplyBody.log occupancy nextNo threshold records).bytes = le 1 occupancy ++ le 2 nextNo.toNat ++ le 1 threshold
      ++ le 1 records.length ++ records.flatMap (fun r => le 2 r.number.toNat ++ le 1 (kindAndSize r.body).1
        ++ [if r.faultClass then 1 else 0] ++ le 1 (kindAndSize r.body).2 ++ body r.body)
    ∧ ∀ r ∈ records, (body r.body).length = (kindAndSize r.body).2

/-- R199, R200: STATUS in every mode whose receiver is on, IDENTIFY in RUN, STARTUP and WAKING. Each is answered OK with the fields
of its rule, and nothing else changes. The serial number is one the part fixes (log 7). R191, R200, R202: IDENTIFY's reply frame is
start byte, the kind with bit 7, the tag, length 25 and status OK, then family code 0x4E, part code 0x0412, revision 1, the serial
number low byte first, and the fixed capacities, and its check of two bytes. -/
def Obligations.StatusAndIdentify : Prop :=
  (∀ (s : State) (tag : Byte), s.pli.holding = [] → s.pwr.mode ≠ .sleep → s.pwr.mode ≠ .sleepSweep →
    exec (.status tag) s = .next (finish (replied tag .status .ok
      (.status {
        mode := s.pwr.mode
        startup := if s.pwr.mode = .startup then
          some (s.nvs.sel == .ended, s.pwr.wearEnded, s.pwr.enumEnded, s.pwr.settleEnded) else none
        stage := if s.pwr.mode = .sleepEntry then some s.pwr.entryStage
          else if s.pwr.mode = .waking then some s.pwr.wakeStage else none
        lastWake := s.pwr.lastWake, time := s.tim.packTime, alert := s.alert, noticePending := s.cnd.noticePending,
        wokePending := s.pwr.wokeFlag, held := 1 })
      (held tag .status s)))
    ∧ (s.pwr.mode ≠ .sleepEntry →
      exec (.identify tag) s = .next (finish (replied tag .identify .ok (.identify Config.serialNumber) (held tag .identify s)))))
  ∧ ∀ (tag : Byte) (serial : BitVec 64),
    let frame := (OutFrame.reply 0x22 tag { status := .ok, body := .identify serial }).bytes
    let fields := frame.drop 5
    frame.take 5 = [0xA5, 0xA2, tag, 25, 0] ∧ frame.length = 31 ∧ fields.take 4 = [0x4E, 0x12, 0x04, 1]
    ∧ (∀ i, i < 8 → fields.getD (4 + i) 0 = serial.extractLsb' (8 * i) 8)
    ∧ (fields.drop 12).take 12 = [12, 16, 192, 0, 4, 6, 12, 8, 8, 64, 0, 16]


/-- R70: RESET_REFERENCES in RUN. Scope 0 takes every cell's reference, scope 1 also its estimates and mark; another scope is refused
with BAD_ARGUMENT. -/
def Obligations.ResetReferencesByScope : Prop :=
  ∀ (s : State) (tag scope : Byte), s.serving →
    let r := Request.resetReferences scope
    let h := held tag r s
    (scope = 0 → exec (.resetReferences tag scope) s = .next (finish (replied tag r .ok .empty
      (h.setCells (s.cells.map fun c => { c with ref := none })))))
    ∧ (scope = 1 → exec (.resetReferences tag scope) s = .next (finish (replied tag r .ok .empty
      (h.setCells (s.cells.map fun c => { c with ref := none, rRaw := none, rFilt := none, rMark := .none })))))
    ∧ (1 < scope.toNat → exec (.resetReferences tag scope) s = .next (finish (replied tag r .badArgument .empty h)))

/-- R89, R90: CLEAR_CONDITIONS in RUN clears the latched conditions named, COUNTER_OVERFLOW excepted, keeps every other condition and the
notice flag, and answers with the set as it then stands. SET_ALERT_ENABLE in RUN replaces the enable set; a condition set at that moment
and newly enabled sets the notice flag; the reply carries the enable set. A set beyond the 22 conditions is refused with BAD_ARGUMENT. -/
def Obligations.ClearConditionsAndSetAlertEnable : Prop :=
  (∀ (s : State) (tag : Byte) (set : BitVec 32), s.serving →
     let r := Request.clearConditions set
     (2 ^ 22 ≤ set.toNat → exec (.clearConditions tag set) s = .next (finish (replied tag r .badArgument .empty (held tag r s))))
     ∧ (set.toNat < 2 ^ 22 → ∃ left : CondMask,
       exec (.clearConditions tag set) s = .next (finish (replied tag r .ok (.condSet left)
         ((held tag r s).setCnd { s.cnd with set := left })))
       ∧ ∀ i, i < 22 →
           left.getLsbD i = (s.cnd.set.getLsbD i && !(set.getLsbD i && decide (10 ≤ i) && decide (i ≠ Cond.counterOverflow.idx)))))
  ∧ (∀ (s : State) (tag : Byte) (set : BitVec 32), s.serving →
     let r := Request.setAlertEnable set
     (2 ^ 22 ≤ set.toNat → exec (.setAlertEnable tag set) s = .next (finish (replied tag r .badArgument .empty (held tag r s))))
     ∧ (set.toNat < 2 ^ 22 → ∃ flag : Bool,
       exec (.setAlertEnable tag set) s = .next (finish (replied tag r .ok (.condSet (set.setWidth 22))
         ((held tag r s).setCnd { s.cnd with enables := set.setWidth 22, noticePending := flag })))
       ∧ (flag = true ↔ s.cnd.noticePending = true
           ∨ ∃ i, i < 22 ∧ s.cnd.set.getLsbD i = true ∧ set.getLsbD i = true ∧ s.cnd.enables.getLsbD i = false)))

/-- R110: SAVE_WEAR in RUN. A save that waits satisfies it; else an operation joins the NV engine's queue and the wear-save state is
QUEUED; a queue with four operations refuses it with BUSY (R171). -/
def Obligations.SaveWearQueuesOnce : Prop :=
  ∀ (s : State) (tag : Byte), s.serving →
    let h := held tag .saveWear s
    (s.kdr.wearSave = .queued → exec (.saveWear tag) s = .next (finish (replied tag .saveWear .accepted .empty h)))
    ∧ (s.kdr.wearSave ≠ .queued → NvOp.wearSave ∉ s.nvs.queue → s.nvs.queue.length < 4 →
      exec (.saveWear tag) s = .next (finish (replied tag .saveWear .accepted .empty
        ((h.setNvs { s.nvs with queue := s.nvs.queue ++ [.wearSave] }).setKdr { s.kdr with wearSave := .queued }))))
    ∧ (s.kdr.wearSave ≠ .queued → NvOp.wearSave ∉ s.nvs.queue → 4 ≤ s.nvs.queue.length →
      exec (.saveWear tag) s = .next (finish (replied tag .saveWear .busy .empty h)))

/-- R111: CLEAR_CONTACTOR_FAULT in RUN, its four checks in order. A cleared contactor is OPEN, a general CONTACTOR record of the
transition is offered, and CONTACTOR_FAULT is judged (R103, R104). The record holds the whole nearest ring entry, with its time and
saturated mark (the model's choice, log 20). -/
def Obligations.ClearContactorFaultChecks : Prop :=
  ∀ (s : State) (tag channel : Byte), s.serving →
    let r := Request.clearContactorFault channel
    let h := held tag r s
    let k := channel.toNat
    let c := s.chan k
    let faulted := c.st = .closeFailed ∨ c.st = .dropout ∨ c.st = .weldSuspect
    (s.seq.run.isSome = true → exec (.clearContactorFault tag channel) s = .next (finish (replied tag r .busy .empty h)))
    ∧ (s.seq.run = none → 4 ≤ k ∨ ¬ faulted →
      exec (.clearContactorFault tag channel) s = .next (finish (replied tag r .badArgument .empty h)))
    ∧ (s.seq.run = none → k < 4 → faulted → c.closedFb = true →
      exec (.clearContactorFault tag channel) s = .next (finish (replied tag r .notReady .empty h)))
    ∧ (s.seq.run = none → k < 4 → faulted → c.closedFb = false →
      exec (.clearContactorFault tag channel) s = .next (finish (replied tag r .ok .empty
        (judgeContactorFault (offerRecord false
          (.contactor k c.st .opened s.tim.packTime none none false (s.nearest s.tim.packTime))
          (h.setChan k { c with st := .opened }))))))

/-- R116, R117: RUN_SEQUENCE in RUN, its checks in order. A sequence that starts is RUNNING at step 0, which starts in the same event
(R118). -/
def Obligations.RunSequenceChecks : Prop :=
  ∀ (s : State) (tag id : Byte), s.serving →
    let r := Request.runSequence id
    let h := held tag r s
    let steps := s.prof.sequences.getD id.toNat []
    let failing := [GateTerm.allFresh, .noBreach, .noContactorFault, .noOverCurrent, .noActivation].filter fun t => !gatePasses s t
    (s.seq.run.isSome = true ∨ s.upd.act ≠ .none →
      exec (.runSequence tag id) s = .next (finish (replied tag r .busy .empty h)))
    ∧ (s.seq.run = none → s.upd.act = .none → 6 ≤ id.toNat ∨ steps = [] →
      exec (.runSequence tag id) s = .next (finish (replied tag r .badArgument .empty h)))
    ∧ (s.seq.run = none → s.upd.act = .none → id.toNat < 6 → (∃ k, SeqStep.close k ∈ steps) → failing ≠ [] →
      exec (.runSequence tag id) s = .next (finish (replied tag r .notReady (.gate failing) h)))
    ∧ (s.seq.run = none → s.upd.act = .none → id.toNat < 6 → steps ≠ [] → (∀ k, SeqStep.close k ∉ steps) ∨ failing = [] →
      exec (.runSequence tag id) s = .next (finish (replied tag r .accepted .empty
        (proceed 0 (h.setSeq { s.seq with run := some {
          id := id.toNat, idx := 0, start := s.tim.packTime, timer := none, awaited := .nothing, eventReq := false,
          tested := false } })))))

/-- R129: OPEN_ALL in RUN. A running sequence ends ABORTED; else every closing or closed channel is commanded open, in order; the reply
is OK. -/
def Obligations.OpenAllOpensOrAborts : Prop :=
  ∀ (s : State) (tag : Byte), s.serving →
    (s.seq.run.isSome = true →
      exec (.openAll tag) s = .next (finish (replied tag .openAll .ok .empty (endSequence .aborted [] (held tag .openAll s)))))
    ∧ (s.seq.run = none →
      exec (.openAll tag) s = .next (finish (replied tag .openAll .ok .empty
        (openCmd 3 (openCmd 2 (openCmd 1 (openCmd 0 (held tag .openAll s))))))))

/-- R139, R140, R202: SET_COUNTER in RUN replaces the counter and disarms it, and leaves the overflow set; a number above 7 or a
kind that is not one of the twelve is refused with BAD_ARGUMENT. CLEAR_OVERFLOW in RUN removes each number named from the overflow
set, and COUNTER_OVERFLOW follows the set; a number above 7 is refused with BAD_ARGUMENT, as is a list of more than eight (R202).
The twelve kinds have the codes 0 to 11 of R202, and no other number is a kind. -/
def Obligations.SetCounterAndClearOverflow : Prop :=
  (∀ (s : State) (tag number kind flags : Byte) (value reload : BitVec 24), s.serving →
     let r := Request.setCounter number kind flags value reload
     let h := held tag r s
     (8 ≤ number.toNat ∨ 12 ≤ kind.toNat →
       exec (.setCounter tag number kind flags value reload) s = .next (finish (replied tag r .badArgument .empty h)))
     ∧ (number.toNat < 8 → kind.toNat < 12 → ∃ e, eventKindOf kind.toNat = some e ∧
       exec (.setCounter tag number kind flags value reload) s = .next (finish (replied tag r .ok
         (.counter { kind := e, value := value, reload := reload, snap := flags.getLsbD 0, armed := false })
         (h.setCtr { s.ctr with
           counters := s.ctr.counters.set number.toNat
             { kind := e, value := value, reload := reload, snap := flags.getLsbD 0, armed := false } })))))
  ∧ (∀ (s : State) (tag : Byte) (numbers : List Byte), s.serving →
     let r := Request.clearOverflow numbers
     let h := held tag r s
     (8 < numbers.length ∨ (∃ n ∈ numbers, 8 ≤ n.toNat) →
       exec (.clearOverflow tag numbers) s = .next (finish (replied tag r .badArgument .empty h)))
     ∧ (numbers.length ≤ 8 → (∀ n ∈ numbers, n.toNat < 8) → ∃ left : Byte,
       exec (.clearOverflow tag numbers) s = .next (finish (replied tag r .ok (.overflow left)
         (liveCond .counterOverflow (left != 0) (h.setCtr { s.ctr with overflow := left }))))
       ∧ ∀ i, i < 8 → left.getLsbD i = (s.ctr.overflow.getLsbD i && numbers.all fun n => n.toNat != i)))
  ∧ (List.range 12).map eventKindOf = [some .none, some .sweepDone, some .fullSweepDone, some .moduleMiss, some .cellBreachEnter,
      some .alignHeld, some .slotOverrun, some .contactorClosed, some .hardBreak, some .seqFailed, some .sleepSweep, some .linkError]
  ∧ ∀ n, 12 ≤ n → eventKindOf n = none

/-- R154, R155, R156: SLEEP in RUN, its checks in order; accepted, the part is in SLEEP_ENTRY at stage 1, the schedule state kept and the
scheduler suspended (R14). What the end of an event does in SLEEP_ENTRY, in the model's order (log 12), and each stage: stage 1 waits for
the quiet link and stage 2 requests a wear save; stage 2 waits for it and stage 3 asks for the activation of a pending bank, the latch
being clear; stage 3 waits for the activation, and a switch that is owed is applied when the part is quiet, the kept schedule state
becoming RUNNING if the new profile starts it; stage 4 waits for the link at rest (R197), and then every contactor OPEN the entry
completes: sleep references, level 1 of the resume record, chain and channels down, sleep timer, SLEEP with supervision and the receiver
off; a contactor not OPEN abandons it: the scheduler is released and the part is in RUN. -/
def Obligations.SleepChecksAndEntry : Prop :=
  (∀ (s : State) (tag : Byte), s.serving →
    let h := held tag .sleep s
    let busy := s.seq.run.isSome = true ∨ s.upd.act ≠ .none ∨ s.nvs.flight.isSome = true ∨ s.nvs.queue ≠ []
    ((∃ c ∈ s.kdr.chans, c.st ≠ .opened) → exec (.sleep tag) s = .next (finish (replied tag .sleep .live .empty h)))
    ∧ ((∀ c ∈ s.kdr.chans, c.st = .opened) → busy → exec (.sleep tag) s = .next (finish (replied tag .sleep .busy .empty h)))
    ∧ ((∀ c ∈ s.kdr.chans, c.st = .opened) → ¬ busy → s.upd.st = .receiving ∨ s.upd.st = .verifying →
      exec (.sleep tag) s = .next (finish (replied tag .sleep .updateOpen .empty h)))
    ∧ ((∀ c ∈ s.kdr.chans, c.st = .opened) → ¬ busy → s.upd.st ≠ .receiving → s.upd.st ≠ .verifying →
      exec (.sleep tag) s = .next (finish (replied tag .sleep .accepted .empty
        ((h.setPwr { s.pwr with mode := .sleepEntry, entryStage := 1, keptRun := s.sch.running }).setSch { s.sch with
          running := false, countdowns := List.replicate 8 none, suspended := true, pendEvent := none, pendDemand := none,
          pendSlots := List.replicate 8 none })))))
  ∧ ∀ s : State, s.pwr.mode = .sleepEntry →
    let at_ := fun (n : Nat) => s.pwr.entryStage = n
    let stage := fun (n : Nat) => s.setPwr { s.pwr with entryStage := n }
    (s.upd.act ≠ .owed ∨ s.upd.byPower = true →
      finish s = linkPump (entryFour (linkPump (entryThree (entryTwo (entryOne (nvBegin s)))))))
    ∧ (at_ 1 → s.inFlight = true ∨ s.chn.st = .enumerating → entryOne s = s)
    ∧ (at_ 1 → s.inFlight = false → s.chn.st ≠ .enumerating →
      (s.kdr.wearSave = .queued → entryOne s = nvBegin (stage 2))
      ∧ (s.kdr.wearSave ≠ .queued → NvOp.wearSave ∉ s.nvs.queue → s.nvs.queue.length < 4 →
        entryOne s = nvBegin (((stage 2).setNvs { s.nvs with queue := s.nvs.queue ++ [.wearSave] }).setKdr { s.kdr with wearSave := .queued })))
    ∧ (at_ 2 → s.kdr.wearSave ≠ .idle → entryTwo s = s)
    ∧ (at_ 2 → s.kdr.wearSave = .idle →
      (s.upd.mark = none ∨ s.tmp.latch = true → entryTwo s = nvBegin (stage 3))
      ∧ ∀ m, s.upd.mark = some m → s.tmp.latch = false → s.nvs.queue.length < 4 →
        entryTwo s = nvBegin (((stage 3).setNvs { s.nvs with queue := s.nvs.queue ++ [.anchorActivate m.bank m.version m.gen] }).setUpd
          { s.upd with act := .queued, byPower := true, actBank := some m }))
    ∧ (at_ 3 →
      (s.upd.act = .queued ∨ s.upd.act = .writing → entryThree s = s)
      ∧ (s.upd.act = .none → entryThree s = stage 4)
      ∧ (s.upd.act = .owed → (∀ c ∈ s.kdr.chans, c.st = .opened) → s.seq.run = none →
        entryThree s = (applySwitch s).setPwr { s.pwr with entryStage := 4, keptRun := s.pwr.keptRun || (applySwitch s).prof.autostart })
      ∧ (s.upd.act = .owed → (∃ c ∈ s.kdr.chans, c.st ≠ .opened) ∨ s.seq.run.isSome = true → entryThree s = stage 4))
    ∧ (at_ 4 →
      let rest := s.pli.holding = [] ∧ s.pli.sending = none ∧ s.pli.reply = none ∧ s.pwr.wokeFlag = false ∧ s.cnd.noticePending = false
      let a := s.setCells ((List.range s.cells.length).map fun i =>
        { s.cell i with sleepRef := if i < population s.prof ∧ (s.cell i).fresh = true then (s.cell i).code else none })
      let d := anaPowerDown (chainPowerDown a)
      let asleep := ((d.setPwr { s.pwr with
          level1 := some (s.pwr.keptRun, s.cnd.enables), sleepTimer := some s.prof.sleepPeriod, divider := 0, mode := .sleep,
          entryStage := 0 }).setKdr { s.kdr with suspended := true }).setPli { s.pli with rx := .off }
      (¬ rest → entryFour s = s)
      ∧ (rest → (∀ c ∈ s.kdr.chans, c.st = .opened) → s.pwr.pendHost = false → s.pwr.pendTamper = false → entryFour s = asleep)
      ∧ (rest → (∀ c ∈ s.kdr.chans, c.st = .opened) → s.pwr.pendHost = true ∨ s.pwr.pendTamper = true →
        entryFour s = beginWaking { host := s.pwr.pendHost, tamper := s.pwr.pendTamper, breach := none } asleep)
      ∧ (rest → (∃ c ∈ s.kdr.chans, c.st ≠ .opened) →
        let r := releaseSched s.pwr.keptRun s
        entryFour s = r.setPwr { s.pwr with mode := .run, entryStage := 0, pendHost := false, pendTamper := false }))

/-- R179: UPDATE_BEGIN in RUN, its checks in order. Accepted, an update is RECEIVING with an empty staging buffer. -/
def Obligations.UpdateBeginChecks : Prop :=
  ∀ (s : State) (tag : Byte) (version : BitVec 32) (length : BitVec 16) (imageTag : BitVec 128), s.serving →
    let r := Request.updateBegin version length imageTag
    let h := held tag r s
    let answers := fun (st : Status) (t : State) =>
      exec (.updateBegin tag version length imageTag) s = .next (finish (replied tag r st .empty t))
    (s.tmp.latch = true → answers .tampered h)
    ∧ (s.tmp.latch = false → version ≤ s.nvs.anchor.floor → answers .rollback h)
    ∧ (s.tmp.latch = false → s.nvs.anchor.floor < version → length.toNat = 0 ∨ 4096 < length.toNat → answers .badLength h)
    ∧ (s.tmp.latch = false → s.nvs.anchor.floor < version → 0 < length.toNat → length.toNat ≤ 4096 →
        s.upd.st ≠ .idle ∨ s.upd.act ≠ .none → answers .busy h)
    ∧ (s.tmp.latch = false → s.nvs.anchor.floor < version → 0 < length.toNat → length.toNat ≤ 4096 →
        s.upd.st = .idle → s.upd.act = .none →
        answers .ok (h.setUpd { s.upd with
          st := .receiving, staging := [], received := 0, version := version, length := length.toNat, tag := imageTag }))

/-- R180, R182: UPDATE_CHUNK of 1 to 128 bytes in RUN, its checks in order. An accepted chunk's bytes stand in the staging buffer
from its offset on, every other byte of the buffer is as it was, and the reply carries the count received; the buffer's canonical
form, which every step keeps, is a premise of that. UPDATE_COMMIT of the whole image begins the verification; the completion of the
verification leaves the update unit IDLE or COMMITTING (which of the two VerificationEndsOrCommits says), and does nothing beyond
the end of the event when none is in progress (the model's, log 2); UPDATE_ABORT while RECEIVING empties the staging buffer. -/
def Obligations.UpdateChunkCommitAbort : Prop :=
  (∀ (s : State) (tag : Byte) (offset : BitVec 16) (data : List Byte), s.serving → 0 < data.length → data.length ≤ 128 →
     let r := Request.updateChunk offset data
     let h := held tag r s
     let answers := fun (st : Status) (n : Nat) (t : State) =>
       exec (.updateChunk tag offset data) s = .next (finish (replied tag r st (.received n) t))
     (s.upd.st = .idle → answers .notReady s.upd.received h)
     ∧ (s.upd.st = .verifying ∨ s.upd.st = .committing → answers .busy s.upd.received h)
     ∧ (s.upd.st = .receiving → offset.toNat ≠ s.upd.received → answers .outOfOrder s.upd.received h)
     ∧ (s.upd.st = .receiving → offset.toNat = s.upd.received → s.upd.length < s.upd.received + data.length →
         answers .badLength s.upd.received h)
     ∧ (s.upd.st = .receiving → offset.toNat = s.upd.received → s.upd.received + data.length ≤ s.upd.length →
         Memory.wf s.upd.staging = true → ∃ staging, answers .ok (s.upd.received + data.length)
             (h.setUpd { s.upd with staging := staging, received := s.upd.received + data.length })
           ∧ (∀ i (hi : i < data.length), Memory.read staging (offset.toNat + i) = data[i])
           ∧ ∀ a, a < offset.toNat ∨ offset.toNat + data.length ≤ a → Memory.read staging a = Memory.read s.upd.staging a))
  ∧ (∀ (s : State) (tag : Byte), s.serving →
     let hc := held tag .updateCommit s
     let ha := held tag .updateAbort s
     (s.upd.st = .idle →
       exec (.updateCommit tag) s = .next (finish (replied tag .updateCommit .notReady .empty hc))
       ∧ exec (.updateAbort tag) s = .next (finish (replied tag .updateAbort .ok .empty ha)))
     ∧ (s.upd.st = .verifying ∨ s.upd.st = .committing →
       exec (.updateCommit tag) s = .next (finish (replied tag .updateCommit .busy .empty hc))
       ∧ exec (.updateAbort tag) s = .next (finish (replied tag .updateAbort .busy .empty ha)))
     ∧ (s.upd.st = .receiving →
       (s.upd.received ≠ s.upd.length →
         exec (.updateCommit tag) s = .next (finish (replied tag .updateCommit .badLength .empty hc)))
       ∧ (s.upd.received = s.upd.length →
         exec (.updateCommit tag) s = .next (finish (replied tag .updateCommit .accepted .empty
           (hc.setUpd { s.upd with st := .verifying }))))
       ∧ exec (.updateAbort tag) s = .next (finish (replied tag .updateAbort .ok .empty
           (ha.setUpd { s.upd with st := .idle, staging := [], received := 0 })))))
  ∧ (∀ s : State, s.upd.st = .verifying →
    ∃ t, exec .verificationComplete s = .next (finish t) ∧ (t.upd.st = .idle ∨ t.upd.st = .committing))
  ∧ ∀ s : State, s.upd.st ≠ .verifying → exec .verificationComplete s = .next (finish s)

/-- R183: ACTIVATE in RUN, its checks in order. Accepted, the activation is QUEUED and its anchor write waits in the NV engine's
queue with the bank, the version and the generation of the pending mark. R14, R15, R184: a switch owed in RUN holds the scheduler
suspended when the part is quiet, looks again when the link is quiet, and is applied then or not, the scheduler being released
either way. R18, R35, R69, R108, R134, R185: what the switch leaves: the active bank, each block's new parameters, the cell table
reset or kept by the population, the module marking, the weld of an in-use channel with closed feedback, the UPDATE record, and
every other block as it was. That the NV engine, the owed switch and the transmit path go on in this order at the end of an event is
the model's choice (log 12). R46: the period in force stays until the next sampling instant. The order of the switch's parts is the
model's (log 36), a bank that spells no profile keeps the parameters (log 30), and a changed polarity reads the level last sampled
(log 48). -/
def Obligations.ActivateChecks : Prop :=
  (∀ (s : State) (tag : Byte), s.serving →
    let h := held tag .activate s
    let answers := fun (st : Status) (t : State) => exec (.activate tag) s = .next (finish (replied tag .activate st .empty t))
    (s.tmp.latch = true → answers .tampered h)
    ∧ (s.tmp.latch = false → s.upd.mark = none → answers .noPending h)
    ∧ ∀ m, s.tmp.latch = false → s.upd.mark = some m →
      (s.upd.st ≠ .idle ∨ s.upd.act ≠ .none → answers .busy h)
      ∧ (s.upd.st = .idle → s.upd.act = .none →
        ((∃ c ∈ s.kdr.chans, c.st ≠ .opened) ∨ s.seq.run.isSome = true → answers .live h)
        ∧ ((∀ c ∈ s.kdr.chans, c.st = .opened) → s.seq.run = none → 4 ≤ s.nvs.queue.length → answers .busy h)
        ∧ ((∀ c ∈ s.kdr.chans, c.st = .opened) → s.seq.run = none → s.nvs.queue.length < 4 →
          answers .accepted ((h.setNvs { s.nvs with queue := s.nvs.queue ++ [.anchorActivate m.bank m.version m.gen] }).setUpd
            { s.upd with act := .queued, byPower := false, actBank := some m }))))
  ∧ (∀ s : State,
    let quiet := (∀ c ∈ s.kdr.chans, c.st = .opened) ∧ s.seq.run = none
    let linkQuiet := s.inFlight = false ∧ s.chn.st ≠ .enumerating
    let h := (s.setUpd { s.upd with holding := true, keptRun := s.sch.running }).setSch { s.sch with
      running := false, countdowns := List.replicate 8 none, suspended := true, pendEvent := none, pendDemand := none,
      pendSlots := List.replicate 8 none }
    (s.pwr.mode = .run → finish s = linkPump (pursue (nvBegin s)))
    ∧ (s.upd.act ≠ .owed → pursue s = s)
    ∧ (s.upd.act = .owed → s.pwr.mode = .run →
      (s.upd.holding = false → ¬ quiet → pursue s = s)
      ∧ (s.upd.holding = false → quiet → ¬ linkQuiet → pursue s = h)
      ∧ (s.upd.holding = false → quiet → linkQuiet → pursue s = lookAgain h)
      ∧ (s.upd.holding = true → ¬ linkQuiet → pursue s = s)
      ∧ (s.upd.holding = true → linkQuiet → pursue s = lookAgain s))
    ∧ (quiet → lookAgain s = releaseSched (s.upd.keptRun || (applySwitch s).prof.autostart)
        ((applySwitch s).setUpd { (applySwitch s).upd with holding := false }))
    ∧ (¬ quiet → lookAgain s = releaseSched s.upd.keptRun (s.setUpd { s.upd with holding := false }))
    ∧ ∀ run, releaseSched run s = arbiter (s.setSch { s.sch with
        suspended := false, running := run || s.sch.running
        countdowns := if run then s.prof.slots.map (fun c => if c.enabled then some (c.phase + 1) else none)
          else s.sch.countdowns }))
  ∧ ∀ (s : State) (m : PendMark), s.upd.actBank = some m →
    let p := (validImage (s.nvs.mem.bank m.bank).image).getD s.prof
    let same := p.moduleCount = s.prof.moduleCount ∧ ∀ k, k < 12 → cellsAt p k = cellsAt s.prof k
    let cfg := fun (k : Nat) => p.chans.getD k factoryChan
    let fb := fun (k : Nat) => if (s.chanCfg k).polarity = (cfg k).polarity then (s.chan k).closedFb
      else if (cfg k).polarity = .highClosed then s.pins.feedback.getLsbD k else !s.pins.feedback.getLsbD k
    let weld := fun (k : Nat) => (cfg k).role ≠ .unused ∧ fb k = true ∧ (s.chan k).st = .opened
    let t := applySwitch s
    t.prof = p ∧ t.nvs = { s.nvs with active := some m.bank, activeVer := some (m.version, m.gen) }
    ∧ t.upd = { s.upd with act := .none, actBank := none, byPower := false }
    ∧ (same → t.cells = s.cells.map fun c =>
        { c with breach := .normal, breachCount := 0, ref := none, rRaw := none, rFilt := none, rMark := .none })
    ∧ (¬ same → t.cells = s.cells.map fun _ => cellReset)
    ∧ t.ana = { s.ana with active := true, run := 0 }
    ∧ t.ctr = { counters := p.counters.map fun c =>
        { kind := c.kind, value := c.value, reload := c.reload, snap := c.snap, armed := false }, overflow := 0 }
    ∧ t.log.threshold = p.logThreshold ∧ t.cnd.enables = p.enables
    ∧ t.condSet .noProfile = false ∧ t.condSet .counterOverflow = false ∧ t.condSet .cellOv = false ∧ t.condSet .cellUv = false
    ∧ t.condSet .cellStale = t.populated.any (fun c => !c.fresh) ∧ t.condSet .moduleLost = t.someLost
    ∧ t.chn = { s.chn with modules := (List.range s.chn.modules.length).map fun k =>
        let e := s.modEntry k
        if k < p.moduleCount then (if e.present then e else { e with misses := 3, lost := true })
        else { e with misses := 0, lost := false } }
    ∧ (∀ k, k < 4 → s.kdr.chans.length = 4 →
      let c := if (s.chanCfg k).polarity = (cfg k).polarity then s.chan k
        else { s.chan k with closedFb := fb k, debounce := 0, acceptDue := false }
      (¬ weld k → t.chan k = c)
      ∧ (weld k → t.chan k = { c with st := .weldSuspect, pullIn := none, superv := none, settling := none }
          ∧ t.condSet .contactorFault = true))
    ∧ ((∀ k, k < 4 → ¬ weld k) →
        t.log = { (offerRecord false (.update .activated m.version none) s).log with threshold := p.logThreshold })
    ∧ t.tim = s.tim ∧ t.sch = s.sch ∧ t.aln = s.aln ∧ t.lim = s.lim ∧ t.seq = s.seq ∧ t.pwr = s.pwr ∧ t.tmp = s.tmp
    ∧ t.pli = s.pli ∧ t.pins = s.pins ∧ t.pending = s.pending

/-- R189: TAMPER_CLEAR in RUN, its checks in order. Accepted, a clear write waits in the NV engine's queue; the latch is as it was.
That the state of the clear write is then waiting also while an earlier void write is in flight is the model's choice (log 44). -/
def Obligations.TamperClearChecks : Prop :=
  ∀ (s : State) (tag : Byte), s.serving →
    let h := held tag .tamperClear s
    let answers := fun (st : Status) (t : State) =>
      exec (.tamperClear tag) s = .next (finish (replied tag .tamperClear st .empty t))
    (s.tmp.latch = false → answers .ok h)
    ∧ (s.tmp.latch = true →
      (s.tmp.asserted = true ∨ 0 < s.tmp.run → answers .notReady h)
      ∧ (s.tmp.asserted = false → s.tmp.run = 0 →
        (s.tmp.clearReq = true → answers .accepted h)
        ∧ (s.tmp.clearReq = false → NvOp.anchorClear ∉ s.nvs.queue →
          (4 ≤ s.nvs.queue.length → answers .busy h)
          ∧ (s.nvs.queue.length < 4 →
            answers .accepted ((h.setNvs { s.nvs with queue := s.nvs.queue ++ [.anchorClear] }).setTmp
              { s.tmp with clearReq := true, clearSt := .waiting })))))

/-- R201: RESET_PART in RUN is refused with LIVE while a contactor is CLOSING or CLOSED or a sequence runs, and answered OK
otherwise. The reset comes when an OK reply to it has left the part, whatever the mode and the receive holding then are, and leaves
every block at its reset value over the memory that R174 leaves, with the inputs as last sampled (the model's choice, log 6) and the
waiting commands as they were (the model's queue, log 1). That the start-up reading is done in the same event is the model's (log
8). -/
def Obligations.ResetPartAfterItsReply : Prop :=
  (∀ (s : State) (tag : Byte), s.serving →
    let h := held tag .resetPart s
    ((∃ c ∈ s.kdr.chans, c.st = .closing ∨ c.st = .closed) ∨ s.seq.run.isSome = true →
      exec (.resetPart tag) s = .next (finish (replied tag .resetPart .live .empty h)))
    ∧ ((∀ c ∈ s.kdr.chans, c.st ≠ .closing ∧ c.st ≠ .closed) → s.seq.run = none →
      exec (.resetPart tag) s = .next (finish (replied tag .resetPart .ok .empty h))))
  ∧ ∀ (s : State) (tag : Byte) (body : ReplyBody), s.pli.sending = some (.reply 0x23 tag { status := .ok, body := body }) →
    exec .transmitFrameEnd s = .next (finish (blocksReset s.memAfterReset s.pins s.pending))

/-- R151, R195, R202: the checks that come before a request's own rule. A frame that enters service at once, as the command of its row: a
type that is no request kind is UNKNOWN_REQUEST; a kind that the mode does not serve is BUSY. The payload lengths that a kind allows are
those of the table of request codes. A complete frame of a request kind whose payload has another length is BAD_ARGUMENT in RUN. The same
three checks for any frame that enters service, also one that has waited; a frame that passes them is answered by the owning block's
rule. -/
def Obligations.ChecksCommonToEveryRequest : Prop :=
  (∀ (s : State) (type tag : Byte) (payload : List Byte), s.pli.holding = [] → s.pwr.mode ≠ .sleep → s.pwr.mode ≠ .sleepSweep →
    type = 0 ∨ 0x23 < type.toNat →
    exec (.unknownRequest type tag payload) s = .next (finish (s.setPli { s.pli with
      holding := [{ type := type, tag := tag, payload := payload }]
      reply := some (.reply type tag { status := .unknownRequest, body := .empty }) })))
  ∧ (∀ (s : State) (tag : Byte) (r : Request), s.pli.holding = [] →
    s.pwr.mode = .startup ∨ s.pwr.mode = .waking ∨ s.pwr.mode = .sleepEntry → r ≠ .status →
    r ≠ .identify ∨ s.pwr.mode = .sleepEntry →
    exec (r.command tag) s = .next (finish (replied tag r .busy .empty (held tag r s))))
  ∧ (∀ (s : State) (tag : Byte) (offset : BitVec 16) (data : List Byte), s.serving → data.length = 0 ∨ 128 < data.length →
    let r := Request.updateChunk offset data
    exec (.updateChunk tag offset data) s = .next (finish (replied tag r .badArgument .empty (held tag r s))))
  ∧ (∀ (code : Nat) (payload : List Byte), (parseArgs code payload).isSome = lengthAllowed code payload.length)
  ∧ (∀ (s : State) (f : InFrame) (bs : List Byte) (u : Time), s.serving → s.pli.rx = .assembling bs u → frameWhole bs = true →
    judgeFrame bs = some f → 1 ≤ f.type.toNat → f.type.toNat ≤ 0x23 → lengthAllowed f.type.toNat f.payload.length = false →
    exec .frameComplete s = .next (finish (s.setPli { s.pli with
      rx := .hunting, holding := [f], reply := some (.reply f.type f.tag { status := .badArgument, body := .empty }) })))
  ∧ ∀ (s : State) (f : InFrame),
    let answered := fun (t : State) (r : Reply) => t.setPli { t.pli with reply := some (.reply f.type f.tag r) }
    let refused := fun (st : Status) => answered s { status := st, body := .empty }
    let kind := 1 ≤ f.type.toNat ∧ f.type.toNat ≤ 0x23
    let served := s.pwr.mode = .run ∨ ((s.pwr.mode = .startup ∨ s.pwr.mode = .waking) ∧ (f.type = 0x21 ∨ f.type = 0x22))
      ∨ (s.pwr.mode = .sleepEntry ∧ f.type = 0x21)
    (¬ kind → serve f s = refused .unknownRequest)
    ∧ (kind → ¬ served → serve f s = refused .busy)
    ∧ (kind → served → lengthAllowed f.type.toNat f.payload.length = false → serve f s = refused .badArgument)
    ∧ ∀ r, kind → served → parseArgs f.type.toNat f.payload = some r → serve f s = answered (own r s).1 (own r s).2

/-- R194: a request that finds one frame in the receive holding waits behind it; one that finds two is lost and sets LINK_OVERRUN. In
SLEEP and SLEEP_SWEEP the receiver is off and a frame is activity on the line, a HOST arrival (R151, R160; the model's form, log 4). -/
def Obligations.RequestsWaitOrOverrun : Prop :=
  ∀ (s : State) (tag : Byte) (r : Request),
    (s.pwr.mode ≠ .sleep → s.pwr.mode ≠ .sleepSweep →
      (∀ f, s.pli.holding = [f] →
        exec (r.command tag) s = .next (finish (s.setPli { s.pli with holding := [f, requestFrame tag r] })))
      ∧ (2 ≤ s.pli.holding.length → exec (r.command tag) s = .next (finish (setCond .linkOverrun s))))
    ∧ (s.pwr.mode = .sleep ∨ s.pwr.mode = .sleepSweep → exec (r.command tag) s = exec .hostArrival s)

/-! ## Events: reset, the tick, the scheduler -/

/-- R150, R174: a power-on reset. Every block is at its reset value, nonvolatile memory as R174 leaves it (as it was with no step in
flight, and else with exactly the page of the step, or the bank being erased, torn, and a torn page reads as not written and as not
valid), the inputs as last sampled (the model's choice, log 6) and the waiting commands as they were (log 1). That the start-up
reading is done in the same event is the model's (log 8); it takes the profile, the tamper latch and the wear counts, and leaves
what is listed here at its reset value. R109, R153, R169, R170, R175, R176: the reading chooses the current anchor slot and wear
page by their numbers, takes the latch, the count and the wear counts, classifies the banks, and queues the write for the newest
pending bank or the invalidations behind what waits; the selection ends with the active bank of the anchor's generation or the
factory profile; STARTUP ends when its four stages have. That the NV engine, the stages of STARTUP and the transmit path go on in
this order at the end of an event is the model's (log 12), as are bank A of two equal ones (log 15), the invalidation of bank A
before that of bank B (log 51), the factory parameters for a chosen bank that spells no profile (log 30), the parameters of the
factory profile's disabled slots (log 43), the polarity read again from the level last sampled (log 48) and the 420 us of the first
IDENT (log 13). -/
def Obligations.PowerOnResetLeavesResetValues : Prop :=
  (∀ s : State, ∃ t, exec .powerOnReset s = .next t
    ∧ t.pwr.mode = .startup ∧ t.tim = { packTime := 0, nextTick := 1000 } ∧ t.sch = schReset ∧ t.chn = chnReset ∧ t.aln = []
    ∧ t.ana.sampling = true ∧ t.ana.period = 100 ∧ t.ana.ring = [] ∧ t.ana.nextInstant = 100 ∧ t.ana.fault = false ∧ t.ana.overCurrent = false
    ∧ t.cells = List.replicate 192 cellReset ∧ t.lim.lastTrip = none ∧ t.seq = { run := none, last := none }
    ∧ (∀ c ∈ t.kdr.chans, c.st = .opened ∧ c.coil = .off) ∧ t.ctr.overflow = 0 ∧ t.log.records = [] ∧ t.log.nextNo = 0
    ∧ t.upd.st = .idle ∧ t.upd.mark = none ∧ t.upd.act = .none ∧ t.pli.holding = [] ∧ t.pli.rx = .idleWait 1000
    ∧ t.nvs.mem = s.memAfterReset ∧ t.pins = s.pins ∧ t.pending = s.pending)
  ∧ (∀ s : State,
    let before := s.nvs.mem
    let after := s.memAfterReset
    (s.nvs.flight = none → after = before)
    ∧ (∀ f, s.nvs.flight = some f →
      let page := fun (worked : Prop) (new old : NvPage) => (worked → new = .torn) ∧ (¬ worked → new = old)
      (∀ x, page (f.step = .erase x ∨ f.step = .header x) (after.bank x).header (before.bank x).header
        ∧ page (f.step = .erase x ∨ f.step = .wipeGen x ∨ ∃ g, f.step = .gen x g) (after.bank x).gen (before.bank x).gen
        ∧ ∀ i, i < 64 → (before.bank x).body.length = 64 →
          page (f.step = .erase x ∨ f.step = .body x i) ((after.bank x).body.getD i erasedPage) ((before.bank x).body.getD i erasedPage))
      ∧ page (∃ c, f.step = .anchor .a c) after.anchorA before.anchorA ∧ page (∃ c, f.step = .anchor .b c) after.anchorB before.anchorB
      ∧ page (∃ w, f.step = .wear .a w) after.wearA before.wearA ∧ page (∃ w, f.step = .wear .b w) after.wearB before.wearB)
    ∧ readHeader .torn = none ∧ readGen .torn = none ∧ readAnchor .torn = none ∧ readWear .torn = none)
  ∧ (∀ x y : BitVec 32,
    currentOf none none = none ∧ currentOf (some x) none = some .a ∧ currentOf none (some y) = some .b
    ∧ currentOf (some (y + 1)) (some y) = some .a ∧ currentOf (some x) (some (x + 1)) = some .b
    ∧ (x ≠ y + 1 → y ≠ x + 1 → currentOf (some x) (some y) = some (if x < y then .b else .a)))
  ∧ (∀ s : State,
    let a := readAnchor s.nvs.mem.anchorA
    let b := readAnchor s.nvs.mem.anchorB
    let cur := currentOf (a.map Anchor.seq) (b.map Anchor.seq)
    (cur = some .a → ∃ c, a = some c ∧ readAnchors s = s.setNvs { s.nvs with anchor := c, curAnchor := .a })
    ∧ (cur = some .b → ∃ c, b = some c ∧ readAnchors s = s.setNvs { s.nvs with anchor := c, curAnchor := .b })
    ∧ (cur = none → readAnchors s = s.setNvs { s.nvs with
        anchor := { seq := 0, floor := 0, activeGen := 0, latched := true, count := 0 }, curAnchor := .b }))
  ∧ (∀ s : State,
    let a := readWear s.nvs.mem.wearA
    let b := readWear s.nvs.mem.wearB
    let cur := currentOf (a.map Wear.seq) (b.map Wear.seq)
    let takes := fun (x : AB) (w : Wear) =>
      ((s.setNvs { s.nvs with curWear := x, curWearSeq := w.seq }).setKdr { s.kdr with
        chans := s.kdr.chans.zipWith (fun c n => { c with closes := n.1, hardBreaks := n.2 }) w.counts, wearLoaded := true }).setPwr
        { s.pwr with wearEnded := true }
    (cur = some .a → ∃ w, a = some w ∧ readWears s = takes .a w) ∧ (cur = some .b → ∃ w, b = some w ∧ readWears s = takes .b w)
    ∧ (cur = none → readWears s = s.setPwr { s.pwr with wearEnded := true }))
  ∧ (∀ (floor : BitVec 32) (x : BankMem),
    let gen := readGen x.gen
    let head := readHeader x.header
    (gen = none ∨ head = none → classifyBank floor x = .incomplete)
    ∧ ∀ g v n tag, gen = some g → head = some (v, n, tag) →
      let img := x.bodyBytes.take n
      let sound := Config.profileTag img = tag ∧ validImage img ≠ none
      (¬ sound → classifyBank floor x = .rejected) ∧ (sound → v < floor → classifyBank floor x = .belowFloor)
      ∧ (sound → floor ≤ v → classifyBank floor x = .valid))
  ∧ (∀ s : State,
    let l := s.setTmp { s.tmp with latch := s.nvs.anchor.latched, count := s.nvs.anchor.count }
    let m := if s.nvs.anchor.latched = true then setCond .tamper l else clearCond .tamper l
    (s.tmp.held = false → takeLatch s = m) ∧ (s.tmp.held = true → takeLatch s = tamperEffects m)
    ∧ classifyBanks s = s.setNvs { s.nvs with
        statusA := classifyBank s.nvs.anchor.floor s.nvs.mem.bankA, statusB := classifyBank s.nvs.anchor.floor s.nvs.mem.bankB }
    ∧ startupRead s =
        let r := classifyBanks (readWears (readAnchors s))
        nvBegin (selectionOps (takeLatch (r.setNvs { r.nvs with sel := .waiting }))))
  ∧ (∀ s : State, s.nvs.queue.length < 4 →
    let gen := fun (x : AB) => (readGen (s.nvs.mem.bank x).gen).getD 0
    let version := fun (x : AB) => ((readHeader (s.nvs.mem.bank x).header).map Prod.fst).getD 0
    let left := fun (x : AB) => s.bankStatus x = .valid ∧ s.nvs.anchor.activeGen < gen x
    let queued := fun (q : List NvOp) => selectionOps s = s.setNvs { s.nvs with queue := s.nvs.queue ++ q }
    let select := fun (x : AB) => NvOp.anchorSelect x (version x) (gen x)
    (¬ left .a → ¬ left .b → queued [])
    ∧ (s.tmp.latch = true → left .a → ¬ left .b → queued [.invalidate .a])
    ∧ (s.tmp.latch = true → ¬ left .a → left .b → queued [.invalidate .b])
    ∧ (s.tmp.latch = true → left .a → left .b → queued [.invalidate .a, .invalidate .b])
    ∧ (s.tmp.latch = false → left .a → ¬ left .b ∨ gen .b ≤ gen .a → queued [select .a])
    ∧ (s.tmp.latch = false → left .b → ¬ left .a ∨ gen .a < gen .b → queued [select .b]))
  ∧ (∀ s : State,
    let gen := fun (x : AB) => (readGen (s.nvs.mem.bank x).gen).getD 0
    let version := fun (x : AB) => ((readHeader (s.nvs.mem.bank x).header).map Prod.fst).getD 0
    let chosen := fun (x : AB) => s.bankStatus x = .valid ∧ gen x = s.nvs.anchor.activeGen
    let took := fun (p : Profile) =>
      let t := selectionEnd s
      let cfg := fun (k : Nat) => p.chans.getD k factoryChan
      let fb := fun (k : Nat) => if (cfg k).polarity = .highClosed then s.pins.feedback.getLsbD k else !s.pins.feedback.getLsbD k
      t.prof = p ∧ t.cnd.enables = p.enables ∧ t.log = { s.log with threshold := p.logThreshold }
      ∧ t.ana = { s.ana with active := true, run := 0 }
      ∧ t.ctr = { counters := p.counters.map fun c =>
          { kind := c.kind, value := c.value, reload := c.reload, snap := c.snap, armed := false }, overflow := 0 }
      ∧ (∀ k, k < 4 → s.kdr.chans.length = 4 →
          let c := if (s.chanCfg k).polarity = (cfg k).polarity then s.chan k
            else { s.chan k with closedFb := fb k, debounce := 0, acceptDue := false }
          t.chan k = { c with settling := if (cfg k).role = .unused then none else some (cfg k).breakMax })
      ∧ t.condSet .cellStale = t.populated.any (fun c => !c.fresh) ∧ t.condSet .moduleLost = t.someLost
      ∧ t.condSet .logThreshold = decide (p.logThreshold ≤ s.log.records.length)
      ∧ t.cells = s.cells ∧ t.sch = s.sch ∧ t.chn = s.chn ∧ t.tmp = s.tmp ∧ t.upd = s.upd ∧ t.pwr = s.pwr ∧ t.tim = s.tim
    let takes := fun (x : AB) =>
      took ((validImage (s.nvs.mem.bank x).image).getD factoryProfile)
      ∧ (selectionEnd s).nvs = { s.nvs with active := some x, activeVer := some (version x, gen x), sel := .ended }
      ∧ (selectionEnd s).condSet .noProfile = s.condSet .noProfile
    (chosen .a → takes .a) ∧ (¬ chosen .a → chosen .b → takes .b)
    ∧ (¬ chosen .a → ¬ chosen .b → took factoryProfile
        ∧ (selectionEnd s).nvs = { s.nvs with active := none, activeVer := none, sel := .ended }
        ∧ (selectionEnd s).condSet .noProfile = true))
  ∧ ∀ s : State, s.pwr.mode = .startup →
    let ended := s.nvs.sel = .ended ∧ s.pwr.wearEnded = true ∧ s.pwr.enumEnded = true ∧ s.pwr.settleEnded = true
    (s.upd.act ≠ .owed → finish s = linkPump (startupProgress (nvBegin s)))
    ∧ startupProgress s = startupEnd (settleProgress (enumerateProgress (selectionProgress s)))
    ∧ (s.nvs.sel = .unread → selectionProgress s =
        let r := startupRead s
        if r.nvs.sel = .waiting ∧ r.selectionBusy = false then selectionEnd r else r)
    ∧ (s.nvs.sel = .waiting → s.selectionBusy = false → selectionProgress s = selectionEnd s)
    ∧ (s.nvs.sel = .waiting → s.selectionBusy = true → selectionProgress s = s)
    ∧ (s.nvs.sel = .ended → selectionProgress s = s)
    ∧ (s.nvs.sel = .ended → s.pwr.enumEnded = false → s.chn.st = .idle →
      enumerateProgress s = s.setChn { s.chn with st := .enumerating, wait := .ident 0 (s.tim.packTime + 420#32) })
    ∧ (s.nvs.sel ≠ .ended ∨ s.pwr.enumEnded = true ∨ s.chn.st ≠ .idle → enumerateProgress s = s)
    ∧ (s.nvs.sel = .ended → (∀ c ∈ s.kdr.chans, c.settling = none) →
      settleProgress s = s.setPwr { s.pwr with settleEnded := true })
    ∧ (s.nvs.sel ≠ .ended ∨ (∃ c ∈ s.kdr.chans, c.settling ≠ none) → settleProgress s = s)
    ∧ (¬ ended → startupEnd s = s)
    ∧ (ended → s.prof.autostart = false → startupEnd s = s.setPwr { s.pwr with mode := .run })
    ∧ (ended → s.prof.autostart = true → startupEnd s = (s.setPwr { s.pwr with mode := .run }).setSch { s.sch with
        running := true, countdowns := s.prof.slots.map fun c => if c.enabled then some (c.phase + 1) else none })

/-- R20, R38, R40, R47, R61, R94, R95, R119, R158, R186: a tick in RUN, nothing being due, supervision running, and no closing
change in debounce in OPENING. The tick's instant is reached (a tick whose instant is past leaves pack time as it stands, the
model's choice, log 3), the inputs are sampled, and each countdown, age and run goes on by one, but for the countdowns of a channel
whose change is found accepted, which wait for that acceptance (the model's, log 19). In every mode a tick with nothing due is its
work and the end of the event; the work while no closing run is abandoned changes what is listed here and nothing else, and moves on
the sleep timer's divider in SLEEP alone; with supervision suspended the drivers do not take part, and otherwise they take the tick
channel by channel (an abandoned run is AcceptedFeedbackMovesTheContactor's). The model's form, no rule's (log 2): an expiry or
acceptance is taken by its own command; one that is not due does nothing beyond the end of the event; a tick first takes, in the
opcode table's order, lower numbers first, and each as a whole event, what the tick before left due and nobody took, and that is
nothing when nothing is due. With no command waiting, a step takes what is due and lets a microsecond pass, but not in SLEEP and not
past an instant at which an event falls (the model's choice, logs 3 and 25). -/
def Obligations.TickAdvancesEveryCount : Prop :=
  (∀ (s : State) (fb : BitVec 4) (tm : Bool), s.inRun → s.nothingDue → s.kdr.suspended = false → s.kdr.chans.length = 4 →
    isEarlier s.tim.packTime s.tim.nextTick = true →
    (∀ k, k < 4 → ¬ ((s.chan k).st = .opening ∧ (s.chan k).closedFb = false ∧ 0 < (s.chan k).debounce)) →
    ∃ t, exec (.tick fb tm) s = .next t
      ∧ t.tim = { packTime := s.tim.nextTick, nextTick := s.tim.nextTick + 1000 } ∧ t.pins = { feedback := fb, tamper := tm }
      ∧ t.sch = { s.sch with
          countdowns := if s.sch.running then s.sch.countdowns.map (Option.map (· - 1)) else s.sch.countdowns }
      ∧ t.cells = s.cells.map (fun c =>
          let age := if c.code.isSome then min 65535 (c.age + 1) else c.age
          { c with
            age := age
            staleDue := c.fresh && decide (s.prof.freshness < age)
            ref := c.ref.map fun r => { r with age := min 65535 (r.age + 1) } })
      ∧ (∀ k, k < 4 →
          let c := s.chan k
          let closed := if (s.chanCfg k).polarity = .highClosed then fb.getLsbD k else !fb.getLsbD k
          let down := fun (x : Option Nat) => x.map (· - 1)
          let d := { c with pullIn := down c.pullIn, superv := down c.superv, settling := down c.settling }
          (closed = c.closedFb → t.chan k = { d with debounce := 0 })
          ∧ (closed ≠ c.closedFb → c.debounce = 0 → t.chan k = { d with debounce := 1, edge := s.tim.nextTick })
          ∧ (closed ≠ c.closedFb → c.debounce = 1 → t.chan k = { d with debounce := 2 })
          ∧ (closed ≠ c.closedFb → 2 ≤ c.debounce → t.chan k = { c with acceptDue := true }))
      ∧ t.seq = { s.seq with run := s.seq.run.map fun r => { r with timer := r.timer.map (· - 1) } }
      ∧ (t.ana = if s.ana.active = true ∧ s.ana.fault = false ∧ s.ana.latestAbove = some (!s.ana.overCurrent) then
            { s.ana with run := min (s.ana.run + 1) s.prof.ocTime } else s.ana)
      ∧ (tm = s.tmp.asserted → t.tmp.run = 0 ∧ t.tmp.acceptDue = false)
      ∧ (tm ≠ s.tmp.asserted → s.tmp.run < 10 → t.tmp.run = s.tmp.run + 1 ∧ t.tmp.acceptDue = false)
      ∧ (tm ≠ s.tmp.asserted → 10 ≤ s.tmp.run → t.tmp.run = s.tmp.run ∧ t.tmp.acceptDue = true)
      ∧ t.tmp.asserted = s.tmp.asserted ∧ t.tmp.latch = s.tmp.latch
      ∧ t.chn = s.chn ∧ t.aln = s.aln ∧ t.lim = s.lim ∧ t.cnd.set = s.cnd.set ∧ t.ctr = s.ctr ∧ t.log = s.log ∧ t.prof = s.prof
      ∧ t.nvs.mem = s.nvs.mem)
  ∧ (∀ (s : State) (fb : BitVec 4) (tm : Bool), s.nothingDue → exec (.tick fb tm) s = .next (finish (tickWork fb tm s)))
  ∧ (∀ (s : State) (fb : BitVec 4) (tm : Bool),
    let now := if isEarlier s.tim.packTime s.tim.nextTick then s.tim.nextTick else s.tim.packTime
    let down := fun (x : Option Nat) => x.map (· - 1)
    let u := ((s.setPins { feedback := fb, tamper := tm }).setTim { packTime := now, nextTick := s.tim.nextTick + 1000 }).setSeq
      { s.seq with run := s.seq.run.map fun r => { r with timer := down r.timer } }
    let t := tickWork fb tm s
    (s.kdr.suspended = true → t.kdr = s.kdr)
    ∧ (s.kdr.suspended = false → t.kdr = (tickChan 3 (tickChan 2 (tickChan 1 (tickChan 0 u)))).kdr)
    ∧ (s.kdr.suspended = true ∨
        (∀ k, k < 4 → ¬ ((s.chan k).st = .opening ∧ (s.chan k).closedFb = false ∧ 0 < (s.chan k).debounce)) →
      t.tim = u.tim ∧ t.pins = u.pins ∧ t.seq = u.seq
      ∧ t.sch = { s.sch with countdowns := if s.sch.running then s.sch.countdowns.map down else s.sch.countdowns }
      ∧ t.cells = s.cells.map (fun c =>
          let age := if c.code.isSome then min 65535 (c.age + 1) else c.age
          { c with
            age := age
            staleDue := c.staleDue || (c.fresh && decide (s.prof.freshness < age))
            ref := c.ref.map fun r => { r with age := min 65535 (r.age + 1) } })
      ∧ t.ana = (if s.ana.active = true ∧ s.ana.fault = false ∧ s.ana.latestAbove = some (!s.ana.overCurrent) then
            { s.ana with run := min (s.ana.run + 1) s.prof.ocTime } else s.ana)
      ∧ t.tmp = (if tm = s.tmp.asserted then { s.tmp with run := 0, acceptDue := false }
            else if s.tmp.run < 10 then { s.tmp with run := s.tmp.run + 1 } else { s.tmp with acceptDue := true })
      ∧ t.pwr = (if s.pwr.mode ≠ .sleep then s.pwr
            else if 999 ≤ s.pwr.divider then { s.pwr with divider := 0, sleepTimer := down s.pwr.sleepTimer }
            else { s.pwr with divider := s.pwr.divider + 1 })
      ∧ t.kdr = { s.kdr with chans := t.kdr.chans }
      ∧ t.chn = s.chn ∧ t.aln = s.aln ∧ t.lim = s.lim ∧ t.cnd = s.cnd ∧ t.ctr = s.ctr ∧ t.log = s.log ∧ t.prof = s.prof
      ∧ t.nvs = s.nvs ∧ t.upd = s.upd ∧ t.pli = s.pli ∧ t.pending = s.pending))
  ∧ (∀ (s : State) (fb : BitVec 4) (tm : Bool), exec (.tick fb tm) s = .next (finish (tickWork fb tm (dueWork s))))
  ∧ (∀ s : State, s.nothingDue → dueWork s = s)
  ∧ (∀ s : State,
    let run := fun (c : Instr) (x : State) => match exec c x with
      | .next t => t
      | .fault _ => x
      | .refused _ => x
    let each := fun (l : List Nat) (due : Nat → State → Bool) (c : Nat → Instr) (x : State) =>
      l.foldl (fun y i => if due i y then run (c i) y else y) x
    let stale := fun (i : Nat) (x : State) => (x.cell i).staleDue
    let old := fun (i : Nat) (x : State) => (x.cell i).ref.any fun r => decide (x.prof.refMaxAge < r.age) && !r.expired
    let channels := List.range 4
    let s0 := if s.pwr.mode = .startup ∧ s.nvs.sel = .unread then finish s else s
    let s1 := each (List.range 8) (fun i x => x.sch.running && x.sch.countdowns.getD i none == some 0) .slotExpiry s0
    let s2 := each ((List.range s1.cells.length).filter fun i => stale i s1) stale .freshnessExpiry s1
    let s3 := each ((List.range s2.cells.length).filter fun i => old i s2) old .referenceExpiry s2
    let s4 := if s3.ana.active = true ∧ 0 < s3.prof.ocTime ∧ s3.prof.ocTime ≤ s3.ana.run then run .overCurrentRunComplete s3 else s3
    let s5 := each channels (fun k x => (x.chan k).acceptDue) .feedbackAccepted s4
    let s6 := each channels (fun k x => (x.chan k).pullIn == some 0) .pullInEnd s5
    let s7 := each channels (fun k x => (x.chan k).st == .closing && (x.chan k).superv == some 0) .makeMaxExpiry s6
    let s8 := each channels (fun k x => (x.chan k).st == .opening && (x.chan k).superv == some 0) .breakMaxExpiry s7
    let s9 := each channels (fun k x => (x.chan k).settling == some 0) .settlingEnd s8
    let s10 := if s9.seq.run.any (fun r => r.timer == some 0) then run .stepTimerExpiry s9 else s9
    let s11 := if s10.pwr.mode = .sleep ∧ s10.pwr.sleepTimer = some 0 then run .sleepTimerExpiry s10 else s10
    let s12 := if s11.tmp.acceptDue then run (if s11.tmp.asserted then .tamperReleaseAccepted else .tamperAccepted) s11 else s11
    (∀ bs u, s12.pli.rx = .assembling bs u → frameWhole bs = true → dueWork s = run .frameComplete s12)
    ∧ ((∀ bs u, s12.pli.rx = .assembling bs u → frameWhole bs = false) → dueWork s = s12))
  ∧ (∀ s : State,
    let idles := fun (c : Instr) => exec c s = .next (finish s)
    (∀ i, s.sch.running = false ∨ s.sch.countdowns.getD i none ≠ some 0 → idles (.slotExpiry i))
    ∧ (∀ i, (s.cell i).staleDue = false → idles (.freshnessExpiry i))
    ∧ (∀ i, (∀ r, (s.cell i).ref = some r → r.age ≤ s.prof.refMaxAge ∨ r.expired = true) → idles (.referenceExpiry i))
    ∧ (s.ana.active = false ∨ s.prof.ocTime = 0 ∨ s.ana.run < s.prof.ocTime → idles .overCurrentRunComplete)
    ∧ (∀ k, (s.chan k).acceptDue = false ∨ s.kdr.suspended = true → idles (.feedbackAccepted k))
    ∧ (∀ k, (s.chan k).coil ≠ .pullIn ∨ (s.chan k).pullIn ≠ some 0 → idles (.pullInEnd k))
    ∧ (∀ k, (s.chan k).st ≠ .closing ∨ (s.chan k).superv ≠ some 0 → idles (.makeMaxExpiry k))
    ∧ (∀ k, (s.chan k).st ≠ .opening ∨ (s.chan k).superv ≠ some 0 → idles (.breakMaxExpiry k))
    ∧ (∀ k, (s.chan k).settling ≠ some 0 → idles (.settlingEnd k))
    ∧ ((∀ r, s.seq.run = some r → r.timer ≠ some 0) → idles .stepTimerExpiry)
    ∧ (s.pwr.mode ≠ .sleep ∨ s.pwr.sleepTimer ≠ some 0 → idles .sleepTimerExpiry)
    ∧ (s.tmp.acceptDue = false ∨ s.tmp.asserted = true → idles .tamperAccepted)
    ∧ (s.tmp.acceptDue = false ∨ s.tmp.asserted = false → idles .tamperReleaseAccepted))
  ∧ (∀ s : State,
    let now := s.tim.packTime
    let falls := now = s.tim.nextTick ∨ (s.ana.sampling = true ∧ now = s.ana.nextInstant) ∨ (∃ it ∈ s.aln, now = it.deadline)
      ∨ s.chn.wait = .window now ∨ (∃ k, s.chn.wait = .read k now ∨ s.chn.wait = .ident k now) ∨ s.chn.powerUpEnd = some now
      ∨ (∃ f, s.nvs.flight = some f ∧ f.ends = now) ∨ s.pwr.wakePulse = some now ∨ s.pli.rx = .idleWait now
      ∨ ∃ bs, s.pli.rx = .assembling bs now
    (s.pending = [] → step s = .next (passTime (dueWork s)))
    ∧ (s.pwr.mode = .sleep ∨ falls → passTime s = s)
    ∧ (s.pwr.mode ≠ .sleep → ¬ falls → passTime s = s.setTim { s.tim with packTime := now + 1 }))

/-- R9, R10: the arbiter, when no sweep is in flight, the chain master is not ENUMERATING and the scheduler is not suspended, grants the
event source, else the demand source, else the lowest slot that holds a launch; a grant advances the tag and begins a new record. -/
def Obligations.ArbiterGrantsInOrder : Prop :=
  (∀ s : State, s.inFlight = true ∨ s.chn.st = .enumerating ∨ s.sch.suspended = true → arbiter s = s)
  ∧ (∀ s : State, s.inFlight = false → s.chn.st ≠ .enumerating → s.sch.suspended = false →
    (∀ m, s.sch.pendEvent = some m → arbiter s = grant .event m (s.setSch { s.sch with pendEvent := none }))
    ∧ (∀ m, s.sch.pendEvent = none → s.sch.pendDemand = some m →
        arbiter s = grant .demand m (s.setSch { s.sch with pendDemand := none }))
    ∧ (∀ n m, s.sch.pendEvent = none → s.sch.pendDemand = none → s.sch.pendSlots[n]? = some (some m) →
        (∀ j, j < n → s.sch.pendSlots[j]? = some none) →
        arbiter s = grant (.slot n) m (s.setSch { s.sch with pendSlots := s.sch.pendSlots.set n none }))
    ∧ (s.sch.pendEvent = none → s.sch.pendDemand = none → (∀ x ∈ s.sch.pendSlots, x = none) → arbiter s = s))
  ∧ ∀ (src : SweepSource) (m : ModMask) (s : State),
    grant src m s = (s.setChn { s.chn with sweepTag := s.chn.sweepTag + 1, st := .sweeping, wait := .nothing }).setSch { s.sch with
      sweep := some { tag := s.chn.sweepTag + 1, source := src, requested := m, received := 0, tb := none, unreported := false,
                      stage := .broadcasting }
      sumAlign := none }

/-- R1, R5: the expiry of a slot whose countdown has reached 0 while the schedule is RUNNING. The countdown reloads. An empty effective
mask makes nothing; a slot with no pending launch and no sweep of its own in flight gains the launch and the arbiter chooses; in either
other case the expiry is an overrun. -/
def Obligations.SlotExpiryLaunchesOrOverruns : Prop :=
  ∀ (s : State) (i : Nat), i < 8 → s.sch.running = true → s.sch.countdowns[i]? = some (some 0) →
    let c := s.prof.slots.getD i factorySlot
    let m := if c.full then popMask s.prof else c.mask &&& popMask s.prof
    let s1 := s.setSch { s.sch with countdowns := s.sch.countdowns.set i (some c.period) }
    let own := ∃ w, s.sch.sweep = some w ∧ w.stage ≠ .done ∧ w.source = .slot i
    (m = 0 → exec (.slotExpiry i) s = .next (finish s1))
    ∧ (m ≠ 0 → s.sch.pendSlots.getD i none = none → ¬ own →
      exec (.slotExpiry i) s = .next (finish (arbiter (s1.setSch { s1.sch with pendSlots := s.sch.pendSlots.set i (some m) }))))
    ∧ (m ≠ 0 → s.sch.pendSlots.getD i none ≠ none ∨ own →
      exec (.slotExpiry i) s = .next (finish (occurrence .slotOverrun (setCond .slotOverrun s1))))

/-- R20, R61, R79: the expiry of a cell's freshness, which CELL_STALE follows, and of a reference's age. The tick that finds a freshness
past its limit leaves it to this command (log 2). -/
def Obligations.FreshnessAndReferenceExpire : Prop :=
  (∀ (s : State) (i : Nat), (s.cell i).staleDue = true →
    exec (.freshnessExpiry i) s = .next (finish (
      let s1 := s.setCells (s.cells.set i { s.cell i with fresh := false, staleDue := false })
      liveCond .cellStale (s1.populated.any (fun c => !c.fresh)) s1)))
  ∧ ∀ (s : State) (i : Nat) (r : Ref), (s.cell i).ref = some r → r.expired = false → s.prof.refMaxAge < r.age →
    exec (.referenceExpiry i) s = .next (finish
      (s.setCells (s.cells.set i { s.cell i with ref := some { r with expired := true } })))

/-! ## Events: the chain -/

/-- R10, R24, R25: the broadcast leaves the part: its instant is recorded, the sweep is READING, the conversion window runs, and the
instant is submitted for the summary (R11, R51). The window's end sends the READ of the lowest requested position, whose reply
window ends 420 us on (the model's count from the send, log 13). R38, R39: a command whose rule fixes its instant carries pack time
forward to it when it is later than the pack time that stands, by the signed 32-bit difference; pack time never goes back, and in
SLEEP it stands still, the tick alone moving it (that commands move pack time so is the model's choice, log 3). R22, R204: the bytes
of the frame that the chain master sends, or has sent and awaits the reply to: SAMPLE with the tag to the broadcast value, READ and
IDENT to the position, each after the start byte and with its check. -/
def Obligations.BroadcastAndConversionWindow : Prop :=
  (∀ (s : State) (w : SweepRec), s.sch.sweep = some w → w.stage = .broadcasting →
    exec .sampleBroadcastSent s = .next (finish (submitAlign none s.tim.packTime
      ((s.setSch { s.sch with sweep := some { w with tb := some s.tim.packTime, stage := .reading } }).setChn { s.chn with
        wait := .window (s.tim.packTime + BitVec.ofNat 32 (s.prof.convOffset + 11 * s.prof.hopDelay + 16 * s.prof.cellSpacing)) }))))
  ∧ (∀ (s : State) (w : SweepRec) (u : Time) (j : Nat), s.chn.wait = .window u → s.sch.sweep = some w → nextPosition w.requested 0 j →
    let s1 := advanceTo u s
    exec .conversionWindowEnd s = .next (finish (s1.setChn { s.chn with wait := .read j (s1.tim.packTime + 420#32) })))
  ∧ (∀ (s : State) (t : Time),
    (∀ x y : Time, isEarlier x y = decide ((x - y).toInt < 0))
    ∧ (s.pwr.mode = .sleep → advanceTo t s = s)
    ∧ (s.pwr.mode ≠ .sleep → (s.tim.packTime - t).toInt < 0 → advanceTo t s = s.setTim { s.tim with packTime := t })
    ∧ (s.pwr.mode ≠ .sleep → 0 ≤ (s.tim.packTime - t).toInt → advanceTo t s = s))
  ∧ ∀ s : State,
    let framed := fun (body : List Byte) => some ([0x5A] ++ body ++ [crc8 body])
    (∀ k u, s.chn.wait = .read k u → s.chainFrame = framed [0x20, BitVec.ofNat 8 k])
    ∧ (∀ k u, s.chn.wait = .ident k u → s.chainFrame = framed [0x30, BitVec.ofNat 8 k])
    ∧ (∀ w, s.chn.wait = .nothing → s.sch.sweep = some w → w.stage = .broadcasting → s.chainFrame = framed [0x10, 0x0F, w.tag])
    ∧ ((∀ u, s.chn.wait = .window u → s.chainFrame = none)
      ∧ (s.chn.wait = .nothing → (∀ w, s.sch.sweep = some w → w.stage ≠ .broadcasting) → s.chainFrame = none))

/-- R19, R26 to R31: a complete reply to a READ in RUN, another position being left to read. A reply whose check, kind and position
hold, with the sweep's tag and the sample-held flag, is GOOD: the position is received, its cells are written, its module is
present. R19, R20, R27, R51, R79: a cell of the module that the tick before has found past the freshness limit goes stale first, as
the tick came first (that it can still stand then is the model's form, log 2); then the module's cells are written, CELL_STALE is
judged, and each is submitted for alignment. Any other leaves the sweep record and the cells as they were, counts a miss, loses the
module at the third, and sets CHAIN_ERROR; in every mode each READ whose outcome is not GOOD, NO_REPLY too, raises MODULE_MISS to
the event counters, and MODULE_LOST follows the module table. Either way the next READ is sent; its window ends 420 us on (the
model's count, log 13), and the reply's start byte is not judged (read from R26, log 14). R11, R25: with no requested position left
the sweep is ALIGNING, and completes at once when no alignment is deferred. -/
def Obligations.ReadReplyIsTakenByItsOutcome : Prop :=
  (∀ (s : State) (k j : Nat) (u tb : Time) (w : SweepRec) (bs : List Byte), s.inRun → s.chn.wait = .read k u →
    s.sch.sweep = some w → w.tb = some tb → k < s.chn.modules.length → nextPosition w.requested (k + 1) j → bs.length = 38 →
    let holds := crc8 ((bs.take 37).drop 1) = bs.getD 37 0 ∧ bs.getD 1 0 = 0xA0 ∧ (bs.getD 2 0).toNat = k
    let good := holds ∧ bs.getD 36 0 = s.chn.sweepTag ∧ (bs.getD 35 0).getLsbD 7 = true
    let m := s.modEntry k
    let n := min 3 (m.misses + 1)
    ∃ t, exec (.chainReplyComplete bs) s = .next t ∧ t.chn.wait = .read j (s.tim.packTime + 420#32) ∧ t.tim = s.tim
      ∧ (∀ i, i ≠ k → t.modEntry i = s.modEntry i)
      ∧ (good →
        t.sch.sweep = some { w with received := w.received ||| BitVec.twoPow 12 k }
        ∧ t.modEntry k = { present := true, misses := 0, last := .good, status := some (bs.getD 35 0), lost := false }
        ∧ ∀ c, c < cellsAt s.prof k → c < 16 → cellBase s.prof k + c < s.cells.length →
          let d := t.cell (cellBase s.prof k + c)
          d.code = some (min 50000 (natAt bs (3 + 2 * c) 2)) ∧ d.tag = w.tag ∧ d.age = 0 ∧ d.fresh = true
          ∧ d.range = (if 50000 < natAt bs (3 + 2 * c) 2 then .outOfRange else .normal)
          ∧ d.inst = some (tb + BitVec.ofNat 32 (s.prof.convOffset + k * s.prof.hopDelay + c * s.prof.cellSpacing)))
      ∧ (¬ good →
        t.sch = s.sch ∧ t.cells = s.cells ∧ t.condSet .chainError = true
        ∧ t.modEntry k = { m with
            last := if holds then .tagMismatch else .badCrc
            status := if holds then some (bs.getD 35 0) else m.status
            misses := n, lost := m.lost || n == 3 }))
  ∧ (∀ (s : State) (k : Nat) (u : Time) (w : SweepRec) (bs : List Byte), s.chn.wait = .read k u → s.sch.sweep = some w →
    38 ≤ bs.length →
    let o := judgeRead s.chn.sweepTag k bs
    (o.outcome = .good →
      exec (.chainReplyComplete bs) s = .next (finish (readFrom (k + 1) (takeCodes k o.codes w (readEntry k o s)))))
    ∧ (o.outcome ≠ .good → exec (.chainReplyComplete bs) s = .next (finish (readFrom (k + 1) (readEntry k o s)))))
  ∧ (∀ (tag : Byte) (k : Nat) (bs : List Byte),
    let status := bs.getD 35 0
    let holds := crc8 ((bs.take 37).drop 1) = bs.getD 37 0 ∧ bs.getD 1 0 = 0xA0 ∧ (bs.getD 2 0).toNat = k
    let ours := bs.getD 36 0 = tag ∧ status.getLsbD 7 = true
    (holds → ours → judgeRead tag k bs =
      { outcome := .good, status := some status, codes := (List.range 16).map fun c => natAt bs (3 + 2 * c) 2 })
    ∧ (holds → ¬ ours → judgeRead tag k bs = { outcome := .tagMismatch, status := some status, codes := [] })
    ∧ (¬ holds → judgeRead tag k bs = { outcome := .badCrc, status := none, codes := [] }))
  ∧ (∀ (s : State) (k : Nat) (o : MonitorReply),
    let m := s.modEntry k
    let n := min 3 (m.misses + 1)
    let table := fun (e : ModEntry) => s.setChn { s.chn with modules := s.chn.modules.set k e }
    let judged := fun (x : State) =>
      liveCond .moduleLost ((List.range 12).any fun i => decide (i < x.prof.moduleCount) && (x.modEntry i).lost) x
    (o.outcome = .good → readEntry k o s =
      judged (table { present := true, misses := 0, last := .good, status := o.status, lost := false }))
    ∧ (o.outcome ≠ .good → readEntry k o s = judged (setCond .chainError (occurrence .moduleMiss (table { m with
        last := o.outcome, status := if o.status.isSome then o.status else m.status, misses := n, lost := m.lost || n == 3 })))))
  ∧ (∀ (s : State) (k : Nat) (codes : List Nat) (w : SweepRec),
    let cells := (List.range (cellsAt s.prof k)).map fun c => cellBase s.prof k + c
    let written := writeChannels w.tag (w.tb.getD s.tim.packTime) k 0 (codes.take (cellsAt s.prof k)) (takeStale cells s)
    let received := written.setSch { s.sch with sweep := some { w with received := w.received ||| BitVec.twoPow 12 k } }
    takeCodes k codes w s = submitCells cells (liveCond .cellStale (received.populated.any fun c => !c.fresh) received))
  ∧ (∀ (s : State) (i : Nat) (l : List Nat),
    let stale := s.setCells (s.cells.set i { s.cell i with fresh := false, staleDue := false })
    takeStale [] s = s ∧ ((s.cell i).staleDue = false → takeStale (i :: l) s = takeStale l s)
    ∧ ((s.cell i).staleDue = true →
      takeStale (i :: l) s = takeStale l (liveCond .cellStale (stale.populated.any fun c => !c.fresh) stale)))
  ∧ (∀ (tag : Byte) (tb : Time) (k c code : Nat) (l : List Nat) (s : State),
    let i := cellBase s.prof k + c
    writeChannels tag tb k c [] s = s
    ∧ writeChannels tag tb k c (code :: l) s = writeChannels tag tb k (c + 1) l (s.setCells (s.cells.set i { s.cell i with
        code := some (min 50000 code), range := if 50000 < code then .outOfRange else .normal
        inst := some (tb + BitVec.ofNat 32 (s.prof.convOffset + k * s.prof.hopDelay + c * s.prof.cellSpacing))
        tag := tag, age := 0, fresh := true, staleDue := false, current := none, mark := none })))
  ∧ (∀ (s : State) (i : Nat) (l : List Nat), submitCells [] s = s
    ∧ ((s.cell i).inst = none → submitCells (i :: l) s = submitCells l s)
    ∧ ∀ u, (s.cell i).inst = some u → submitCells (i :: l) s = submitCells l (submitAlign (some i) u s))
  ∧ ∀ (s : State) (k : Nat) (w : SweepRec), s.sch.sweep = some w →
    (∀ j, nextPosition w.requested k j → readFrom k s = s.setChn { s.chn with wait := .read j (s.tim.packTime + 420#32) })
    ∧ ((∀ j, k ≤ j → j < 12 → w.requested.getLsbD j = false) →
      readFrom k s = completeIfAligned ((s.setChn { s.chn with wait := .nothing }).setSch { s.sch with
        sweep := some { w with stage := .aligning } }))

/-- R26, R30 to R33: the end of a reply window. In RUN, of a READ, another position being left to read: NO_REPLY, a miss, and the
next READ, whose window ends 420 us on (the model's count, log 13). In RUN, of an IDENT: the enumeration stops: the end marking
takes the position and every higher one, the populated being lost, CHAIN_ERROR is set when the position is populated, MODULE_LOST
follows the table, and the chain master awaits nothing and enumerates no more. In every mode, with the last position as well: what
the ends are. R9, R33, R36, R153: the end of an enumeration marks the positions from one on, makes the chain IDLE, ends the stage of
STARTUP, takes a power-down that waits, also before a ready report that is owed (the model's choice, log 31), or makes a ready
report that is owed, and lets the arbiter choose. -/
def Obligations.ReplyWindowEndIsAMissOrEndsEnumeration : Prop :=
  (∀ (s : State) (k j : Nat) (u : Time) (w : SweepRec), s.inRun → s.chn.wait = .read k u → s.sch.sweep = some w →
    k < s.chn.modules.length → nextPosition w.requested (k + 1) j →
    ∃ t, exec .replyWindowEnd s = .next t ∧ t.tim = (advanceTo u s).tim ∧ t.chn.wait = .read j (t.tim.packTime + 420#32)
      ∧ t.sch = s.sch ∧ t.cells = s.cells ∧ t.condSet .chainError = true
      ∧ t.modEntry k = { s.modEntry k with
          last := .noReply, misses := min 3 ((s.modEntry k).misses + 1)
          lost := (s.modEntry k).lost || min 3 ((s.modEntry k).misses + 1) == 3 }
      ∧ ∀ i, i ≠ k → t.modEntry i = s.modEntry i)
  ∧ (∀ (s : State) (k : Nat) (u : Time), s.inRun → s.chn.wait = .ident k u → s.chn.modules.length = 12 →
    ∃ t, exec .replyWindowEnd s = .next t ∧ (∀ i, i < k → t.modEntry i = s.modEntry i)
      ∧ (∀ i, k ≤ i → i < 12 →
        t.modEntry i = { s.modEntry i with
          present := false, misses := if i < s.prof.moduleCount then 3 else 0, lost := decide (i < s.prof.moduleCount)
          last := if i = k then .noReply else (s.modEntry i).last })
      ∧ t.chn.st ≠ .enumerating ∧ t.chn.wait = .nothing ∧ t.condSet .moduleLost = t.someLost
      ∧ t.condSet .chainError = (s.condSet .chainError || decide (k < s.prof.moduleCount)))
  ∧ (∀ (s : State) (k : Nat) (u : Time) (w : SweepRec), s.chn.wait = .read k u → s.sch.sweep = some w →
    exec .replyWindowEnd s = .next (finish (readFrom (k + 1)
      (readEntry k { outcome := .noReply, status := none, codes := [] } (advanceTo u s)))))
  ∧ (∀ (s : State) (k : Nat) (u : Time), s.chn.wait = .ident k u →
    let m := (advanceTo u s).setChn { s.chn with modules := s.chn.modules.set k { s.modEntry k with last := .noReply } }
    (k < s.prof.moduleCount → exec .replyWindowEnd s = .next (finish (enumerationEnds k (setCond .chainError m))))
    ∧ (s.prof.moduleCount ≤ k → exec .replyWindowEnd s = .next (finish (enumerationEnds k m))))
  ∧ (∀ (s : State) (k : Nat),
    let marked := s.setChn { s.chn with
      modules := (List.range s.chn.modules.length).map fun i =>
        let e := s.modEntry i
        if i < k then e
        else { e with
          present := false, misses := if i < s.prof.moduleCount then 3 else 0, lost := decide (i < s.prof.moduleCount) }
      st := .idle, wait := .nothing }
    let judged := liveCond .moduleLost marked.someLost marked
    (s.pwr.mode ≠ .startup → enumerationEnds k s = arbiter (chainIdle judged))
    ∧ (s.pwr.mode = .startup → enumerationEnds k s = arbiter (chainIdle (judged.setPwr { s.pwr with enumEnded := true }))))
  ∧ ∀ s : State,
    (s.chn.downWanted = true → chainIdle s = s.setChn { s.chn with st := .poweredDown, downWanted := false })
    ∧ (s.chn.downWanted = false → s.chn.readyOwed = true → chainIdle s = chainReport (s.setChn { s.chn with readyOwed := false }))
    ∧ (s.chn.downWanted = false → s.chn.readyOwed = false → chainIdle s = s)
    ∧ (s.pwr.mode ≠ .sleepSweep → chainReport s = s.setPwr { s.pwr with waitChain := false })

/-- R26, R32, R36: a good reply to an IDENT below the last position marks the module present and sends the next IDENT, whose window
ends 420 us on (the model's count, log 13); the reply's start byte is not judged (read from R26, log 14). In every mode the reply is
judged by its first five bytes; fewer than its kind requires decide nothing (R26), and bytes that come while no reply is awaited are
discarded (R22). A good reply of position 11 ends the enumeration with no position unanswered; a reply that fails its check is
BAD_CRC, sets CHAIN_ERROR and ends it at the position. The end of the power-up interval makes the chain IDLE, takes a power-down
that was asked for in POWERING, also with a ready report owed (the model's choice, log 31), or reports to the power controller that
asked, for a sleep sweep as SleepTimerHostArrivalWakePulse says. -/
def Obligations.IdentReplyAndChainPowerUp : Prop :=
  (∀ (s : State) (k : Nat) (u : Time) (bs : List Byte), s.inRun → s.chn.wait = .ident k u → k < 11 → k < s.chn.modules.length →
    bs.length = 5 → crc8 ((bs.take 4).drop 1) = bs.getD 4 0 → bs.getD 1 0 = 0xB0 → (bs.getD 2 0).toNat = k →
    ∃ t, exec (.chainReplyComplete bs) s = .next t
      ∧ t.chn = { s.chn with
          modules := s.chn.modules.set k
            { present := true, misses := 0, last := .good, status := some (bs.getD 3 0), lost := false }
          wait := .ident (k + 1) (s.tim.packTime + 420#32) }
      ∧ t.condSet .moduleLost = t.someLost ∧ t.sch = s.sch ∧ t.cells = s.cells ∧ t.tim = s.tim)
  ∧ (∀ (s : State) (k : Nat) (u : Time) (bs : List Byte), s.chn.wait = .ident k u → 5 ≤ bs.length →
    let holds := crc8 ((bs.take 4).drop 1) = bs.getD 4 0 ∧ bs.getD 1 0 = 0xB0 ∧ (bs.getD 2 0).toNat = k
    let written := fun (e : ModEntry) => s.setChn { s.chn with modules := s.chn.modules.set k e }
    let good := written { present := true, misses := 0, last := .good, status := some (bs.getD 3 0), lost := false }
    (holds → k < 11 →
      exec (.chainReplyComplete bs) s = .next (finish ((liveCond .moduleLost good.someLost good).setChn { good.chn with
        wait := .ident (k + 1) (s.tim.packTime + 420#32) })))
    ∧ (holds → k = 11 →
      exec (.chainReplyComplete bs) s = .next (finish (enumerationEnds 12 (liveCond .moduleLost good.someLost good))))
    ∧ (¬ holds → exec (.chainReplyComplete bs) s = .next (finish (enumerationEnds k
        (setCond .chainError (written { s.modEntry k with last := .badCrc }))))))
  ∧ (∀ (s : State) (k : Nat) (u : Time) (bs : List Byte),
    (s.chn.wait = .read k u ∧ bs.length < 38) ∨ (s.chn.wait = .ident k u ∧ bs.length < 5) ∨ s.chn.wait = .nothing
      ∨ s.chn.wait = .window u → exec (.chainReplyComplete bs) s = .next (finish s))
  ∧ ∀ (s : State) (u : Time), s.chn.st = .powering → s.chn.powerUpEnd = some u →
    let s1 := advanceTo u s
    (s.chn.downWanted = true →
      exec .chainPowerUpDone s = .next (finish (s1.setChn { s.chn with st := .poweredDown, powerUpEnd := none, downWanted := false })))
    ∧ (s.chn.downWanted = false → s.chn.readyOwed = false →
      exec .chainPowerUpDone s = .next (finish (s1.setChn { s.chn with st := .idle, powerUpEnd := none })))
    ∧ (s.chn.downWanted = false → s.chn.readyOwed = true →
      let up := s1.setChn { s.chn with st := .idle, powerUpEnd := none, readyOwed := false }
      (s.pwr.mode ≠ .sleepSweep → exec .chainPowerUpDone s = .next (finish (up.setPwr { s.pwr with waitChain := false })))
      ∧ (s.pwr.mode = .sleepSweep → exec .chainPowerUpDone s = .next (finish (chainReport up))))

/-! ## Events: the analog channels and the alignment -/

/-- R42 to R46: a sampling instant starts a conversion, and the active profile's period takes effect at it: the next one follows at
that period; one that finds a conversion outstanding loses it, and the second lost in a row is ANALOG_FAULT, with the fault report
in place of a ready report that is owed; during a fault the count stays at 2. A delivery of the outstanding conversion is clamped,
marked and appended to the ring, ends a fault and empties its ring, and arrives at those who await it; any other delivery is
discarded. R47, R119, R123: an over-current run that the tick has completed, and a step timer that it has brought to 0, are taken
before a delivery that comes after that tick, the run first; that they can still stand then is the model's form (log 2). A full ring
of 64 loses its oldest entry at an arrival, by R43 against R48's 65th arrival (the model's choice, log 32). R47, R45: at an arrival
the entry's class is taken and the run of R47 ends when it agrees with the condition, the entry counts toward a ready report that is
owed, the deferred alignments are tried and a sweep that then needs no more completes, the step that awaited an arrival gets it, and
the report is made when no entry is wanted any more: that the blocks come in this order is the model's choice (log 10). Outside
SLEEP_SWEEP the report is only noted by the power controller. R48: the entry nearest an instant is the newest one during a fault,
none of an empty ring, and else the closest, the older of two equally close. -/
def Obligations.ConversionsAreStartedLostOrDelivered : Prop :=
  (∀ s : State, s.ana.sampling = true →
    let n := s.ana.nextInstant
    let s1 := advanceTo n s
    let next := { s.ana with period := s.prof.period, outstanding := some n, nextInstant := n + BitVec.ofNat 32 s.prof.period }
    (s.ana.outstanding = none →
      exec .samplingInstant s = .next (finish (s1.setAna next)))
    ∧ (s.ana.outstanding.isSome = true → s.ana.lost = 0 →
      exec .samplingInstant s = .next (finish (s1.setAna { next with lost := 1 })))
    ∧ (s.ana.outstanding.isSome = true → 0 < s.ana.lost → s.ana.fault = false → s.ana.readyOwed = none →
      exec .samplingInstant s = .next (finish
        ((setCond .analogFault s1).setAna { next with lost := 2, fault := true })))
    ∧ (s.ana.outstanding.isSome = true → 0 < s.ana.lost → s.ana.fault = false → s.ana.readyOwed.isSome = true →
      exec .samplingInstant s = .next (finish (anaReport ((setCond .analogFault s1).setAna { next with
        lost := 2, fault := true, readyOwed := none }))))
    ∧ (s.ana.outstanding.isSome = true → 0 < s.ana.lost → s.ana.fault = true →
      exec .samplingInstant s = .next (finish (s1.setAna { next with lost := 2 }))))
  ∧ (∀ s : State, s.pwr.mode ≠ .sleepSweep → anaReport s = s.setPwr { s.pwr with waitAna := false })
  ∧ (∀ (e : RingEntry) (s : State),
    let above := decide (s.prof.ocLimit < e.current.natAbs) || e.saturated
    let classed := if s.ana.active = true then
        s.setAna { s.ana with latestAbove := some above, run := if above = s.ana.overCurrent then 0 else s.ana.run }
      else s
    let counted := classed.setAna { classed.ana with readyOwed := s.ana.readyOwed.map fun n => n - 1 }
    let settled := completeIfAligned (reclassify s.aln counted)
    let told := if s.seq.run.map Run.awaited = some .arrival ∧ settled.seq.run = s.seq.run then runnerArrival e settled else settled
    (told.ana.readyOwed = some 0 → arrival e s = anaReport (told.setAna { told.ana with readyOwed := none }))
    ∧ (told.ana.readyOwed ≠ some 0 → arrival e s = told))
  ∧ (∀ (s c d : State) (t : Time) (current : Int) (pack link : Nat),
    let complete := s.ana.active = true ∧ 0 < s.prof.ocTime ∧ s.prof.ocTime ≤ s.ana.run
    let timeUp := ∃ r, c.seq.run = some r ∧ r.timer = some 0
    (complete → exec .overCurrentRunComplete s = .next c) → (¬ complete → c = s) →
    (timeUp → exec .stepTimerExpiry c = .next d) → (¬ timeUp → d = c) →
    let e : RingEntry := { time := t, current := max (-20000) (min 20000 current), pack := min 10000 pack, link := min 10000 link,
                           saturated := decide (20000 < current ∨ current < -20000) }
    (d.ana.outstanding ≠ some t → exec (.conversionDelivered t current pack link) s = .next (finish d))
    ∧ (d.ana.outstanding = some t → d.ana.fault = true →
      exec (.conversionDelivered t current pack link) s = .next (finish (arrival e
        ((clearCond .analogFault d).setAna { d.ana with fault := false, outstanding := none, lost := 0, ring := [e] }))))
    ∧ (d.ana.outstanding = some t → d.ana.fault = false →
      exec (.conversionDelivered t current pack link) s = .next (finish (arrival e
        (d.setAna { d.ana with outstanding := none, lost := 0, ring := d.ana.ring.drop (d.ana.ring.length - 63) ++ [e] })))))
  ∧ ∀ (s : State) (t : Time),
    let dist := fun (x : RingEntry) => (timeDiff x.time t).natAbs
    (s.ana.fault = true → s.nearest t = s.ana.ring.getLast?) ∧ (s.ana.ring = [] → s.nearest t = none)
    ∧ ∀ l e r, s.ana.fault = false → s.ana.ring = l ++ e :: r → (∀ x ∈ l, dist e < dist x) →
      (∀ x ∈ r, dist e ≤ dist x) → s.nearest t = some e

/-- R47, R80: a complete over-current run. It changes OVER_CURRENT; the change to set applies the trip action in RUN, which opens every
contactor or ends the sequence with TRIP, and records the trip. -/
def Obligations.OverCurrentRunChangesTheCondition : Prop :=
  ∀ s : State, s.ana.active = true → 0 < s.prof.ocTime → s.prof.ocTime ≤ s.ana.run →
    let on := setCond .overCurrent (s.setAna { s.ana with overCurrent := true, run := 0 })
    let opened := if s.seq.run.isSome then endSequence .trip [] on else openCmd 3 (openCmd 2 (openCmd 1 (openCmd 0 on)))
    (s.ana.overCurrent = true →
      exec .overCurrentRunComplete s = .next (finish (clearCond .overCurrent (s.setAna { s.ana with overCurrent := false, run := 0 }))))
    ∧ (s.ana.overCurrent = false → s.prof.tripOc = false ∨ s.pwr.mode ≠ .run →
      exec .overCurrentRunComplete s = .next (finish on))
    ∧ (s.ana.overCurrent = false → s.prof.tripOc = true → s.pwr.mode = .run →
      exec .overCurrentRunComplete s = .next (finish (opened.setLim { lastTrip := some (.overCurrent, opened.tim.packTime) })))

/-- R53, R55: the deadline of a deferred alignment makes it HELD_NEW from the newest ring entry, SATURATED when that entry is, its current
absent when the ring is empty; the item leaves the list, and a sweep in ALIGNING with no item left completes (R11). R12, R13, R137: the
completion forms the summary over the cells written (the lesser and the greater code, the lower index of equal ones, the sum), counts
SWEEP_DONE and, of every populated position, FULL_SWEEP_DONE with the snapshot check after it; the limit monitor evaluates the sweep, or
the power controller judges a sleep sweep; the record is DONE and the chain master IDLE; the runner hears of an event sweep that is
reported, and then the arbiter chooses (the model's order, log 11); the power controller decides last. R125: the runner's SWEEP step
completes when every requested position was received and ends the sequence with SWEEP_FAILED otherwise. -/
def Obligations.DeadlineMakesHeldNew : Prop :=
  (∀ (s : State) (target : Option Nat) (it : AlignItem), s.aln.find? (fun x => x.target == target) = some it →
    let s1 := advanceTo it.deadline s
    let al : Aligned := match s.ana.ring.getLast? with
      | some e => { current := some e.current, mark := if e.saturated then .saturated else .heldNew }
      | none => { current := none, mark := .heldNew }
    exec (.alignDeadline target) s = .next (finish (completeIfAligned (makeAlignment target al (s1.setAln (s.aln.erase it))))))
  ∧ (∀ s : State,
    (∀ w, s.sch.sweep = some w → w.stage = .aligning → s.aln = [] → completeIfAligned s = completeSweep w s)
    ∧ ((∀ w, s.sch.sweep = some w → w.stage ≠ .aligning) ∨ s.aln ≠ [] → completeIfAligned s = s))
  ∧ (∀ (w : SweepRec) (s : State),
    let counted := occurrence .sweepDone (s.setSch { s.sch with summary := some (formSummary w s) })
    let done := fun (t : State) => tellRunner (chainIdle
      ((t.setSch { t.sch with sweep := t.sch.sweep.map fun r => { r with stage := .done } }).setChn { t.chn with
        st := if t.chn.st = .sweeping then .idle else t.chn.st, wait := .nothing }))
    let ends := fun (t : State) =>
      (w.source ≠ .sleep → completeSweep w s = arbiter (done (limitEvaluate (maskCells s.prof w.received) t)))
      ∧ (w.source = .sleep → completeSweep w s = sleepDecision (arbiter (done (sleepJudge w t))))
    let full := ∀ k, k < 12 → (popMask s.prof).getLsbD k = true → w.received.getLsbD k = true
    (full → ends (snapshotCheck (occurrence .fullSweepDone counted))) ∧ (¬ full → ends counted))
  ∧ (∀ (w : SweepRec) (s : State),
    let cs := maskCells s.prof w.received
    let code := fun (i : Nat) => (s.cell i).code.getD 0
    let m := formSummary w s
    m.tag = w.tag ∧ m.source = w.source ∧ m.tb = w.tb ∧ m.requested = w.requested ∧ m.received = w.received
    ∧ m.aligned = s.sch.sumAlign ∧ m.sum = BitVec.ofNat 32 (cs.map code).sum
    ∧ (cs = [] → m.minCell = none ∧ m.maxCell = none)
    ∧ (cs ≠ [] → ∃ i j, m.minCell = some (i, code i) ∧ m.maxCell = some (j, code j) ∧ i ∈ cs ∧ j ∈ cs
        ∧ ∀ x ∈ cs, (code i < code x ∨ (code i = code x ∧ i ≤ x)) ∧ (code x < code j ∨ (code x = code j ∧ j ≤ x))))
  ∧ ∀ s : State,
    (∀ w, s.sch.sweep = some w → w.source = .event → w.unreported = false → tellRunner s = runnerSwept w.requested w.received s)
    ∧ ((∀ w, s.sch.sweep = some w → w.source ≠ .event ∨ w.unreported = true) → tellRunner s = s)
    ∧ (∀ q g, s.seq.run = none → runnerSwept q g s = s)
    ∧ ∀ r q g, s.seq.run = some r →
      let t := s.setSeq { s.seq with run := some { r with eventReq := false } }
      (r.awaited ≠ .sweep ∨ r.eventReq = false → runnerSwept q g s = s)
      ∧ (r.awaited = .sweep → r.eventReq = true → g = q → runnerSwept q g s = runSteps 13 (r.idx + 1) t)
      ∧ (r.awaited = .sweep → r.eventReq = true → g ≠ q → runnerSwept q g s = endSequence .sweepFailed [] t)

/-- R53 with the rounding of spec/00: the current interpolated at an instant after one entry and before the next is the first one's
plus the exact quotient of R53 rounded half away from zero, and lies between the two. R52, R54, R55: the classification of an
instant: deferred in a fault, on an empty ring and past the newest entry; HELD_OLD before the oldest; EXACT at an entry's time;
INTERPOLATED between two; SATURATED in their place when an entry used is. R51, R56, R57: a submitted instant is aligned at once or
joins the list with the deadline t + 2P, also one whose deadline is past (the model's, log 33), with P the period in force when the
deadline is set (R46); an arrival classifies each item of the list again; an alignment goes to its cell, counted and reported when
held, and to the resistance unit, or is kept for the summary. -/
def Obligations.InterpolatedCurrentLiesBetween : Prop :=
  ((∀ (e f : RingEntry) (t : Time), 0 < timeDiff t e.time → timeDiff t e.time < timeDiff f.time e.time →
    interpolate e f t = e.current + divAway ((f.current - e.current) * timeDiff t e.time) (timeDiff f.time e.time)
    ∧ min e.current f.current ≤ interpolate e f t ∧ interpolate e f t ≤ max e.current f.current)
  ∧ ∀ n d : Int, d ≠ 0 → 2 * (n - divAway n d * d).natAbs ≤ d.natAbs
    ∧ (2 * (n - divAway n d * d).natAbs = d.natAbs → n.natAbs < (divAway n d * d).natAbs))
  ∧ (∀ (s : State) (t : Time),
    let marked := fun (saturated : Bool) (m : AlignMark) => if saturated then AlignMark.saturated else m
    let made := fun (i : Int) (m : AlignMark) => classify s t = some { current := some i, mark := m }
    (s.ana.fault = true ∨ s.ana.ring = [] → classify s t = none)
    ∧ ∀ old new, s.ana.fault = false → s.ana.ring.head? = some old → s.ana.ring.getLast? = some new →
      (isEarlier t old.time = true → made old.current (marked old.saturated .heldOld))
      ∧ (isEarlier t old.time = false → isEarlier new.time t = true → classify s t = none)
      ∧ (isEarlier t old.time = false → isEarlier new.time t = false →
        (∀ l e r, s.ana.ring = l ++ e :: r → (∀ x ∈ l, 0 < timeDiff t x.time) → e.time = t →
          made e.current (marked e.saturated .exact))
        ∧ ∀ l e f r, s.ana.ring = l ++ e :: f :: r → (∀ x ∈ l, 0 < timeDiff t x.time) → 0 < timeDiff t e.time →
          isEarlier t f.time = true → made (interpolate e f t) (marked (e.saturated || f.saturated) .interpolated)))
  ∧ (∀ (s : State) (target : Option Nat) (t : Time),
    (∀ al, classify s t = some al → submitAlign target t s = makeAlignment target al s)
    ∧ (classify s t = none → submitAlign target t s = s.setAln
        (s.aln ++ [{ target := target, instant := t, deadline := t + BitVec.ofNat 32 (2 * s.ana.period) }])))
  ∧ (∀ (s : State) (it : AlignItem) (l : List AlignItem), reclassify [] s = s
    ∧ (classify s it.instant = none → reclassify (it :: l) s = reclassify l s)
    ∧ ∀ al, classify s it.instant = some al →
      reclassify (it :: l) s = reclassify l (makeAlignment it.target al (s.setAln (s.aln.erase it))))
  ∧ ∀ (s : State) (al : Aligned), makeAlignment none al s = s.setSch { s.sch with sumAlign := some al }
    ∧ ∀ i w, i < s.cells.length → s.sch.sweep = some w →
      let c := { s.cell i with current := al.current, mark := some al.mark }
      let taken := s.cells.set i (takeReading s.prof w.source al c)
      let isHeld := al.mark = .heldOld ∨ al.mark = .heldNew ∨ al.mark = .saturated
      (isHeld → makeAlignment (some i) al s = (setCond .alignHeld (occurrence .alignHeld s)).setCells taken)
      ∧ (¬ isHeld → makeAlignment (some i) al s = s.setCells taken)

/-- R62 to R68: what the resistance unit makes of an aligned reading, source and mark first, then the reference (R61: one older than
the maximum age is expired for a reading that comes after the tick, also while its flag has not been set, log 2), then the step,
then the sign and size of the estimate; the filter of R68 moves by a 2^shift-th of the difference. -/
def Obligations.ResistanceOutcomes : Prop :=
  ∀ (p : Profile) (src : SweepSource) (al : Aligned) (c : Cell),
    (src = .sleep → takeReading p src al c = c)
    ∧ (src ≠ .sleep → al.mark = .heldOld ∨ al.mark = .heldNew ∨ al.mark = .saturated →
      takeReading p src al c = { c with rMark := .held })
    ∧ ∀ (v : Nat) (i : Int), src ≠ .sleep → al.mark = .exact ∨ al.mark = .interpolated → c.code = some v → al.current = some i →
      let new := some ({ v := v, i := i, age := 0, expired := false } : Ref)
      (c.ref = none → takeReading p src al c = { c with ref := new, rMark := .noReference })
      ∧ ∀ r, c.ref = some r →
        (r.expired = true ∨ p.refMaxAge < r.age → takeReading p src al c = { c with ref := new, rMark := .noReference })
        ∧ (r.expired = false → r.age ≤ p.refMaxAge → (i - r.i).natAbs < p.minStep → takeReading p src al c = { c with rMark := .smallStep })
        ∧ (r.expired = false → r.age ≤ p.refMaxAge → p.minStep ≤ (i - r.i).natAbs →
          let e := divAway (1000 * ((v : Int) - r.v)) (i - r.i)
          let raw := min 65535 e.toNat
          let filt := match c.rFilt with
            | none => raw
            | some old => ((old : Int) + divAway ((raw : Int) - old) (2 ^ p.filterShift : Nat)).toNat
          (e < 0 → takeReading p src al c = { c with ref := new, rMark := .negative })
          ∧ (0 ≤ e → takeReading p src al c = { c with
              ref := new, rRaw := some raw, rFilt := some filt, rMark := if e ≤ 65535 then .formed else .clamped }))

/-! ## Events: limits, contactors, sequences -/

/-- R74 to R76: a cell's move on its reading. Out of breach, a reading above the OV limit (or out of range) counts toward OV and one
below the UV limit toward UV, each run from its first reading, a breach at the debounce count; a reading inside returns it to
NORMAL. In a breach, readings in the exit band count toward NORMAL and any other starts the count again. The exit band is R74's own,
also where a hysteresis above OV less UV leaves readings of the opposite class outside it (the model's choice against R76's words,
log 40). R77, R78: the evaluation of a sweep moves each written cell once and no other, counts CELL_BREACH_ENTER once for each
entry, sets CELL_OV and CELL_UV by the populated cells in breach, and applies the trip action of each that went from clear to set,
CELL_OV first. R80, R130: an OPEN_ALL action in RUN ends a running sequence with TRIP or opens every contactor, and then replaces
the last-trip record; NONE, and any other mode, do nothing. -/
def Obligations.BreachMovesByDebounce : Prop :=
  (∀ (p : Profile) (c : Cell) (v : Nat), c.code = some v →
    let high := c.range = .outOfRange ∨ p.ovLimit < v
    let low := ¬ high ∧ v < p.uvLimit
    let d := moveBreach p c
    (c.breach ≠ .ov → c.breach ≠ .uv → high →
      let n := if c.breach = .ovPending then c.breachCount + 1 else 1
      d = if p.debounce ≤ n then { c with breach := .ov, breachCount := 0 } else { c with breach := .ovPending, breachCount := n })
    ∧ (c.breach ≠ .ov → c.breach ≠ .uv → low →
      let n := if c.breach = .uvPending then c.breachCount + 1 else 1
      d = if p.debounce ≤ n then { c with breach := .uv, breachCount := 0 } else { c with breach := .uvPending, breachCount := n })
    ∧ (c.breach ≠ .ov → c.breach ≠ .uv → ¬ high → ¬ low → d = { c with breach := .normal, breachCount := 0 })
    ∧ (c.breach = .ov →
      d = if c.range = .normal ∧ v + p.hysteresis ≤ p.ovLimit then
          (if p.debounce ≤ c.breachCount + 1 then { c with breach := .normal, breachCount := 0 }
           else { c with breachCount := c.breachCount + 1 })
        else { c with breachCount := 0 })
    ∧ (c.breach = .uv →
      d = if p.uvLimit + p.hysteresis ≤ v then
          (if p.debounce ≤ c.breachCount + 1 then { c with breach := .normal, breachCount := 0 }
           else { c with breachCount := c.breachCount + 1 })
        else { c with breachCount := 0 }))
  ∧ (∀ (written : List Nat) (s : State), written.Nodup →
    let enters := fun (i : Nat) =>
      let d := moveBreach s.prof (s.cell i)
      (d.breach = .ov ∧ (s.cell i).breach ≠ .ov) ∨ (d.breach = .uv ∧ (s.cell i).breach ≠ .uv)
    let moved := s.setCells ((List.range s.cells.length).map fun i =>
      if i ∈ written then moveBreach s.prof (s.cell i) else s.cell i)
    let a := (occurrence .cellBreachEnter)^[written.countP fun i => decide (enters i)] moved
    let j := liveCond .cellUv (moved.populated.any fun c => c.breach == .uv) (liveCond .cellOv (moved.populated.any fun c => c.breach == .ov) a)
    let ov := s.condSet .cellOv = false ∧ j.condSet .cellOv = true
    let uv := s.condSet .cellUv = false ∧ j.condSet .cellUv = true
    (¬ ov → ¬ uv → limitEvaluate written s = j) ∧ (ov → ¬ uv → limitEvaluate written s = applyTrip .cellOv s.prof.tripOv j)
    ∧ (¬ ov → uv → limitEvaluate written s = applyTrip .cellUv s.prof.tripUv j)
    ∧ (ov → uv → limitEvaluate written s = applyTrip .cellUv s.prof.tripUv (applyTrip .cellOv s.prof.tripOv j)))
  ∧ ∀ (s : State) (cause : TripCause) (action : Bool),
    let trip := some (cause, s.tim.packTime)
    (action = false ∨ s.pwr.mode ≠ .run → applyTrip cause action s = s)
    ∧ (action = true → s.pwr.mode = .run → s.seq.run.isSome = true →
      applyTrip cause action s = (endSequence .trip [] s).setLim { lastTrip := trip })
    ∧ (action = true → s.pwr.mode = .run → s.seq.run = none →
      applyTrip cause action s = (openCmd 3 (openCmd 2 (openCmd 1 (openCmd 0 s)))).setLim { lastTrip := trip })

/-- R95, R98, R99, R101, R103, R106: an accepted change of a channel's feedback, supervision running. In CLOSING an accepted CLOSED
is the make, also when its debounce began before the close command (R97's list and last paragraph, against its words 'treated under
R98': DEDUCED, log 50); in CLOSED an accepted OPEN is DROPOUT; in OPENING an accepted OPEN is the break; in OPEN, settled, an
accepted CLOSED is WELD_SUSPECT. The runner is told, and then the tick's countdowns of the channel go down (the model's order, log
19). Times are from the acceptance, 2000 us after the edge. In every other case, a channel not in use and a faulted one among them,
the accepted level changes and nothing else of the part. R101: a run toward CLOSED that an OPEN sample abandons in OPENING moves the
contactor to OPEN at that tick, with no break time. -/
def Obligations.AcceptedFeedbackMovesTheContactor : Prop :=
  (∀ (s : State) (k : Nat), s.kdr.suspended = false → (s.chan k).acceptDue = true → k < s.kdr.chans.length →
    let c := s.chan k
    let a := { c with closedFb := !c.closedFb, debounce := 0, acceptDue := false }
    let at_ := c.edge + 2000#32
    let mk := min 65535000 (timeDiff at_ c.energizeAt).toNat
    let br := min 65535000 (timeDiff at_ c.releaseAt).toNat
    let ends := fun (t : State) => Host.Outcome.next (finish (t.setChan k (t.chan k).countDown))
    (s.inUse k = true →
      (c.st = .closing → c.closedFb = false →
        exec (.feedbackAccepted k) s = ends (runnerReport k .closed
          (handOn k .closing .closed { make := some mk, brk := none } false c.edge
            (occurrence .contactorClosed (s.setChan k { a with
              st := .closed, superv := none, lastMake := some mk, closes := min 4294967295 (c.closes + 1) })))))
      ∧ (c.st = .closed → c.closedFb = true →
        exec (.feedbackAccepted k) s = ends (runnerReport k .dropout
          (handOn k .closed .dropout { make := none, brk := none } false c.edge
            (s.setChan k { a with
              st := .dropout, coil := .off, releaseAt := s.tim.packTime, pullIn := none, superv := none, settling := none }))))
      ∧ (c.st = .opening → c.closedFb = true →
        exec (.feedbackAccepted k) s = ends (runnerReport k .opened
          (handOn k .opening .opened { make := none, brk := some br } c.underLoad c.edge
            (s.setChan k { a with st := .opened, superv := none, lastBreak := some br }))))
      ∧ (c.st = .opened → c.closedFb = false → c.settling = none →
        exec (.feedbackAccepted k) s = ends (runnerReport k .weldSuspect
          (handOn k .opened .weldSuspect { make := none, brk := none } false c.edge
            (s.setChan k { a with st := .weldSuspect, pullIn := none, superv := none, settling := none })))))
    ∧ (s.inUse k = false ∨ (c.st = .closing ∧ c.closedFb = true) ∨ (c.st = .closed ∧ c.closedFb = false)
        ∨ (c.st = .opening ∧ c.closedFb = false) ∨ (c.st = .opened ∧ (c.closedFb = true ∨ c.settling.isSome = true))
        ∨ c.st = .closeFailed ∨ c.st = .dropout ∨ c.st = .weldSuspect →
      exec (.feedbackAccepted k) s = .next (finish (s.setChan k { a with
        pullIn := c.pullIn.map (· - 1), superv := c.superv.map (· - 1), settling := c.settling.map (· - 1) }))))
  ∧ ∀ (s : State) (k : Nat), k < s.kdr.chans.length →
    let c := s.chan k
    let closed := if (s.chanCfg k).polarity = .highClosed then s.pins.feedback.getLsbD k else !s.pins.feedback.getLsbD k
    c.st = .opening → c.closedFb = false → 0 < c.debounce → closed = false →
    let t := runnerReport k .opened (handOn k .opening .opened { make := none, brk := none } c.underLoad s.tim.packTime
      (s.setChan k { c with st := .opened, superv := none, debounce := 0, acceptDue := false }))
    tickChan k s = t.setChan k (t.chan k).countDown

/-- R94, R97, R101, R103, R107: the ends of a channel's countdowns. The pull-in's end is HOLD; the make max's in CLOSING is CLOSE_FAILED
with the coil released; the break max's in OPENING is WELD_SUSPECT; the settling's is WELD_SUSPECT for an in-use channel with closed
feedback still OPEN, and nothing more otherwise. -/
def Obligations.ChannelCountdownsEnd : Prop :=
  ∀ (s : State) (k : Nat), k < s.kdr.chans.length →
    let c := s.chan k
    let none2 : Times := { make := none, brk := none }
    (c.coil = .pullIn → c.pullIn = some 0 →
      exec (.pullInEnd k) s = .next (finish (s.setChan k { c with coil := .hold, pullIn := none })))
    ∧ (c.st = .closing → c.superv = some 0 →
      exec (.makeMaxExpiry k) s = .next (finish (runnerReport k .closeFailed
        (handOn k .closing .closeFailed none2 false s.tim.packTime (s.setChan k { c with
          st := .closeFailed, coil := .off, releaseAt := s.tim.packTime, pullIn := none, superv := none, settling := none })))))
    ∧ (c.st = .opening → c.superv = some 0 →
      exec (.breakMaxExpiry k) s = .next (finish (runnerReport k .weldSuspect
        (handOn k .opening .weldSuspect none2 c.underLoad s.tim.packTime (s.setChan k { c with
          st := .weldSuspect, pullIn := none, superv := none, settling := none })))))
    ∧ (c.settling = some 0 → s.inUse k = true → c.closedFb = true → c.st = .opened →
      exec (.settlingEnd k) s = .next (finish (runnerReport k .weldSuspect
        (handOn k .opened .weldSuspect none2 false s.tim.packTime (s.setChan k { c with
          st := .weldSuspect, pullIn := none, superv := none, settling := none })))))
    ∧ (c.settling = some 0 → s.inUse k = false ∨ c.closedFb = false ∨ c.st ≠ .opened →
      exec (.settlingEnd k) s = .next (finish (s.setChan k { c with settling := none })))

/-- R96, R100, R128, R129: an open command to every channel leaves no in-use channel in CLOSING or CLOSED; the end of a sequence
without success does that, withdraws an event request that is outstanding (a pending launch goes, a granted sweep is unreported,
R8), offers the fault-class SEQUENCE record, counts SEQ_FAILED and sets it, records the outcome, and leaves the runner IDLE. R93,
R97: a close command is taken by an in-use OPEN contactor alone: coil in PULL_IN, its countdowns loaded. R100 to R102: an open
command is taken by an in-use contactor in CLOSING or CLOSED alone: the coil released, the break max loaded; from CLOSED with the
newest entry's current at or above the limit it is a hard break, flagged and counted, and an empty ring finds none, also at a limit
of 0 (the model's choice, log 41); with the feedback open and no closing change the contactor is OPEN at once. R104, R105: what a
transition hands on; that the CONTACTOR record holds the whole nearest ring entry, with its time and saturated mark, is the model's
choice (log 20). -/
def Obligations.EndingASequenceOpensTheContactors : Prop :=
  (∀ (s : State) (k : Nat), k < 4 → s.kdr.chans.length = 4 → s.inUse k = true →
    ((openEvery s).chan k).st ≠ .closing ∧ ((openEvery s).chan k).st ≠ .closed)
  ∧ (∀ (s : State) (r : Run) (reason : SeqReason) (terms : List GateTerm), s.seq.run = some r →
    let t := endSequence reason terms s
    let o := openCmd 3 (openCmd 2 (openCmd 1 (openCmd 0 s)))
    let ends := fun (u : State) =>
      t = (setCond .seqFailed (occurrence .seqFailed (offerRecord true (.sequence r.id (some (r.idx, reason)) s.tim.packTime) u))).setSeq
        { run := none, last := some (.failed r.id s.tim.packTime r.idx reason terms) }
    (r.eventReq = false → ends o)
    ∧ (r.eventReq = true →
      (∀ m, s.sch.pendEvent = some m → ends (o.setSch { s.sch with pendEvent := none }))
      ∧ (∀ w, s.sch.pendEvent = none → s.sch.sweep = some w → w.source = .event → w.stage ≠ .done →
          ends (o.setSch { s.sch with sweep := some { w with unreported := true } }))
      ∧ (s.sch.pendEvent = none → (∀ w, s.sch.sweep = some w → w.source ≠ .event ∨ w.stage = .done) → ends o))
    ∧ t.seq = { run := none, last := some (.failed r.id s.tim.packTime r.idx reason terms) } ∧ t.condSet .seqFailed = true
    ∧ t.kdr = (openEvery s).kdr ∧ t.tim = s.tim ∧ t.cells = s.cells ∧ t.chn = s.chn)
  ∧ (∀ (s : State) (k : Nat),
    let c := s.chan k
    (s.inUse k = true → c.st = .opened → closeCmd k s = s.setChan k { c with
      st := .closing, coil := .pullIn, pullIn := some (s.chanCfg k).pullIn, energizeAt := s.tim.packTime,
      superv := some (s.chanCfg k).makeMax, underLoad := false })
    ∧ (s.inUse k = false ∨ c.st ≠ .opened → closeCmd k s = s)
    ∧ (s.inUse k = false ∨ (c.st ≠ .closing ∧ c.st ≠ .closed) → openCmd k s = s)
    ∧ (s.inUse k = true → k < s.kdr.chans.length → c.st = .closing ∨ c.st = .closed →
      let hard := c.st = .closed ∧ ∃ e, s.ana.ring.getLast? = some e ∧ s.prof.hardBreakLimit ≤ e.current.natAbs
      let rel := { c with
        st := .opening, coil := .off, pullIn := none, releaseAt := s.tim.packTime, superv := some (s.chanCfg k).breakMax, underLoad := false }
      let loaded := { rel with underLoad := true, hardBreaks := min 4294967295 (c.hardBreaks + 1) }
      let atOnce := fun (x : Chan) (t : State) => handOn k .opening .opened { make := none, brk := none } x.underLoad s.tim.packTime
        (t.setChan k { x with st := .opened, superv := none })
      let free := c.closedFb = false ∧ c.debounce = 0
      (hard → ¬ free → openCmd k s = occurrence .hardBreak (s.setChan k loaded))
      ∧ (hard → free → openCmd k s = atOnce loaded (occurrence .hardBreak (s.setChan k loaded)))
      ∧ (¬ hard → ¬ free → openCmd k s = s.setChan k rel)
      ∧ (¬ hard → free → openCmd k s = atOnce rel (s.setChan k rel))))
  ∧ ∀ (s : State) (k : Nat) (left entered : KState) (times : Times) (hard : Bool) (instant : Time),
    let fault := entered = .closeFailed ∨ entered = .dropout ∨ entered = .weldSuspect
    let told := offerRecord (decide fault)
      (.contactor k left entered s.tim.packTime times.make times.brk hard (s.nearest instant)) s
    handOn k left entered times hard instant s = liveCond .contactorFault
      (s.kdr.chans.any fun c => c.st == .closeFailed || c.st == .dropout || c.st == .weldSuspect) told

/-- R119: the end of the step timer. A WAIT is over and the next step starts; an AWAIT_LINK fails with LINK_TIMEOUT, an AWAIT_DECAY with
DECAY_TIMEOUT. R117: the five terms of the closing gate. R118 to R126: the start of each kind of step, from a run at an index: what it
does, and whether it waits, goes on to the next step or past it, fails or ends the sequence. R120, R121, R127: the drivers' report of a
channel's new state: a fault ends the run with the reason of the step that waits for it or with FAULT, an awaited OPEN or CLOSED goes on.
R122, R123: a ring arrival at an AWAIT step. The arbiter's choice after the steps is the model's order (log 11). -/
def Obligations.StepTimerEndsTheStep : Prop :=
  (∀ (s : State) (r : Run), s.seq.run = some r → r.timer = some 0 →
    let step := (s.prof.sequences.getD r.id [])[r.idx]?
    (∀ n, step = some (.wait n) → exec .stepTimerExpiry s = .next (finish (proceed (r.idx + 1) s)))
    ∧ (∀ p n, step = some (.awaitLink p n) → exec .stepTimerExpiry s = .next (finish (endSequence .linkTimeout [] s)))
    ∧ (∀ p n, step = some (.awaitDecay p n) → exec .stepTimerExpiry s = .next (finish (endSequence .decayTimeout [] s))))
  ∧ (∀ s : State,
    (gatePasses s .allFresh = true ↔ ∀ c ∈ s.populated, c.fresh = true)
    ∧ (gatePasses s .noBreach = true ↔ ∀ c ∈ s.populated, c.breach ≠ .ov ∧ c.breach ≠ .uv)
    ∧ (gatePasses s .noContactorFault = true ↔ ∀ c ∈ s.kdr.chans, c.st ≠ .closeFailed ∧ c.st ≠ .dropout ∧ c.st ≠ .weldSuspect)
    ∧ (gatePasses s .noOverCurrent = true ↔ s.ana.overCurrent = false) ∧ (gatePasses s .noActivation = true ↔ s.upd.act = .none)
    ∧ ∀ idx, proceed idx s = arbiter (runSteps 13 idx s))
  ∧ (∀ (s : State) (r : Run) (n idx : Nat), s.seq.run = some r →
    let start := runSteps (n + 1) idx s
    let step := (s.prof.sequences.getD r.id [])[idx]?
    let q : Run := { r with idx := idx, start := s.tim.packTime, timer := none, awaited := .nothing, tested := false }
    let e := s.setSeq { s.seq with run := some q }
    let waits := fun (x : Run) (t : State) => t.setSeq { s.seq with run := some x }
    let failing := [GateTerm.allFresh, .noBreach, .noContactorFault, .noOverCurrent, .noActivation].filter fun t => !gatePasses s t
    let last := s.ana.ring.getLast?
    (step = none → start = s)
    ∧ (∀ k, step = some (.close k) →
      let awaits := { q with awaited := .contactor k }
      (failing ≠ [] → start = endSequence .gate failing e)
      ∧ (failing = [] → (s.chan k).st = .opened → start = waits awaits (closeCmd k e))
      ∧ (failing = [] → (s.chan k).st = .closed → start = runSteps n (idx + 1) e)
      ∧ (failing = [] → (s.chan k).st = .closing ∨ (s.chan k).st = .opening → start = waits awaits e))
    ∧ (∀ k, step = some (.opn k) →
      let awaits := { q with awaited := .contactor k }
      let o := openCmd k e
      ((s.chan k).st = .closing ∨ (s.chan k).st = .closed → (o.chan k).st = .opened → start = runSteps n (idx + 1) o)
      ∧ ((s.chan k).st = .closing ∨ (s.chan k).st = .closed → (o.chan k).st ≠ .opened → start = waits awaits o)
      ∧ ((s.chan k).st = .opening → start = waits awaits e)
      ∧ ((s.chan k).st = .opened → start = runSteps n (idx + 1) e)
      ∧ ((s.chan k).st = .closeFailed ∨ (s.chan k).st = .dropout ∨ (s.chan k).st = .weldSuspect → start = endSequence .fault [] e))
    ∧ (∀ t, step = some (.wait t) → start = waits { q with timer := some t, awaited := .timer } e)
    ∧ (∀ p t (link : Bool), step = some (if link then .awaitLink p t else .awaitDecay p t) →
      let a := { q with timer := some t, awaited := .arrival }
      let holds := fun (x : RingEntry) => if link then p * x.pack ≤ 100 * x.link else 100 * x.link ≤ p * x.pack
      (s.ana.fault = true ∨ last = none → start = waits a e)
      ∧ ∀ x, s.ana.fault = false → last = some x →
        (x.pack < 500 → start = endSequence .noPackVoltage [] (waits a e))
        ∧ (500 ≤ x.pack → holds x → start = runSteps n (idx + 1) (waits a e))
        ∧ (500 ≤ x.pack → ¬ holds x → start = waits { a with tested := true } e))
    ∧ (∀ p, step = some (.skipIf (.linkAtLeast p)) →
      (s.ana.fault = true ∨ last = none → start = runSteps n (idx + 1) e)
      ∧ ∀ x, s.ana.fault = false → last = some x →
        (x.pack < 500 → start = endSequence .noPackVoltage [] e)
        ∧ (500 ≤ x.pack → start = runSteps n (if p * x.pack ≤ 100 * x.link then idx + 2 else idx + 1) e))
    ∧ (∀ k, step = some (.skipIf (.closed k)) → start = runSteps n (if (s.chan k).st = .closed then idx + 2 else idx + 1) e)
    ∧ (∀ k, step = some (.skipIf (.opened k)) → start = runSteps n (if (s.chan k).st = .opened then idx + 2 else idx + 1) e)
    ∧ (step = some (.skipIf .allFresh) → start = runSteps n (if gatePasses s .allFresh then idx + 2 else idx + 1) e)
    ∧ (step = some .sweep → start = waits { q with awaited := .sweep, eventReq := true }
        (s.setSch { s.sch with pendEvent := some (popMask s.prof) }))
    ∧ (step = some .endSeq → start = (setCond .seqDone (offerRecord false (.sequence r.id none s.tim.packTime) e)).setSeq
        { run := none, last := some (.done r.id s.tim.packTime) }))
  ∧ (∀ (s : State) (k : Nat) (entered : KState),
    let fault := entered = .closeFailed ∨ entered = .dropout ∨ entered = .weldSuspect
    (s.seq.run = none → runnerReport k entered s = s)
    ∧ ∀ r, s.seq.run = some r →
      let step := (s.prof.sequences.getD r.id [])[r.idx]?
      let closes := (∃ j, step = some (.close j)) ∧ r.awaited = .contactor k
      let opens := (∃ j, step = some (.opn j)) ∧ r.awaited = .contactor k
      let fails := fun (reason : SeqReason) => runnerReport k entered s = endSequence reason [] s
      (closes → entered = .closeFailed → fails .closeFailed) ∧ (opens → entered = .weldSuspect → fails .weldSuspect)
      ∧ (fault → ¬ (closes ∧ entered = .closeFailed) → ¬ (opens ∧ entered = .weldSuspect) → fails .fault)
      ∧ (closes → entered = .closed → runnerReport k entered s = proceed (r.idx + 1) s)
      ∧ (closes → entered = .opened → runnerReport k entered s = proceed r.idx s)
      ∧ (opens → entered = .opened → runnerReport k entered s = proceed (r.idx + 1) s)
      ∧ (¬ fault → r.awaited ≠ .contactor k → runnerReport k entered s = s))
  ∧ ∀ (s : State) (r : Run) (x : RingEntry) (p t : Nat) (link : Bool), s.seq.run = some r → r.awaited = .arrival →
    (s.prof.sequences.getD r.id [])[r.idx]? = some (if link then .awaitLink p t else .awaitDecay p t) →
    let holds := if link then p * x.pack ≤ 100 * x.link else 100 * x.link ≤ p * x.pack
    (r.tested = false → x.pack < 500 → runnerArrival x s = endSequence .noPackVoltage [] s)
    ∧ (r.tested = true ∨ 500 ≤ x.pack →
      (holds → runnerArrival x s = proceed (r.idx + 1) s)
      ∧ (¬ holds → runnerArrival x s = s.setSeq { s.seq with run := some { r with tested := true } }))

/-! ## Events: power, nonvolatile memory, tamper -/

/-- R45, R160 to R165: the sleep timer's expiry begins a sleep sweep with the chain and the channels powering up; the first sampling
instant one period on (the period in force, also when a switch to a new one has met no sampling instant: the model's choice, log
45); a HOST arrival in SLEEP begins WAKING with the causes that are pending, in SLEEP_SWEEP it is kept for the sweep's end, and
elsewhere it does nothing (the model's, log 29); the WAKE pulse ends. R36, R164: WAKING begins with its wake-cause set, the
contactors' supervision resumed, the receiver in its idle wait, and the two power-up requests: from SLEEP both are waited for; from
SLEEP_SWEEP, with the chain IDLE and the channels sampling, the chain is ready at once and the channels report after two more
entries of an emptied ring. In SLEEP_SWEEP the second of the two power reports launches the sweep of the sleep-eligible slots'
union, and an empty union goes to the decision. The judgement gathers the breach kinds of the written cells under the sleep limits,
and CHAIN for a position not received. The decision wakes the part, or returns it to SLEEP with chain and channels powered down, a
ready report still owed being dropped (the model's choice, log 34). WAKING goes from the two reports to the enumeration, and from
its end, in one event, through the loss of every reference, the restored enables and schedule, the WAKE pulse of a tamper or a
breach, WOKE and the notice flag, to RUN, which the model enters in the event in which the pulse begins (its choice, log 49). That
the NV engine, WAKING and the transmit path go on in this order at the end of an event is the model's choice (log 12). The first
IDENT's window ends 420 us on (the model's count, log 13). -/
def Obligations.SleepTimerHostArrivalWakePulse : Prop :=
  (∀ s : State, s.pwr.mode = .sleep → s.pwr.sleepTimer = some 0 → s.chn.st = .poweredDown → s.ana.sampling = false →
    exec .sleepTimerExpiry s = .next (finish
      (((s.setChn { s.chn with st := .powering, powerUpEnd := some (s.tim.packTime + 5000#32), readyOwed := true }).setAna { s.ana with
          sampling := true, nextInstant := s.tim.packTime + BitVec.ofNat 32 s.ana.period, ring := [], readyOwed := some 2,
          latestAbove := none }).setPwr { s.pwr with
        mode := .sleepSweep, level2 := true, gathered := noBreaches, waitChain := true, waitAna := true })))
  ∧ (∀ s : State, s.pwr.mode = .sleep → s.chn.st = .poweredDown → s.ana.sampling = false →
    exec .hostArrival s = .next (finish
      (((((s.setKdr { s.kdr with
          suspended := false
          chans := s.kdr.chans.map fun c => { c with closedFb := false, debounce := 0, acceptDue := false } }).setPli { s.pli with
          rx := .idleWait (s.tim.packTime + 1000#32) }).setChn { s.chn with
          st := .powering, powerUpEnd := some (s.tim.packTime + 5000#32), readyOwed := true }).setAna { s.ana with
          sampling := true, nextInstant := s.tim.packTime + BitVec.ofNat 32 s.ana.period, ring := [], readyOwed := some 2,
          latestAbove := none }).setPwr { s.pwr with
        mode := .waking, lastWake := some { host := true, tamper := s.pwr.pendTamper, breach := none }, pendHost := false,
        pendTamper := false, sleepTimer := none, wakeStage := 1, waitChain := true, waitAna := true })))
  ∧ (∀ (w : WakeSet) (s : State),
    let woken := fun (chn : Chn) (ana : Ana) (waitChain : Bool) =>
      ((((s.setKdr { s.kdr with
          suspended := false
          chans := s.kdr.chans.map fun c => { c with closedFb := false, debounce := 0, acceptDue := false } }).setPli { s.pli with
          rx := .idleWait (s.tim.packTime + 1000#32) }).setChn chn).setAna { ana with
          ring := [], readyOwed := some 2, latestAbove := none }).setPwr { s.pwr with
        mode := .waking, lastWake := some w, pendHost := false, pendTamper := false, sleepTimer := none, wakeStage := 1,
        waitChain := waitChain, waitAna := true }
    (s.chn.st = .idle → s.ana.sampling = true → beginWaking w s = woken s.chn s.ana false)
    ∧ (s.chn.st = .poweredDown → s.ana.sampling = false →
      beginWaking w s = woken
        { s.chn with st := .powering, powerUpEnd := some (s.tim.packTime + 5000#32), readyOwed := true }
        { s.ana with sampling := true, nextInstant := s.tim.packTime + BitVec.ofNat 32 s.ana.period } true))
  ∧ (∀ s : State, s.pwr.mode = .sleepSweep → exec .hostArrival s = .next (finish (s.setPwr { s.pwr with pendHost := true })))
  ∧ (∀ s : State, s.pwr.mode ≠ .sleep → s.pwr.mode ≠ .sleepSweep → exec .hostArrival s = .next (finish s))
  ∧ (∀ (s : State) (u : Time), s.pwr.wakePulse = some u →
    exec .wakePulseEnd s = .next (finish ((advanceTo u s).setPwr { s.pwr with wakePulse := none })))
  ∧ (∀ s : State, s.pwr.mode = .sleepSweep →
    let c := s.setPwr { s.pwr with waitChain := false }
    let a := s.setPwr { s.pwr with waitAna := false }
    (s.pwr.waitAna = true → chainReport s = c) ∧ (s.pwr.waitAna = false → chainReport s = sleepLaunch c)
    ∧ (s.pwr.waitChain = true → anaReport s = a) ∧ (s.pwr.waitChain = false → anaReport s = sleepLaunch a)
    ∧ (∀ k, k < 12 → (sleepMask s.prof).getLsbD k = s.prof.slots.any fun x =>
        x.enabled && x.sleepEligible && (if x.full then popMask s.prof else x.mask &&& popMask s.prof).getLsbD k)
    ∧ (sleepMask s.prof = 0 → sleepLaunch s = sleepDecision s)
    ∧ (sleepMask s.prof ≠ 0 → sleepLaunch s = grant .sleep (sleepMask s.prof) s))
  ∧ (∀ (w : SweepRec) (s : State),
    let written := maskCells s.prof w.received
    let some_ := fun (f : Cell → Nat → Bool) => written.any fun i => f (s.cell i) ((s.cell i).code.getD 0)
    sleepJudge w s = (occurrence .sleepSweep s).setPwr { s.pwr with gathered := {
      ov := s.pwr.gathered.ov || some_ fun c v => c.range == .outOfRange || decide (s.prof.sleepOv < v)
      uv := s.pwr.gathered.uv || some_ fun _ v => decide (v < s.prof.sleepUv)
      selfDischarge := s.pwr.gathered.selfDischarge || some_ fun c v => c.sleepRef.any fun r => decide (v + s.prof.selfDischarge < r)
      chain := s.pwr.gathered.chain || w.requested &&& ~~~w.received != 0 } })
  ∧ (∀ s : State, s.pwr.mode = .sleepSweep →
    (s.pwr.gathered ≠ noBreaches ∨ s.pwr.pendHost = true ∨ s.pwr.pendTamper = true →
      sleepDecision s = beginWaking
        { host := s.pwr.pendHost, tamper := s.pwr.pendTamper,
          breach := if s.pwr.gathered = noBreaches then none else some s.pwr.gathered } s)
    ∧ (s.pwr.gathered = noBreaches → s.pwr.pendHost = false → s.pwr.pendTamper = false → s.chn.st = .idle →
      let d := s.setChn { s.chn with st := .poweredDown, downWanted := false }
      let e := d.setAna { s.ana with
        sampling := false, outstanding := none, ring := [], lost := 0, fault := false, overCurrent := false, run := 0,
        latestAbove := none, readyOwed := none }
      sleepDecision s = (clearCond .overCurrent (clearCond .analogFault e)).setPwr { s.pwr with
        sleepTimer := some s.prof.sleepPeriod, divider := 0, level2 := false, mode := .sleep }))
  ∧ ∀ s : State, s.pwr.mode = .waking →
    (s.upd.act ≠ .owed → finish s = linkPump (wakeProgress (nvBegin s)))
    ∧ (s.pwr.wakeStage = 1 → s.pwr.waitChain = true ∨ s.pwr.waitAna = true → wakeProgress s = s)
    ∧ (s.pwr.wakeStage = 1 → s.pwr.waitChain = false → s.pwr.waitAna = false →
      wakeProgress s = (s.setPwr { s.pwr with wakeStage := 2 }).setChn { s.chn with
        st := .enumerating, wait := .ident 0 (s.tim.packTime + 420#32) })
    ∧ (s.pwr.wakeStage = 2 → s.chn.st ≠ .idle → wakeProgress s = s)
    ∧ (s.pwr.wakeStage = 2 → s.chn.st = .idle →
      let a := (s.setCells (s.cells.map fun c => { c with ref := none, sleepRef := none })).setPwr { s.pwr with
        level1 := none, level2 := false }
      let goesOn := fun (b : State) =>
        let pulse := ∃ w, s.pwr.lastWake = some w ∧ (w.tamper = true ∨ w.breach.isSome = true)
        ((pulse → wakeProgress s = (setCond .woke b).setPwr { a.pwr with
            wakePulse := some (s.tim.packTime + 2000#32), wokeFlag := true, mode := .run, wakeStage := 0 })
         ∧ (¬ pulse → wakeProgress s = (setCond .woke b).setPwr { a.pwr with wokeFlag := true, mode := .run, wakeStage := 0 }))
      (s.pwr.level1 = none → goesOn (releaseSched false a))
      ∧ ∀ run e, s.pwr.level1 = some (run, e) → goesOn (releaseSched run (replaceEnables e a)))

/-- R172, R173, R181, R184, R187 to R189: the end of a step of the NV engine. The step's page holds what the table of operations
gives it, a body page the 64 staged bytes from its place on, and every other page is as it was. A commit with no stop asked goes
from the erase through the body pages and the header to the generation, and at the last its bank is VALID and pending and the update
is over; with a stop asked it ends FAILED at the end of the step, and after the generation its bank is invalidated. Each anchor
write puts its slot in force; an activation's makes the switch owed; a clear write clears the latch unless it is void, and a void
one leaves a request made since as it stands (the model's choice, log 44). A wear save notes its time; an invalidation writes an
erased generation page (the model's choice, log 42) and makes its bank INCOMPLETE. The engine begins, with nothing in flight and not
in SLEEP, the oldest tamper-class operation, else the oldest, and captures what the operation writes. -/
def Obligations.NvStepEndWritesAndGoesOn : Prop :=
  (∀ (s : State) (f : NvFlight), s.nvs.flight = some f →
    let s1 := advanceTo f.ends s
    let blank := NvPage.data (List.replicate 64 0xFF)
    let bank := fun (x : AB) (b : BankMem) => s.nvs.mem.setBank x b
    let mem : NvMem := match f.step with
      | .erase x => bank x { header := blank, body := List.replicate 64 blank, gen := blank }
      | .body x i => bank x { s.nvs.mem.bank x with
          body := (s.nvs.mem.bank x).body.set i (.data ((List.range 64).map fun j =>
            if 64 * i + j < s.upd.length then Memory.read s.upd.staging (64 * i + j) else 0xFF)) }
      | .header x => bank x { s.nvs.mem.bank x with header := headerPage s.upd.version s.upd.length s.upd.tag }
      | .gen x g => bank x { s.nvs.mem.bank x with gen := genPage g }
      | .wipeGen x => bank x { s.nvs.mem.bank x with gen := blank }
      | .anchor .a c => { s.nvs.mem with anchorA := anchorPage c }
      | .anchor .b c => { s.nvs.mem with anchorB := anchorPage c }
      | .wear .a w => { s.nvs.mem with wearA := wearPage w }
      | .wear .b w => { s.nvs.mem with wearB := wearPage w }
    let ended := s1.setNvs { s.nvs with mem := mem, flight := none }
    let goesOn := fun (st : NvStep) =>
      exec .nvStepComplete s = .next (finish (s1.setNvs { s.nvs with
        mem := mem, flight := some { f with step := st, ends := f.ends + 4000#32 } }))
    let answers := fun (t : State) => exec .nvStepComplete s = .next (finish t)
    let failed := fun (t : State) => offerRecord false (.update .failed s.upd.version (some .tamper))
      (setCond .updateFailed (t.setUpd { s.upd with st := .idle, staging := [], received := 0, target := none, stop := false }))
    let pages := (s.upd.length + 63) / 64
    (∀ x g, f.op = .bankCommit x g → s.upd.stop = false →
      (f.step = .erase x → 0 < pages → goesOn (.body x 0))
      ∧ (∀ i, f.step = .body x i → goesOn (if i + 1 < pages then .body x (i + 1) else .header x))
      ∧ (f.step = .header x → goesOn (.gen x g))
      ∧ (f.step = .gen x g →
          answers (offerRecord false (.update .committed s.upd.version none)
            (setCond .updateDone ((setBankStatus x .valid ended).setUpd { s.upd with
              mark := some { bank := x, version := s.upd.version, gen := g }, staging := [], received := 0, target := none,
              st := .idle })))))
    ∧ (∀ x g, f.op = .bankCommit x g → s.upd.stop = true →
      (f.step = .erase x ∨ (∃ i, f.step = .body x i) ∨ f.step = .header x → answers (failed ended))
      ∧ (f.step = .gen x g → s.nvs.queue.length < 6 →
          let e := setBankStatus x .valid ended
          answers (failed (e.setNvs { e.nvs with queue := s.nvs.queue ++ [.invalidate x] }))))
    ∧ (∀ slot c, f.step = .anchor slot c →
        let e := anchorInForce slot c ended
        (f.op = .anchorTamper ∨ (∃ x v g, f.op = .anchorSelect x v g) → answers e)
        ∧ (∀ x v g, f.op = .anchorActivate x v g → answers (e.setUpd { s.upd with act := .owed }))
        ∧ (f.op = .anchorClear → f.void = false →
          answers (clearCond .tamper (e.setTmp { s.tmp with latch := false, clearReq := false, clearSt := .none })))
        ∧ (f.op = .anchorClear → f.void = true →
          answers (e.setTmp { s.tmp with clearSt := if s.tmp.clearSt = .void then .none else s.tmp.clearSt })))
    ∧ (∀ page w, f.op = .wearSave → f.step = .wear page w →
        answers ((ended.setNvs { ended.nvs with curWear := page, curWearSeq := w.seq }).setKdr { s.kdr with
          lastSave := some s1.tim.packTime, wearSave := if s.kdr.wearSave = .writing then .idle else s.kdr.wearSave }))
    ∧ (∀ x, f.op = .invalidate x → f.step = .wipeGen x → answers (setBankStatus x .incomplete ended)))
  ∧ (∀ (s : State) (slot : AB) (c : Anchor),
    let st := fun (x : AB) =>
      if s.bankStatus x = .valid ∧ (readHeader (s.nvs.mem.bank x).header).any (fun r => decide (r.1 < c.floor)) = true then .belowFloor
      else s.bankStatus x
    anchorInForce slot c s = s.setNvs { s.nvs with anchor := c, curAnchor := slot, statusA := st .a, statusB := st .b })
  ∧ ∀ s : State,
    let urgent := fun (o : NvOp) => o = .anchorTamper ∨ ∃ x, o = .invalidate x
    (s.nvs.flight.isSome = true ∨ s.pwr.mode = .sleep ∨ s.nvs.queue = [] → nvBegin s = s)
    ∧ ∀ l op r, s.nvs.flight = none → s.pwr.mode ≠ .sleep → s.nvs.queue = l ++ op :: r →
      (urgent op ∧ ∀ o ∈ l, ¬ urgent o) ∨ (l = [] ∧ ∀ o ∈ op :: r, ¬ urgent o) →
      let began := fun (st : NvStep) (n : Nat) => s.setNvs { s.nvs with
        queue := l ++ r, flight := some { op := op, step := st, ends := s.tim.packTime + BitVec.ofNat 32 n, void := false } }
      let c : Anchor := { seq := s.nvs.anchor.seq + 1, floor := s.nvs.anchor.floor, activeGen := s.nvs.anchor.activeGen,
                          latched := s.tmp.latch, count := s.tmp.count }
      let anchor := fun (a : Anchor) => began (.anchor s.nvs.curAnchor.other a) 4000
      (∀ x g, op = .bankCommit x g →
        let b := setBankStatus x .incomplete (began (.erase x) 20000)
        ((∃ m, s.upd.mark = some m ∧ m.bank = x) → nvBegin s = b.setUpd { s.upd with mark := none })
        ∧ ((∀ m, s.upd.mark = some m → m.bank ≠ x) → nvBegin s = b))
      ∧ (op = .anchorTamper → nvBegin s = anchor c)
      ∧ (∀ x v g, op = .anchorSelect x v g → nvBegin s = anchor { c with floor := v, activeGen := g })
      ∧ (∀ x v g, op = .anchorActivate x v g →
          nvBegin s = (anchor { c with floor := v, activeGen := g }).setUpd { s.upd with act := .writing, mark := none })
      ∧ (op = .anchorClear → nvBegin s = (anchor { c with latched := false }).setTmp { s.tmp with clearSt := .inFlight })
      ∧ (op = .wearSave →
          nvBegin s = (began (.wear s.nvs.curWear.other
            { seq := s.nvs.curWearSeq + 1, counts := s.kdr.chans.map fun x => (x.closes, x.hardBreaks) }) 4000).setKdr
            { s.kdr with wearSave := .writing })
      ∧ ∀ x, op = .invalidate x → nvBegin s = began (.wipeGen x) 4000

/-- R180, R181: the completion of a verification. A tag that is not the image's ends the update with TAG, an image that fails
validation with INVALID, a full queue with NV_BUSY; otherwise the commit waits in the NV engine's queue with its bank and
generation. With no verification in progress it does nothing beyond the end of the event (log 2). What the tag function gives is the
part's own (log 7). The target is the bank that is not active; under the factory profile the pending bank, else the one with the
lower generation, A on a tie. The generation is one more than the greatest of the two complete banks' and the anchor's; past 2^32 -
1 the spec gives none (log 16). R114, R177, R205: an image that validates has the length its step counts give, spells each field of
its profile at the place of the layout, and holds every range and cross-term; one that breaks a range or a cross-term does not
validate. Bytes whose length is the one that their step counts give, with every step count at most 12, every code in its list, every
flag byte 0 or 1 and no enable beyond the 22 conditions spell a profile, and no others do or validate. That a flag byte of its own
above 1 and a code beyond its list break a range, and that reserved bits of flag and mask bytes are ignored, is read from the rules
(DEDUCED, log 17), and that the image's numbers stand low byte first is read from R202 (DEDUCED, log 47). The codes of the event
kinds are SetCounterAndClearOverflow's. -/
def Obligations.VerificationEndsOrCommits : Prop :=
  (∀ s : State, s.upd.st = .verifying →
    let img := Memory.readBytes s.upd.staging 0 s.upd.length
    let fails := fun (reason : UpdReason) =>
      exec .verificationComplete s = .next (finish (offerRecord false (.update .failed s.upd.version (some reason))
        (setCond .updateFailed (s.setUpd { s.upd with st := .idle, staging := [], received := 0, target := none, stop := false }))))
    let ok := Config.profileTag img = s.upd.tag
    (¬ ok → fails .tag)
    ∧ (ok → validImage img = none → fails .invalid)
    ∧ (ok → validImage img ≠ none → 4 ≤ s.nvs.queue.length → fails .nvBusy)
    ∧ (ok → validImage img ≠ none → s.nvs.queue.length < 4 →
        exec .verificationComplete s = .next (finish
          ((s.setNvs { s.nvs with queue := s.nvs.queue ++ [.bankCommit (commitTarget s) (commitGen s)] }).setUpd { s.upd with
            st := .committing, target := some (commitTarget s, commitGen s), stop := false }))))
  ∧ (∀ s : State, s.upd.st ≠ .verifying → exec .verificationComplete s = .next (finish s))
  ∧ (∀ s : State,
    let gen := fun (x : AB) => if s.bankStatus x = .incomplete then 0 else (readGen (s.nvs.mem.bank x).gen).getD 0
    let top := max (max (gen .a).toNat (gen .b).toNat) s.nvs.anchor.activeGen.toNat
    (∀ x, s.nvs.active = some x → commitTarget s ≠ x)
    ∧ (∀ m, s.nvs.active = none → s.upd.mark = some m → commitTarget s = m.bank)
    ∧ (s.nvs.active = none → s.upd.mark = none → (gen .b < gen .a → commitTarget s = .b) ∧ (gen .a ≤ gen .b → commitTarget s = .a))
    ∧ (top < 2 ^ 32 - 1 → (commitGen s).toNat = top + 1) ∧ (top = 2 ^ 32 - 1 → commitGen s = Config.generationPastEnd))
  ∧ (∀ (bs : List Byte) (p : Profile), decodeImage bs = some p →
    let n := natAt bs
    let fin := 136 + 4 * (p.sequences.map List.length).sum
    bs.length = fin + 77
    ∧ (p.moduleCount = n 0 1 ∧ p.cellCounts = (List.range 12).map (fun k => n (1 + k) 1))
    ∧ (n 13 1 = if p.autostart then 1 else 0)
    ∧ p.slots = (List.range 8).map (fun i =>
        let o := 14 + 7 * i
        { enabled := (bs.getD o 0).getLsbD 0, full := !(bs.getD o 0).getLsbD 1, sleepEligible := (bs.getD o 0).getLsbD 2,
          mask := BitVec.ofNat 12 (n (o + 1) 2), period := n (o + 3) 2, phase := n (o + 5) 2 })
    ∧ p.convOffset = n 70 1 ∧ p.hopDelay = n 71 1 ∧ p.cellSpacing = n 72 1 ∧ p.period = n 73 2 ∧ p.ocLimit = n 75 2 ∧ p.ocTime = n 77 2
    ∧ p.freshness = n 79 2 ∧ p.minStep = n 81 2 ∧ p.refMaxAge = n 83 2 ∧ p.filterShift = n 85 1 ∧ p.ovLimit = n 86 2
    ∧ p.uvLimit = n 88 2 ∧ p.hysteresis = n 90 2 ∧ p.debounce = n 92 1
    ∧ (n 93 1 = if p.tripOv then 1 else 0) ∧ (n 94 1 = if p.tripUv then 1 else 0) ∧ (n 95 1 = if p.tripOc then 1 else 0)
    ∧ p.chans.length = 4 ∧ (∀ k, k < 4 →
        let c := p.chans.getD k factoryChan
        let o := 96 + 8 * k
        n o 1 = (match c.role with | .mainPos => 0 | .mainNeg => 1 | .precharge => 2 | .aux => 3 | .unused => 4)
        ∧ c.pullIn = n (o + 1) 1 ∧ c.holdWidth = n (o + 2) 1 ∧ c.makeMax = n (o + 3) 2 ∧ c.breakMax = n (o + 5) 2
        ∧ n (o + 7) 1 = (match c.polarity with | .highClosed => 0 | .lowClosed => 1))
    ∧ p.hardBreakLimit = n 128 2 ∧ p.sequences.length = 6
    ∧ (∀ q, q < 6 →
        let sts := p.sequences.getD q []
        let o := 130 + q + 4 * ((p.sequences.take q).map List.length).sum
        n o 1 = sts.length ∧ sts.length ≤ 12 ∧ ∀ i, i < sts.length → ∃ st, sts[i]? = some st ∧
          let f := o + 1 + 4 * i
          let a := n (f + 1) 1
          let b := n (f + 2) 2
          match st with
          | .close k => n f 1 = 0 ∧ a = k
          | .opn k => n f 1 = 1 ∧ a = k
          | .wait t => n f 1 = 2 ∧ b = t
          | .awaitLink x t => n f 1 = 3 ∧ a = x ∧ b = t
          | .awaitDecay x t => n f 1 = 4 ∧ a = x ∧ b = t
          | .skipIf (.linkAtLeast x) => n f 1 = 5 ∧ a = 0 ∧ b = x
          | .skipIf (.closed k) => n f 1 = 5 ∧ a = 1 ∧ b = k
          | .skipIf (.opened k) => n f 1 = 5 ∧ a = 2 ∧ b = k
          | .skipIf .allFresh => n f 1 = 5 ∧ a = 3
          | .sweep => n f 1 = 6
          | .endSeq => n f 1 = 7)
    ∧ p.counters.length = 8 ∧ (∀ m, m < 8 →
        let c := p.counters.getD m factoryCounter
        let o := fin + 8 * m
        eventKindOf (n o 1) = some c.kind ∧ c.snap = (bs.getD (o + 1) 0).getLsbD 0
        ∧ c.value.toNat = n (o + 2) 3 ∧ c.reload.toNat = n (o + 5) 3)
    ∧ p.logThreshold = n (fin + 64) 1 ∧ p.enables.toNat = n (fin + 65) 4 ∧ p.sleepPeriod = n (fin + 69) 2
    ∧ p.sleepOv = n (fin + 71) 2 ∧ p.sleepUv = n (fin + 73) 2 ∧ p.selfDischarge = n (fin + 75) 2)
  ∧ (∀ bs : List Byte,
    let n := natAt bs
    let start := fun (q : Nat) => (fun o => o + 1 + 4 * n o 1)^[q] 130
    let fin := start 6
    let spells :=
      n 13 1 ≤ 1 ∧ n 93 1 ≤ 1 ∧ n 94 1 ≤ 1 ∧ n 95 1 ≤ 1 ∧ (∀ k, k < 4 → n (96 + 8 * k) 1 ≤ 4 ∧ n (103 + 8 * k) 1 ≤ 1)
      ∧ (∀ q, q < 6 → n (start q) 1 ≤ 12 ∧ ∀ i, i < n (start q) 1 →
          let f := start q + 1 + 4 * i
          n f 1 ≤ 7 ∧ (n f 1 = 5 → n (f + 1) 1 ≤ 3))
      ∧ (∀ m, m < 8 → n (fin + 8 * m) 1 ≤ 11) ∧ bs.length = fin + 77 ∧ n (fin + 65) 4 < 2 ^ 22
    (spells → ∃ p, decodeImage bs = some p) ∧ (¬ spells → decodeImage bs = none ∧ validImage bs = none))
  ∧ ∀ (bs : List Byte) (p : Profile), decodeImage bs = some p →
    let span := fun (lo n hi : Nat) => lo ≤ n ∧ n ≤ hi
    let used := fun (k : Nat) => k < 4 ∧ (p.chans.getD k factoryChan).role ≠ .unused
    let terms :=
      span 1 p.moduleCount 12 ∧ (∀ k, k < p.moduleCount → span 4 (cellsAt p k) 16) ∧ population p ≤ 192
      ∧ (∀ c ∈ p.slots, span 1 c.period 65535 ∧ c.phase < c.period) ∧ p.convOffset ≤ 255 ∧ p.hopDelay ≤ 50 ∧ p.cellSpacing ≤ 100
      ∧ span 50 p.period 1000 ∧ span 100 p.ocLimit 20000 ∧ span 1 p.ocTime 1000 ∧ span 10 p.freshness 60000 ∧ span 10 p.minStep 20000
      ∧ span 100 p.refMaxAge 60000 ∧ p.filterShift ≤ 4 ∧ span 25000 p.ovLimit 50000 ∧ p.uvLimit ≤ 40000 ∧ p.uvLimit < p.ovLimit
      ∧ p.hysteresis ≤ 2000 ∧ span 1 p.debounce 8
      ∧ (∀ c ∈ p.chans, span 10 c.pullIn 250 ∧ span 64 c.holdWidth 255 ∧ span 5 c.makeMax 500 ∧ span 5 c.breakMax 500)
      ∧ p.hardBreakLimit ≤ 20000
      ∧ (∀ q ∈ p.sequences, q.length ≤ 12
          ∧ (∀ i, i < q.length → (q[i]? = some .endSeq ↔ i + 1 = q.length))
          ∧ (∀ i c, q[i]? = some (.skipIf c) → q[i + 1]? ≠ some .endSeq)
          ∧ ∀ st ∈ q, match st with
            | .close k | .opn k => used k
            | .wait t => span 1 t 10000
            | .awaitLink x t | .awaitDecay x t => span 1 x 100 ∧ span 1 t 10000
            | .skipIf (.linkAtLeast x) => span 1 x 100
            | .skipIf (.closed k) | .skipIf (.opened k) => k < 4
            | .skipIf .allFresh | .sweep | .endSeq => True)
      ∧ span 1 p.logThreshold 64 ∧ span 1 p.sleepPeriod 65535 ∧ span 25000 p.sleepOv 50000 ∧ p.sleepUv ≤ 40000
      ∧ p.sleepUv < p.sleepOv ∧ span 1 p.selfDischarge 5000
    (terms → validImage bs = some p) ∧ (¬ terms → validImage bs = none)

/-- R186, R187: an accepted tamper in RUN, the anchor read: the latch is set and counted, a requested clear and a QUEUED activation are
cancelled, the pending mark is gone, an update that receives or verifies is over, TAMPER is set, and the contactors and the runner are as
they were. The release of the input ends the assertion and leaves the latch. In every mode: before the anchor is read the tamper is held;
after it come the stages of R187: the anchor write is offered; a waiting clear write leaves the queue and one in flight is void; an update
that receives, verifies or waits with its commit ends FAILED, a commit in flight is asked to stop; the pending bank's invalidation is
offered; the QUEUED activation's write leaves the queue; the fault-class TAMPER record names what was discarded; TAMPER is set; and the
power controller wakes, keeps the wake, or does nothing. -/
def Obligations.TamperLatchesAndCancels : Prop :=
  (∀ s : State, s.inRun → s.tmp.acceptDue = true → s.tmp.asserted = false → s.nvs.sel ≠ .unread →
    ∃ t, exec .tamperAccepted s = .next t ∧ t.tmp.asserted = true ∧ t.tmp.latch = true ∧ t.tmp.count = min 65535 (s.tmp.count + 1)
      ∧ t.tmp.run = 0 ∧ t.tmp.clearReq = false ∧ t.condSet .tamper = true ∧ t.upd.mark = none ∧ t.upd.act ≠ .queued
      ∧ (s.upd.st = .receiving ∨ s.upd.st = .verifying → t.upd.st = .idle ∧ t.condSet .updateFailed = true)
      ∧ t.kdr.chans = s.kdr.chans ∧ t.seq = s.seq ∧ t.sch = s.sch ∧ t.cells = s.cells ∧ t.pwr.mode = .run)
  ∧ (∀ s : State, s.tmp.acceptDue = true → s.tmp.asserted = true →
    exec .tamperReleaseAccepted s = .next (finish (s.setTmp { s.tmp with asserted := false, run := 0, acceptDue := false })))
  ∧ (∀ s : State, s.tmp.acceptDue = true → s.tmp.asserted = false →
    let a := s.setTmp { s.tmp with asserted := true, run := 0, acceptDue := false }
    (s.nvs.sel = .unread → exec .tamperAccepted s = .next (finish (a.setTmp { a.tmp with held := true })))
    ∧ (s.nvs.sel ≠ .unread → exec .tamperAccepted s = .next (finish (tamperEffects a))))
  ∧ (∀ s : State,
    let count := min 65535 (s.tmp.count + 1)
    let l := s.setTmp { s.tmp with latch := true, count := count, held := false }
    let ends := fun (a : State) => tamperEffects s = tamperReport (setCond .tamper
      (offerRecord true (.tamper s.tim.packTime count (decide (s.upd.st ≠ .idle)) s.upd.mark.isSome)
        (tamperActivation (tamperMark (tamperUpdate (cancelClear a))))))
    (.anchorTamper ∈ s.nvs.queue → ends l)
    ∧ (.anchorTamper ∉ s.nvs.queue → s.nvs.queue.length < 6 → ends (l.setNvs { s.nvs with queue := s.nvs.queue ++ [.anchorTamper] })))
  ∧ ∀ s : State,
    let cleared := s.nvs.queue.filter (· != .anchorClear)
    let failed := fun (t : State) => offerRecord false (.update .failed s.upd.version (some .tamper))
      (setCond .updateFailed (t.setUpd { s.upd with st := .idle, staging := [], received := 0, target := none, stop := false }))
    let isCommit := fun (o : NvOp) => match o with | .bankCommit _ _ => true | _ => false
    let isActivate := fun (o : NvOp) => match o with | .anchorActivate _ _ _ => true | _ => false
    (s.tmp.clearReq = false → cancelClear s = s)
    ∧ (s.tmp.clearReq = true →
      (∀ f, s.nvs.flight = some f → f.op = .anchorClear →
        cancelClear s = (s.setNvs { s.nvs with queue := cleared, flight := some { f with void := true } }).setTmp
          { s.tmp with clearReq := false, clearSt := .void })
      ∧ ((∀ f, s.nvs.flight = some f → f.op ≠ .anchorClear) →
        cancelClear s = (s.setNvs { s.nvs with queue := cleared }).setTmp { s.tmp with clearReq := false, clearSt := .none }))
    ∧ (s.upd.st = .idle → tamperUpdate s = s)
    ∧ (s.upd.st = .receiving ∨ s.upd.st = .verifying → tamperUpdate s = failed s)
    ∧ (s.upd.st = .committing → (∃ x g, .bankCommit x g ∈ s.nvs.queue) →
      tamperUpdate s = failed (s.setNvs { s.nvs with queue := s.nvs.queue.filter fun o => !isCommit o }))
    ∧ (s.upd.st = .committing → (∀ x g, .bankCommit x g ∉ s.nvs.queue) → tamperUpdate s = s.setUpd { s.upd with stop := true })
    ∧ (s.upd.mark = none → tamperMark s = s)
    ∧ (∀ m, s.upd.mark = some m → s.nvs.queue.length < 6 →
      tamperMark s = (s.setUpd { s.upd with mark := none }).setNvs { s.nvs with queue := s.nvs.queue ++ [.invalidate m.bank] })
    ∧ (s.upd.act = .queued →
      tamperActivation s = (s.setNvs { s.nvs with queue := s.nvs.queue.filter fun o => !isActivate o }).setUpd
        { s.upd with act := .none, actBank := none, byPower := false })
    ∧ (s.upd.act ≠ .queued → tamperActivation s = s)
    ∧ (s.pwr.mode = .run ∨ s.pwr.mode = .startup ∨ s.pwr.mode = .waking → tamperReport s = s)
    ∧ (s.pwr.mode = .sleepSweep ∨ s.pwr.mode = .sleepEntry → tamperReport s = s.setPwr { s.pwr with pendTamper := true })
    ∧ (s.pwr.mode = .sleep → tamperReport s = beginWaking { host := s.pwr.pendHost, tamper := true, breach := none } s)

/-! ## Events: the link -/

/-- R192, R193: the receiver while it is on. The idle wait's end begins the hunt; a gap of 1 ms in a frame discards it and is a link
error; a byte in the idle wait starts the wait again, the sync byte in the hunt starts a frame, another byte there is discarded, and
a byte of a frame joins it; a complete frame whose check holds is offered to the holding, and one whose check fails is a link error.
The start of a byte 10 us before its end is the model's count (log 26): a byte that starts after the end of an idle wait or of a
gap, or after a complete frame, that was not commanded is taken by the hunt, the wait, the gap or the frame having been taken first
(log 26). R151, R160: in SLEEP and SLEEP_SWEEP a byte is a HOST arrival. -/
def Obligations.ReceiverAssemblesFrames : Prop :=
  (∀ (s : State) (u : Time), s.pli.rx = .idleWait u →
    exec .receiverIdleWaitEnd s = .next (finish ((advanceTo u s).setPli { s.pli with rx := .hunting })))
  ∧ (∀ (s : State) (bs : List Byte) (u : Time), s.pli.rx = .assembling bs u → frameWhole bs = false →
    exec .frameGapTimeout s = .next (finish (occurrence .linkError (setCond .linkError
      ((advanceTo u s).setPli { s.pli with rx := .hunting })))))
  ∧ (∀ (s : State) (bs : List Byte) (u : Time), s.pli.rx = .assembling bs u → frameWhole bs = true →
    let h := s.setPli { s.pli with rx := .hunting }
    (∀ f, judgeFrame bs = some f → exec .frameComplete s = .next (finish (offerFrame f h)))
    ∧ (judgeFrame bs = none → exec .frameComplete s = .next (finish (occurrence .linkError (setCond .linkError h)))))
  ∧ (∀ (s : State) (b : Byte), s.pwr.mode = .sleep ∨ s.pwr.mode = .sleepSweep → exec (.linkByteReceived b) s = exec .hostArrival s)
  ∧ ∀ (s : State) (b : Byte), s.pwr.mode ≠ .sleep → s.pwr.mode ≠ .sleepSweep →
    let gap := s.tim.packTime + 1000#32
    let start := s.tim.packTime - 10#32
    let goes := fun (r : Rx) => exec (.linkByteReceived b) s = .next (finish (s.setPli { s.pli with rx := r }))
    (∀ u, s.pli.rx = .idleWait u → isEarlier start u = true → goes (.idleWait gap))
    ∧ (s.pli.rx = .hunting → b = 0xA5 → goes (.assembling [] gap))
    ∧ (s.pli.rx = .hunting → b ≠ 0xA5 → exec (.linkByteReceived b) s = .next (finish s))
    ∧ (∀ bs u, s.pli.rx = .assembling bs u → frameWhole bs = false → isEarlier start u = true →
        goes (.assembling (if 3 ≤ bs.length ∧ 240 < (bs.getD 2 0).toNat then bs else bs ++ [b]) gap))
    ∧ (let h := s.setPli { s.pli with rx := .hunting }
      let takes := fun (t : State) => exec (.linkByteReceived b) s =
        .next (finish (if b = 0xA5 then t.setPli { t.pli with rx := .assembling [] gap } else t))
      let broken := occurrence .linkError (setCond .linkError h)
      (∀ u, s.pli.rx = .idleWait u → isEarlier start u = false → takes h)
      ∧ (∀ bs u, s.pli.rx = .assembling bs u → frameWhole bs = false → isEarlier start u = false → takes broken)
      ∧ ∀ bs u, s.pli.rx = .assembling bs u → frameWhole bs = true →
        (∀ f, judgeFrame bs = some f → takes (offerFrame f h)) ∧ (judgeFrame bs = none → takes broken))

/-- R87, R166, R194, R196, R197, R198: the last byte of a frame has left the part. After a notice the path is free; after a reply
its frame leaves the holding and the frame that waits, if there is one, is served. (The OK reply to RESET_PART is
ResetPartAfterItsReply's.) A free path begins the reply that has been formed, else, in the modes that offer it, a WOKE notice that
is owed, else a CONDITIONS notice: each notice takes the notice number, captures its sets and clears its flag. With a frame being
sent, and in SLEEP and SLEEP_SWEEP, nothing begins. R191, R202: the bytes of a frame that leaves: the sync value, the type, the tag
or notice number, the length, the payload and the check, the payload of a reply its status byte and its fields, that of a notice its
two sets, or its cause and breach bytes. (The marker 0x80 on a type of 0x80 or above is the model's, log 20.) -/
def Obligations.TransmitEndServesTheNextFrame : Prop :=
  (∀ (s : State) (n : Byte) (a b : CondMask), s.pli.sending = some (.conditions n a b) →
    exec .transmitFrameEnd s = .next (finish (s.setPli { s.pli with sending := none })))
  ∧ (∀ (s : State) (n : Byte) (w : Option WakeSet), s.pli.sending = some (.woke n w) →
    exec .transmitFrameEnd s = .next (finish (s.setPli { s.pli with sending := none })))
  ∧ (∀ (s : State) (type tag : Byte) (r : Reply), s.pli.sending = some (.reply type tag r) → type ≠ 0x23 ∨ r.status ≠ .ok →
    (s.pli.holding.length ≤ 1 →
      exec .transmitFrameEnd s = .next (finish (s.setPli { s.pli with sending := none, holding := [] })))
    ∧ ∀ f g, s.pli.holding = [f, g] →
      exec .transmitFrameEnd s = .next (finish (serve g (s.setPli { s.pli with sending := none, holding := [g] }))))
  ∧ (∀ s : State,
    let deaf := s.pwr.mode = .sleep ∨ s.pwr.mode = .sleepSweep
    let offersWoke := s.pwr.wokeFlag = true ∧ s.pwr.mode ≠ .startup
    (s.pli.sending.isSome = true ∨ deaf → linkPump s = s)
    ∧ (s.pli.sending = none → ¬ deaf →
      (∀ f, s.pli.reply = some f → linkPump s = s.setPli { s.pli with reply := none, sending := some f })
      ∧ (s.pli.reply = none → offersWoke →
        linkPump s = (s.setPwr { s.pwr with wokeFlag := false }).setPli { s.pli with
          sending := some (.woke s.pli.noticeNo s.pwr.lastWake), noticeNo := s.pli.noticeNo + 1 })
      ∧ (s.pli.reply = none → ¬ offersWoke → s.cnd.noticePending = true →
        linkPump s = (s.setCnd { s.cnd with noticePending := false }).setPli { s.pli with
          sending := some (.conditions s.pli.noticeNo s.cnd.set s.cnd.enables), noticeNo := s.pli.noticeNo + 1 })
      ∧ (s.pli.reply = none → ¬ offersWoke → s.cnd.noticePending = false → linkPump s = s)))
  ∧ ∀ (n type tag : Byte) (set enables : CondMask) (causes : Option WakeSet) (r : Reply),
    let le := fun (n x : Nat) => (List.range n).map fun j => BitVec.ofNat 8 (x / 256 ^ j)
    let bit := fun (n : Nat) (b : Bool) => if b then n else 0
    let framed := fun (type tag : Byte) (payload : List Byte) =>
      let body := [type, tag] ++ le 1 payload.length ++ payload
      [0xA5] ++ body ++ le 2 (crc16 body).toNat
    let statuses := [Status.ok, .accepted, .busy, .live, .notReady, .badArgument, .unknownRequest, .tampered, .rollback, .badLength,
      .outOfOrder, .updateOpen, .noPending]
    (OutFrame.conditions n set enables).bytes = framed 0x40 n (le 4 set.toNat ++ le 4 enables.toNat)
    ∧ (OutFrame.woke n causes).bytes = framed 0x41 n (match causes with
      | none => [0, 0]
      | some w => le 1 (bit 1 w.host + bit 2 w.tamper + bit 4 w.breach.isSome) ++ (match w.breach with
        | none => [0]
        | some b => le 1 (bit 1 b.ov + bit 2 b.uv + bit 4 b.selfDischarge + bit 8 b.chain)))
    ∧ (OutFrame.reply type tag r).bytes = framed (type + 0x80) tag (le 1 (statuses.idxOf r.status) ++ r.body.bytes)

/-! ## Shared rules -/

/-- R82, R85, R86: ALERT is asserted exactly when some condition is both set and enabled, and is deasserted after reset. Setting a
condition sets it and no other, and sets the notice flag when it was clear and is enabled; clearing one clears it and no other, and
leaves the notice flag. A live condition takes the state reported. A replaced enable set sets the notice flag when it enables a set
condition that was not enabled. The flag is cleared when the notice begins, and by a reset. -/
def Obligations.AlertAndNoticeFollowTheConditions : Prop :=
  ((∀ s : State, s.alert = true ↔ ∃ c : Cond, s.condSet c = true ∧ s.condEnabled c = true)
   ∧ ∀ mem pins pending, (blocksReset mem pins pending).alert = false)
  ∧ (∀ (s : State) (c : Cond),
     (∀ d, (setCond c s).condSet d = (s.condSet d || d == c)) ∧ (∀ d, (clearCond c s).condSet d = (s.condSet d && d != c))
     ∧ (setCond c s).cnd.noticePending = (s.cnd.noticePending || (!s.condSet c && s.condEnabled c))
     ∧ (clearCond c s).cnd.noticePending = s.cnd.noticePending
     ∧ (setCond c s).cnd.enables = s.cnd.enables ∧ (clearCond c s).cnd.enables = s.cnd.enables
     ∧ (setCond c s).setCnd s.cnd = s ∧ (clearCond c s).setCnd s.cnd = s)
  ∧ (∀ (s : State) (c : Cond), liveCond c true s = setCond c s ∧ liveCond c false s = clearCond c s)
  ∧ (∀ (s : State) (e : CondMask),
     let t := replaceEnables e s
     (∀ c, t.condSet c = s.condSet c) ∧ (∀ c, t.condEnabled c = e.getLsbD c.idx) ∧ t.setCnd s.cnd = s
     ∧ (t.cnd.noticePending = true ↔ s.cnd.noticePending = true
         ∨ ∃ i, i < 22 ∧ s.cnd.set.getLsbD i = true ∧ e.getLsbD i = true ∧ s.cnd.enables.getLsbD i = false))
  ∧ (∀ s : State, (beginConditions s).cnd = { s.cnd with noticePending := false })
  ∧ ∀ mem pins pending, (blocksReset mem pins pending).cnd.noticePending = false

/-- R144, R145: a general record is admitted below 60 records and a fault-class record below 64; an admitted one takes the next number and
stands last; a refused one sets LOG_FULL and changes nothing of the log. -/
def Obligations.RecordsAreAdmittedByClass : Prop :=
  ∀ (s : State) (fault : Bool) (body : RecordBody),
    let t := offerRecord fault body s
    let places := if fault then 64 else 60
    (s.log.records.length < places →
      t.log = { s.log with
        records := s.log.records ++ [{ number := s.log.nextNo, faultClass := fault, body := body }]
        nextNo := s.log.nextNo + 1 }
      ∧ t.condSet .logFull = s.condSet .logFull
      ∧ (t.condSet .logThreshold = true ↔ s.log.threshold ≤ s.log.records.length + 1))
    ∧ (places ≤ s.log.records.length → t.log = s.log ∧ t.condSet .logFull = true ∧ t.condSet .logThreshold = s.condSet .logThreshold)
    ∧ t.setLog s.log = s.setCnd t.cnd

/-- R135, R136, R137, R138: an occurrence adds 1 to every counter of its kind and to no other; a counter that wraps joins the overflow
set, is armed when its snapshot flag is set, and keeps its kind, reload and flag; COUNTER_OVERFLOW is set when a counter wraps. The kind
NONE counts nothing, so the statement is of the other kinds. The snapshot check of a full sweep does nothing while no counter is armed;
otherwise it offers a general SNAPSHOT record of the last-sweep summary with the overflow set, and reloads and disarms every armed
counter, whether or not the record is admitted. -/
def Obligations.OccurrencesCountAndWrap : Prop :=
  (∀ (s : State) (k : EventKind) (n : Nat) (c : Counter), k ≠ .none → n < 8 → s.ctr.counters[n]? = some c →
    let t := occurrence k s
    let wraps := c.kind = k ∧ c.value = BitVec.allOnes 24
    (c.kind ≠ k → t.ctr.counters[n]? = some c)
    ∧ (c.kind = k → t.ctr.counters[n]? = some { c with value := c.value + 1, armed := c.armed || decide wraps && c.snap })
    ∧ (t.ctr.overflow.getLsbD n = true ↔ s.ctr.overflow.getLsbD n = true ∨ wraps)
    ∧ (wraps → t.condSet .counterOverflow = true)
    ∧ t.setCtr s.ctr = s.setCnd t.cnd)
  ∧ ∀ s : State,
    ((∀ c ∈ s.ctr.counters, c.armed = false) → snapshotCheck s = s)
    ∧ ∀ m, (∃ c ∈ s.ctr.counters, c.armed = true) → s.sch.summary = some m →
      snapshotCheck s =
        (offerRecord false (.snapshot m.tag m.tb m.minCell m.maxCell m.sum m.aligned s.ctr.overflow) s).setCtr { s.ctr with
          counters := s.ctr.counters.map fun c => if c.armed then { c with value := c.reload, armed := false } else c }
end

