-- ==== Sys2Proof/Laws/State.lean ====
section
/-! SUPPORT. What each update of a field of State leaves and gives: one lemma for each field and each update. -/
namespace Sys2Proof.Machine

@[simp] theorem State.setTim_tim (s : State) (x : Tim) : (s.setTim x).tim = x := rfl
@[simp] theorem State.setTim_sch (s : State) (x : Tim) : (s.setTim x).sch = s.sch := rfl
@[simp] theorem State.setTim_chn (s : State) (x : Tim) : (s.setTim x).chn = s.chn := rfl
@[simp] theorem State.setTim_ana (s : State) (x : Tim) : (s.setTim x).ana = s.ana := rfl
@[simp] theorem State.setTim_aln (s : State) (x : Tim) : (s.setTim x).aln = s.aln := rfl
@[simp] theorem State.setTim_cells (s : State) (x : Tim) : (s.setTim x).cells = s.cells := rfl
@[simp] theorem State.setTim_lim (s : State) (x : Tim) : (s.setTim x).lim = s.lim := rfl
@[simp] theorem State.setTim_cnd (s : State) (x : Tim) : (s.setTim x).cnd = s.cnd := rfl
@[simp] theorem State.setTim_kdr (s : State) (x : Tim) : (s.setTim x).kdr = s.kdr := rfl
@[simp] theorem State.setTim_seq (s : State) (x : Tim) : (s.setTim x).seq = s.seq := rfl
@[simp] theorem State.setTim_ctr (s : State) (x : Tim) : (s.setTim x).ctr = s.ctr := rfl
@[simp] theorem State.setTim_log (s : State) (x : Tim) : (s.setTim x).log = s.log := rfl
@[simp] theorem State.setTim_pwr (s : State) (x : Tim) : (s.setTim x).pwr = s.pwr := rfl
@[simp] theorem State.setTim_nvs (s : State) (x : Tim) : (s.setTim x).nvs = s.nvs := rfl
@[simp] theorem State.setTim_prof (s : State) (x : Tim) : (s.setTim x).prof = s.prof := rfl
@[simp] theorem State.setTim_upd (s : State) (x : Tim) : (s.setTim x).upd = s.upd := rfl
@[simp] theorem State.setTim_tmp (s : State) (x : Tim) : (s.setTim x).tmp = s.tmp := rfl
@[simp] theorem State.setTim_pli (s : State) (x : Tim) : (s.setTim x).pli = s.pli := rfl
@[simp] theorem State.setTim_pins (s : State) (x : Tim) : (s.setTim x).pins = s.pins := rfl
@[simp] theorem State.setTim_pending (s : State) (x : Tim) : (s.setTim x).pending = s.pending := rfl
@[simp] theorem State.setTim_setTim (s : State) (x y : Tim) : (s.setTim x).setTim y = s.setTim y := rfl
@[simp] theorem State.setTim_self (s : State) : s.setTim s.tim = s := rfl
@[simp] theorem State.setSch_tim (s : State) (x : Sch) : (s.setSch x).tim = s.tim := rfl
@[simp] theorem State.setSch_sch (s : State) (x : Sch) : (s.setSch x).sch = x := rfl
@[simp] theorem State.setSch_chn (s : State) (x : Sch) : (s.setSch x).chn = s.chn := rfl
@[simp] theorem State.setSch_ana (s : State) (x : Sch) : (s.setSch x).ana = s.ana := rfl
@[simp] theorem State.setSch_aln (s : State) (x : Sch) : (s.setSch x).aln = s.aln := rfl
@[simp] theorem State.setSch_cells (s : State) (x : Sch) : (s.setSch x).cells = s.cells := rfl
@[simp] theorem State.setSch_lim (s : State) (x : Sch) : (s.setSch x).lim = s.lim := rfl
@[simp] theorem State.setSch_cnd (s : State) (x : Sch) : (s.setSch x).cnd = s.cnd := rfl
@[simp] theorem State.setSch_kdr (s : State) (x : Sch) : (s.setSch x).kdr = s.kdr := rfl
@[simp] theorem State.setSch_seq (s : State) (x : Sch) : (s.setSch x).seq = s.seq := rfl
@[simp] theorem State.setSch_ctr (s : State) (x : Sch) : (s.setSch x).ctr = s.ctr := rfl
@[simp] theorem State.setSch_log (s : State) (x : Sch) : (s.setSch x).log = s.log := rfl
@[simp] theorem State.setSch_pwr (s : State) (x : Sch) : (s.setSch x).pwr = s.pwr := rfl
@[simp] theorem State.setSch_nvs (s : State) (x : Sch) : (s.setSch x).nvs = s.nvs := rfl
@[simp] theorem State.setSch_prof (s : State) (x : Sch) : (s.setSch x).prof = s.prof := rfl
@[simp] theorem State.setSch_upd (s : State) (x : Sch) : (s.setSch x).upd = s.upd := rfl
@[simp] theorem State.setSch_tmp (s : State) (x : Sch) : (s.setSch x).tmp = s.tmp := rfl
@[simp] theorem State.setSch_pli (s : State) (x : Sch) : (s.setSch x).pli = s.pli := rfl
@[simp] theorem State.setSch_pins (s : State) (x : Sch) : (s.setSch x).pins = s.pins := rfl
@[simp] theorem State.setSch_pending (s : State) (x : Sch) : (s.setSch x).pending = s.pending := rfl
@[simp] theorem State.setSch_setSch (s : State) (x y : Sch) : (s.setSch x).setSch y = s.setSch y := rfl
@[simp] theorem State.setSch_self (s : State) : s.setSch s.sch = s := rfl
@[simp] theorem State.setChn_tim (s : State) (x : Chn) : (s.setChn x).tim = s.tim := rfl
@[simp] theorem State.setChn_sch (s : State) (x : Chn) : (s.setChn x).sch = s.sch := rfl
@[simp] theorem State.setChn_chn (s : State) (x : Chn) : (s.setChn x).chn = x := rfl
@[simp] theorem State.setChn_ana (s : State) (x : Chn) : (s.setChn x).ana = s.ana := rfl
@[simp] theorem State.setChn_aln (s : State) (x : Chn) : (s.setChn x).aln = s.aln := rfl
@[simp] theorem State.setChn_cells (s : State) (x : Chn) : (s.setChn x).cells = s.cells := rfl
@[simp] theorem State.setChn_lim (s : State) (x : Chn) : (s.setChn x).lim = s.lim := rfl
@[simp] theorem State.setChn_cnd (s : State) (x : Chn) : (s.setChn x).cnd = s.cnd := rfl
@[simp] theorem State.setChn_kdr (s : State) (x : Chn) : (s.setChn x).kdr = s.kdr := rfl
@[simp] theorem State.setChn_seq (s : State) (x : Chn) : (s.setChn x).seq = s.seq := rfl
@[simp] theorem State.setChn_ctr (s : State) (x : Chn) : (s.setChn x).ctr = s.ctr := rfl
@[simp] theorem State.setChn_log (s : State) (x : Chn) : (s.setChn x).log = s.log := rfl
@[simp] theorem State.setChn_pwr (s : State) (x : Chn) : (s.setChn x).pwr = s.pwr := rfl
@[simp] theorem State.setChn_nvs (s : State) (x : Chn) : (s.setChn x).nvs = s.nvs := rfl
@[simp] theorem State.setChn_prof (s : State) (x : Chn) : (s.setChn x).prof = s.prof := rfl
@[simp] theorem State.setChn_upd (s : State) (x : Chn) : (s.setChn x).upd = s.upd := rfl
@[simp] theorem State.setChn_tmp (s : State) (x : Chn) : (s.setChn x).tmp = s.tmp := rfl
@[simp] theorem State.setChn_pli (s : State) (x : Chn) : (s.setChn x).pli = s.pli := rfl
@[simp] theorem State.setChn_pins (s : State) (x : Chn) : (s.setChn x).pins = s.pins := rfl
@[simp] theorem State.setChn_pending (s : State) (x : Chn) : (s.setChn x).pending = s.pending := rfl
@[simp] theorem State.setChn_setChn (s : State) (x y : Chn) : (s.setChn x).setChn y = s.setChn y := rfl
@[simp] theorem State.setChn_self (s : State) : s.setChn s.chn = s := rfl
@[simp] theorem State.setAna_tim (s : State) (x : Ana) : (s.setAna x).tim = s.tim := rfl
@[simp] theorem State.setAna_sch (s : State) (x : Ana) : (s.setAna x).sch = s.sch := rfl
@[simp] theorem State.setAna_chn (s : State) (x : Ana) : (s.setAna x).chn = s.chn := rfl
@[simp] theorem State.setAna_ana (s : State) (x : Ana) : (s.setAna x).ana = x := rfl
@[simp] theorem State.setAna_aln (s : State) (x : Ana) : (s.setAna x).aln = s.aln := rfl
@[simp] theorem State.setAna_cells (s : State) (x : Ana) : (s.setAna x).cells = s.cells := rfl
@[simp] theorem State.setAna_lim (s : State) (x : Ana) : (s.setAna x).lim = s.lim := rfl
@[simp] theorem State.setAna_cnd (s : State) (x : Ana) : (s.setAna x).cnd = s.cnd := rfl
@[simp] theorem State.setAna_kdr (s : State) (x : Ana) : (s.setAna x).kdr = s.kdr := rfl
@[simp] theorem State.setAna_seq (s : State) (x : Ana) : (s.setAna x).seq = s.seq := rfl
@[simp] theorem State.setAna_ctr (s : State) (x : Ana) : (s.setAna x).ctr = s.ctr := rfl
@[simp] theorem State.setAna_log (s : State) (x : Ana) : (s.setAna x).log = s.log := rfl
@[simp] theorem State.setAna_pwr (s : State) (x : Ana) : (s.setAna x).pwr = s.pwr := rfl
@[simp] theorem State.setAna_nvs (s : State) (x : Ana) : (s.setAna x).nvs = s.nvs := rfl
@[simp] theorem State.setAna_prof (s : State) (x : Ana) : (s.setAna x).prof = s.prof := rfl
@[simp] theorem State.setAna_upd (s : State) (x : Ana) : (s.setAna x).upd = s.upd := rfl
@[simp] theorem State.setAna_tmp (s : State) (x : Ana) : (s.setAna x).tmp = s.tmp := rfl
@[simp] theorem State.setAna_pli (s : State) (x : Ana) : (s.setAna x).pli = s.pli := rfl
@[simp] theorem State.setAna_pins (s : State) (x : Ana) : (s.setAna x).pins = s.pins := rfl
@[simp] theorem State.setAna_pending (s : State) (x : Ana) : (s.setAna x).pending = s.pending := rfl
@[simp] theorem State.setAna_setAna (s : State) (x y : Ana) : (s.setAna x).setAna y = s.setAna y := rfl
@[simp] theorem State.setAna_self (s : State) : s.setAna s.ana = s := rfl
@[simp] theorem State.setAln_tim (s : State) (x : List AlignItem) : (s.setAln x).tim = s.tim := rfl
@[simp] theorem State.setAln_sch (s : State) (x : List AlignItem) : (s.setAln x).sch = s.sch := rfl
@[simp] theorem State.setAln_chn (s : State) (x : List AlignItem) : (s.setAln x).chn = s.chn := rfl
@[simp] theorem State.setAln_ana (s : State) (x : List AlignItem) : (s.setAln x).ana = s.ana := rfl
@[simp] theorem State.setAln_aln (s : State) (x : List AlignItem) : (s.setAln x).aln = x := rfl
@[simp] theorem State.setAln_cells (s : State) (x : List AlignItem) : (s.setAln x).cells = s.cells := rfl
@[simp] theorem State.setAln_lim (s : State) (x : List AlignItem) : (s.setAln x).lim = s.lim := rfl
@[simp] theorem State.setAln_cnd (s : State) (x : List AlignItem) : (s.setAln x).cnd = s.cnd := rfl
@[simp] theorem State.setAln_kdr (s : State) (x : List AlignItem) : (s.setAln x).kdr = s.kdr := rfl
@[simp] theorem State.setAln_seq (s : State) (x : List AlignItem) : (s.setAln x).seq = s.seq := rfl
@[simp] theorem State.setAln_ctr (s : State) (x : List AlignItem) : (s.setAln x).ctr = s.ctr := rfl
@[simp] theorem State.setAln_log (s : State) (x : List AlignItem) : (s.setAln x).log = s.log := rfl
@[simp] theorem State.setAln_pwr (s : State) (x : List AlignItem) : (s.setAln x).pwr = s.pwr := rfl
@[simp] theorem State.setAln_nvs (s : State) (x : List AlignItem) : (s.setAln x).nvs = s.nvs := rfl
@[simp] theorem State.setAln_prof (s : State) (x : List AlignItem) : (s.setAln x).prof = s.prof := rfl
@[simp] theorem State.setAln_upd (s : State) (x : List AlignItem) : (s.setAln x).upd = s.upd := rfl
@[simp] theorem State.setAln_tmp (s : State) (x : List AlignItem) : (s.setAln x).tmp = s.tmp := rfl
@[simp] theorem State.setAln_pli (s : State) (x : List AlignItem) : (s.setAln x).pli = s.pli := rfl
@[simp] theorem State.setAln_pins (s : State) (x : List AlignItem) : (s.setAln x).pins = s.pins := rfl
@[simp] theorem State.setAln_pending (s : State) (x : List AlignItem) : (s.setAln x).pending = s.pending := rfl
@[simp] theorem State.setAln_setAln (s : State) (x y : List AlignItem) : (s.setAln x).setAln y = s.setAln y := rfl
@[simp] theorem State.setAln_self (s : State) : s.setAln s.aln = s := rfl
@[simp] theorem State.setCells_tim (s : State) (x : List Cell) : (s.setCells x).tim = s.tim := rfl
@[simp] theorem State.setCells_sch (s : State) (x : List Cell) : (s.setCells x).sch = s.sch := rfl
@[simp] theorem State.setCells_chn (s : State) (x : List Cell) : (s.setCells x).chn = s.chn := rfl
@[simp] theorem State.setCells_ana (s : State) (x : List Cell) : (s.setCells x).ana = s.ana := rfl
@[simp] theorem State.setCells_aln (s : State) (x : List Cell) : (s.setCells x).aln = s.aln := rfl
@[simp] theorem State.setCells_cells (s : State) (x : List Cell) : (s.setCells x).cells = x := rfl
@[simp] theorem State.setCells_lim (s : State) (x : List Cell) : (s.setCells x).lim = s.lim := rfl
@[simp] theorem State.setCells_cnd (s : State) (x : List Cell) : (s.setCells x).cnd = s.cnd := rfl
@[simp] theorem State.setCells_kdr (s : State) (x : List Cell) : (s.setCells x).kdr = s.kdr := rfl
@[simp] theorem State.setCells_seq (s : State) (x : List Cell) : (s.setCells x).seq = s.seq := rfl
@[simp] theorem State.setCells_ctr (s : State) (x : List Cell) : (s.setCells x).ctr = s.ctr := rfl
@[simp] theorem State.setCells_log (s : State) (x : List Cell) : (s.setCells x).log = s.log := rfl
@[simp] theorem State.setCells_pwr (s : State) (x : List Cell) : (s.setCells x).pwr = s.pwr := rfl
@[simp] theorem State.setCells_nvs (s : State) (x : List Cell) : (s.setCells x).nvs = s.nvs := rfl
@[simp] theorem State.setCells_prof (s : State) (x : List Cell) : (s.setCells x).prof = s.prof := rfl
@[simp] theorem State.setCells_upd (s : State) (x : List Cell) : (s.setCells x).upd = s.upd := rfl
@[simp] theorem State.setCells_tmp (s : State) (x : List Cell) : (s.setCells x).tmp = s.tmp := rfl
@[simp] theorem State.setCells_pli (s : State) (x : List Cell) : (s.setCells x).pli = s.pli := rfl
@[simp] theorem State.setCells_pins (s : State) (x : List Cell) : (s.setCells x).pins = s.pins := rfl
@[simp] theorem State.setCells_pending (s : State) (x : List Cell) : (s.setCells x).pending = s.pending := rfl
@[simp] theorem State.setCells_setCells (s : State) (x y : List Cell) : (s.setCells x).setCells y = s.setCells y := rfl
@[simp] theorem State.setCells_self (s : State) : s.setCells s.cells = s := rfl
@[simp] theorem State.setLim_tim (s : State) (x : Lim) : (s.setLim x).tim = s.tim := rfl
@[simp] theorem State.setLim_sch (s : State) (x : Lim) : (s.setLim x).sch = s.sch := rfl
@[simp] theorem State.setLim_chn (s : State) (x : Lim) : (s.setLim x).chn = s.chn := rfl
@[simp] theorem State.setLim_ana (s : State) (x : Lim) : (s.setLim x).ana = s.ana := rfl
@[simp] theorem State.setLim_aln (s : State) (x : Lim) : (s.setLim x).aln = s.aln := rfl
@[simp] theorem State.setLim_cells (s : State) (x : Lim) : (s.setLim x).cells = s.cells := rfl
@[simp] theorem State.setLim_lim (s : State) (x : Lim) : (s.setLim x).lim = x := rfl
@[simp] theorem State.setLim_cnd (s : State) (x : Lim) : (s.setLim x).cnd = s.cnd := rfl
@[simp] theorem State.setLim_kdr (s : State) (x : Lim) : (s.setLim x).kdr = s.kdr := rfl
@[simp] theorem State.setLim_seq (s : State) (x : Lim) : (s.setLim x).seq = s.seq := rfl
@[simp] theorem State.setLim_ctr (s : State) (x : Lim) : (s.setLim x).ctr = s.ctr := rfl
@[simp] theorem State.setLim_log (s : State) (x : Lim) : (s.setLim x).log = s.log := rfl
@[simp] theorem State.setLim_pwr (s : State) (x : Lim) : (s.setLim x).pwr = s.pwr := rfl
@[simp] theorem State.setLim_nvs (s : State) (x : Lim) : (s.setLim x).nvs = s.nvs := rfl
@[simp] theorem State.setLim_prof (s : State) (x : Lim) : (s.setLim x).prof = s.prof := rfl
@[simp] theorem State.setLim_upd (s : State) (x : Lim) : (s.setLim x).upd = s.upd := rfl
@[simp] theorem State.setLim_tmp (s : State) (x : Lim) : (s.setLim x).tmp = s.tmp := rfl
@[simp] theorem State.setLim_pli (s : State) (x : Lim) : (s.setLim x).pli = s.pli := rfl
@[simp] theorem State.setLim_pins (s : State) (x : Lim) : (s.setLim x).pins = s.pins := rfl
@[simp] theorem State.setLim_pending (s : State) (x : Lim) : (s.setLim x).pending = s.pending := rfl
@[simp] theorem State.setLim_setLim (s : State) (x y : Lim) : (s.setLim x).setLim y = s.setLim y := rfl
@[simp] theorem State.setLim_self (s : State) : s.setLim s.lim = s := rfl
@[simp] theorem State.setCnd_tim (s : State) (x : Cnd) : (s.setCnd x).tim = s.tim := rfl
@[simp] theorem State.setCnd_sch (s : State) (x : Cnd) : (s.setCnd x).sch = s.sch := rfl
@[simp] theorem State.setCnd_chn (s : State) (x : Cnd) : (s.setCnd x).chn = s.chn := rfl
@[simp] theorem State.setCnd_ana (s : State) (x : Cnd) : (s.setCnd x).ana = s.ana := rfl
@[simp] theorem State.setCnd_aln (s : State) (x : Cnd) : (s.setCnd x).aln = s.aln := rfl
@[simp] theorem State.setCnd_cells (s : State) (x : Cnd) : (s.setCnd x).cells = s.cells := rfl
@[simp] theorem State.setCnd_lim (s : State) (x : Cnd) : (s.setCnd x).lim = s.lim := rfl
@[simp] theorem State.setCnd_cnd (s : State) (x : Cnd) : (s.setCnd x).cnd = x := rfl
@[simp] theorem State.setCnd_kdr (s : State) (x : Cnd) : (s.setCnd x).kdr = s.kdr := rfl
@[simp] theorem State.setCnd_seq (s : State) (x : Cnd) : (s.setCnd x).seq = s.seq := rfl
@[simp] theorem State.setCnd_ctr (s : State) (x : Cnd) : (s.setCnd x).ctr = s.ctr := rfl
@[simp] theorem State.setCnd_log (s : State) (x : Cnd) : (s.setCnd x).log = s.log := rfl
@[simp] theorem State.setCnd_pwr (s : State) (x : Cnd) : (s.setCnd x).pwr = s.pwr := rfl
@[simp] theorem State.setCnd_nvs (s : State) (x : Cnd) : (s.setCnd x).nvs = s.nvs := rfl
@[simp] theorem State.setCnd_prof (s : State) (x : Cnd) : (s.setCnd x).prof = s.prof := rfl
@[simp] theorem State.setCnd_upd (s : State) (x : Cnd) : (s.setCnd x).upd = s.upd := rfl
@[simp] theorem State.setCnd_tmp (s : State) (x : Cnd) : (s.setCnd x).tmp = s.tmp := rfl
@[simp] theorem State.setCnd_pli (s : State) (x : Cnd) : (s.setCnd x).pli = s.pli := rfl
@[simp] theorem State.setCnd_pins (s : State) (x : Cnd) : (s.setCnd x).pins = s.pins := rfl
@[simp] theorem State.setCnd_pending (s : State) (x : Cnd) : (s.setCnd x).pending = s.pending := rfl
@[simp] theorem State.setCnd_setCnd (s : State) (x y : Cnd) : (s.setCnd x).setCnd y = s.setCnd y := rfl
@[simp] theorem State.setCnd_self (s : State) : s.setCnd s.cnd = s := rfl
@[simp] theorem State.setKdr_tim (s : State) (x : Kdr) : (s.setKdr x).tim = s.tim := rfl
@[simp] theorem State.setKdr_sch (s : State) (x : Kdr) : (s.setKdr x).sch = s.sch := rfl
@[simp] theorem State.setKdr_chn (s : State) (x : Kdr) : (s.setKdr x).chn = s.chn := rfl
@[simp] theorem State.setKdr_ana (s : State) (x : Kdr) : (s.setKdr x).ana = s.ana := rfl
@[simp] theorem State.setKdr_aln (s : State) (x : Kdr) : (s.setKdr x).aln = s.aln := rfl
@[simp] theorem State.setKdr_cells (s : State) (x : Kdr) : (s.setKdr x).cells = s.cells := rfl
@[simp] theorem State.setKdr_lim (s : State) (x : Kdr) : (s.setKdr x).lim = s.lim := rfl
@[simp] theorem State.setKdr_cnd (s : State) (x : Kdr) : (s.setKdr x).cnd = s.cnd := rfl
@[simp] theorem State.setKdr_kdr (s : State) (x : Kdr) : (s.setKdr x).kdr = x := rfl
@[simp] theorem State.setKdr_seq (s : State) (x : Kdr) : (s.setKdr x).seq = s.seq := rfl
@[simp] theorem State.setKdr_ctr (s : State) (x : Kdr) : (s.setKdr x).ctr = s.ctr := rfl
@[simp] theorem State.setKdr_log (s : State) (x : Kdr) : (s.setKdr x).log = s.log := rfl
@[simp] theorem State.setKdr_pwr (s : State) (x : Kdr) : (s.setKdr x).pwr = s.pwr := rfl
@[simp] theorem State.setKdr_nvs (s : State) (x : Kdr) : (s.setKdr x).nvs = s.nvs := rfl
@[simp] theorem State.setKdr_prof (s : State) (x : Kdr) : (s.setKdr x).prof = s.prof := rfl
@[simp] theorem State.setKdr_upd (s : State) (x : Kdr) : (s.setKdr x).upd = s.upd := rfl
@[simp] theorem State.setKdr_tmp (s : State) (x : Kdr) : (s.setKdr x).tmp = s.tmp := rfl
@[simp] theorem State.setKdr_pli (s : State) (x : Kdr) : (s.setKdr x).pli = s.pli := rfl
@[simp] theorem State.setKdr_pins (s : State) (x : Kdr) : (s.setKdr x).pins = s.pins := rfl
@[simp] theorem State.setKdr_pending (s : State) (x : Kdr) : (s.setKdr x).pending = s.pending := rfl
@[simp] theorem State.setKdr_setKdr (s : State) (x y : Kdr) : (s.setKdr x).setKdr y = s.setKdr y := rfl
@[simp] theorem State.setKdr_self (s : State) : s.setKdr s.kdr = s := rfl
@[simp] theorem State.setSeq_tim (s : State) (x : Seq) : (s.setSeq x).tim = s.tim := rfl
@[simp] theorem State.setSeq_sch (s : State) (x : Seq) : (s.setSeq x).sch = s.sch := rfl
@[simp] theorem State.setSeq_chn (s : State) (x : Seq) : (s.setSeq x).chn = s.chn := rfl
@[simp] theorem State.setSeq_ana (s : State) (x : Seq) : (s.setSeq x).ana = s.ana := rfl
@[simp] theorem State.setSeq_aln (s : State) (x : Seq) : (s.setSeq x).aln = s.aln := rfl
@[simp] theorem State.setSeq_cells (s : State) (x : Seq) : (s.setSeq x).cells = s.cells := rfl
@[simp] theorem State.setSeq_lim (s : State) (x : Seq) : (s.setSeq x).lim = s.lim := rfl
@[simp] theorem State.setSeq_cnd (s : State) (x : Seq) : (s.setSeq x).cnd = s.cnd := rfl
@[simp] theorem State.setSeq_kdr (s : State) (x : Seq) : (s.setSeq x).kdr = s.kdr := rfl
@[simp] theorem State.setSeq_seq (s : State) (x : Seq) : (s.setSeq x).seq = x := rfl
@[simp] theorem State.setSeq_ctr (s : State) (x : Seq) : (s.setSeq x).ctr = s.ctr := rfl
@[simp] theorem State.setSeq_log (s : State) (x : Seq) : (s.setSeq x).log = s.log := rfl
@[simp] theorem State.setSeq_pwr (s : State) (x : Seq) : (s.setSeq x).pwr = s.pwr := rfl
@[simp] theorem State.setSeq_nvs (s : State) (x : Seq) : (s.setSeq x).nvs = s.nvs := rfl
@[simp] theorem State.setSeq_prof (s : State) (x : Seq) : (s.setSeq x).prof = s.prof := rfl
@[simp] theorem State.setSeq_upd (s : State) (x : Seq) : (s.setSeq x).upd = s.upd := rfl
@[simp] theorem State.setSeq_tmp (s : State) (x : Seq) : (s.setSeq x).tmp = s.tmp := rfl
@[simp] theorem State.setSeq_pli (s : State) (x : Seq) : (s.setSeq x).pli = s.pli := rfl
@[simp] theorem State.setSeq_pins (s : State) (x : Seq) : (s.setSeq x).pins = s.pins := rfl
@[simp] theorem State.setSeq_pending (s : State) (x : Seq) : (s.setSeq x).pending = s.pending := rfl
@[simp] theorem State.setSeq_setSeq (s : State) (x y : Seq) : (s.setSeq x).setSeq y = s.setSeq y := rfl
@[simp] theorem State.setSeq_self (s : State) : s.setSeq s.seq = s := rfl
@[simp] theorem State.setCtr_tim (s : State) (x : Ctr) : (s.setCtr x).tim = s.tim := rfl
@[simp] theorem State.setCtr_sch (s : State) (x : Ctr) : (s.setCtr x).sch = s.sch := rfl
@[simp] theorem State.setCtr_chn (s : State) (x : Ctr) : (s.setCtr x).chn = s.chn := rfl
@[simp] theorem State.setCtr_ana (s : State) (x : Ctr) : (s.setCtr x).ana = s.ana := rfl
@[simp] theorem State.setCtr_aln (s : State) (x : Ctr) : (s.setCtr x).aln = s.aln := rfl
@[simp] theorem State.setCtr_cells (s : State) (x : Ctr) : (s.setCtr x).cells = s.cells := rfl
@[simp] theorem State.setCtr_lim (s : State) (x : Ctr) : (s.setCtr x).lim = s.lim := rfl
@[simp] theorem State.setCtr_cnd (s : State) (x : Ctr) : (s.setCtr x).cnd = s.cnd := rfl
@[simp] theorem State.setCtr_kdr (s : State) (x : Ctr) : (s.setCtr x).kdr = s.kdr := rfl
@[simp] theorem State.setCtr_seq (s : State) (x : Ctr) : (s.setCtr x).seq = s.seq := rfl
@[simp] theorem State.setCtr_ctr (s : State) (x : Ctr) : (s.setCtr x).ctr = x := rfl
@[simp] theorem State.setCtr_log (s : State) (x : Ctr) : (s.setCtr x).log = s.log := rfl
@[simp] theorem State.setCtr_pwr (s : State) (x : Ctr) : (s.setCtr x).pwr = s.pwr := rfl
@[simp] theorem State.setCtr_nvs (s : State) (x : Ctr) : (s.setCtr x).nvs = s.nvs := rfl
@[simp] theorem State.setCtr_prof (s : State) (x : Ctr) : (s.setCtr x).prof = s.prof := rfl
@[simp] theorem State.setCtr_upd (s : State) (x : Ctr) : (s.setCtr x).upd = s.upd := rfl
@[simp] theorem State.setCtr_tmp (s : State) (x : Ctr) : (s.setCtr x).tmp = s.tmp := rfl
@[simp] theorem State.setCtr_pli (s : State) (x : Ctr) : (s.setCtr x).pli = s.pli := rfl
@[simp] theorem State.setCtr_pins (s : State) (x : Ctr) : (s.setCtr x).pins = s.pins := rfl
@[simp] theorem State.setCtr_pending (s : State) (x : Ctr) : (s.setCtr x).pending = s.pending := rfl
@[simp] theorem State.setCtr_setCtr (s : State) (x y : Ctr) : (s.setCtr x).setCtr y = s.setCtr y := rfl
@[simp] theorem State.setCtr_self (s : State) : s.setCtr s.ctr = s := rfl
@[simp] theorem State.setLog_tim (s : State) (x : CapLog) : (s.setLog x).tim = s.tim := rfl
@[simp] theorem State.setLog_sch (s : State) (x : CapLog) : (s.setLog x).sch = s.sch := rfl
@[simp] theorem State.setLog_chn (s : State) (x : CapLog) : (s.setLog x).chn = s.chn := rfl
@[simp] theorem State.setLog_ana (s : State) (x : CapLog) : (s.setLog x).ana = s.ana := rfl
@[simp] theorem State.setLog_aln (s : State) (x : CapLog) : (s.setLog x).aln = s.aln := rfl
@[simp] theorem State.setLog_cells (s : State) (x : CapLog) : (s.setLog x).cells = s.cells := rfl
@[simp] theorem State.setLog_lim (s : State) (x : CapLog) : (s.setLog x).lim = s.lim := rfl
@[simp] theorem State.setLog_cnd (s : State) (x : CapLog) : (s.setLog x).cnd = s.cnd := rfl
@[simp] theorem State.setLog_kdr (s : State) (x : CapLog) : (s.setLog x).kdr = s.kdr := rfl
@[simp] theorem State.setLog_seq (s : State) (x : CapLog) : (s.setLog x).seq = s.seq := rfl
@[simp] theorem State.setLog_ctr (s : State) (x : CapLog) : (s.setLog x).ctr = s.ctr := rfl
@[simp] theorem State.setLog_log (s : State) (x : CapLog) : (s.setLog x).log = x := rfl
@[simp] theorem State.setLog_pwr (s : State) (x : CapLog) : (s.setLog x).pwr = s.pwr := rfl
@[simp] theorem State.setLog_nvs (s : State) (x : CapLog) : (s.setLog x).nvs = s.nvs := rfl
@[simp] theorem State.setLog_prof (s : State) (x : CapLog) : (s.setLog x).prof = s.prof := rfl
@[simp] theorem State.setLog_upd (s : State) (x : CapLog) : (s.setLog x).upd = s.upd := rfl
@[simp] theorem State.setLog_tmp (s : State) (x : CapLog) : (s.setLog x).tmp = s.tmp := rfl
@[simp] theorem State.setLog_pli (s : State) (x : CapLog) : (s.setLog x).pli = s.pli := rfl
@[simp] theorem State.setLog_pins (s : State) (x : CapLog) : (s.setLog x).pins = s.pins := rfl
@[simp] theorem State.setLog_pending (s : State) (x : CapLog) : (s.setLog x).pending = s.pending := rfl
@[simp] theorem State.setLog_setLog (s : State) (x y : CapLog) : (s.setLog x).setLog y = s.setLog y := rfl
@[simp] theorem State.setLog_self (s : State) : s.setLog s.log = s := rfl
@[simp] theorem State.setPwr_tim (s : State) (x : Pwr) : (s.setPwr x).tim = s.tim := rfl
@[simp] theorem State.setPwr_sch (s : State) (x : Pwr) : (s.setPwr x).sch = s.sch := rfl
@[simp] theorem State.setPwr_chn (s : State) (x : Pwr) : (s.setPwr x).chn = s.chn := rfl
@[simp] theorem State.setPwr_ana (s : State) (x : Pwr) : (s.setPwr x).ana = s.ana := rfl
@[simp] theorem State.setPwr_aln (s : State) (x : Pwr) : (s.setPwr x).aln = s.aln := rfl
@[simp] theorem State.setPwr_cells (s : State) (x : Pwr) : (s.setPwr x).cells = s.cells := rfl
@[simp] theorem State.setPwr_lim (s : State) (x : Pwr) : (s.setPwr x).lim = s.lim := rfl
@[simp] theorem State.setPwr_cnd (s : State) (x : Pwr) : (s.setPwr x).cnd = s.cnd := rfl
@[simp] theorem State.setPwr_kdr (s : State) (x : Pwr) : (s.setPwr x).kdr = s.kdr := rfl
@[simp] theorem State.setPwr_seq (s : State) (x : Pwr) : (s.setPwr x).seq = s.seq := rfl
@[simp] theorem State.setPwr_ctr (s : State) (x : Pwr) : (s.setPwr x).ctr = s.ctr := rfl
@[simp] theorem State.setPwr_log (s : State) (x : Pwr) : (s.setPwr x).log = s.log := rfl
@[simp] theorem State.setPwr_pwr (s : State) (x : Pwr) : (s.setPwr x).pwr = x := rfl
@[simp] theorem State.setPwr_nvs (s : State) (x : Pwr) : (s.setPwr x).nvs = s.nvs := rfl
@[simp] theorem State.setPwr_prof (s : State) (x : Pwr) : (s.setPwr x).prof = s.prof := rfl
@[simp] theorem State.setPwr_upd (s : State) (x : Pwr) : (s.setPwr x).upd = s.upd := rfl
@[simp] theorem State.setPwr_tmp (s : State) (x : Pwr) : (s.setPwr x).tmp = s.tmp := rfl
@[simp] theorem State.setPwr_pli (s : State) (x : Pwr) : (s.setPwr x).pli = s.pli := rfl
@[simp] theorem State.setPwr_pins (s : State) (x : Pwr) : (s.setPwr x).pins = s.pins := rfl
@[simp] theorem State.setPwr_pending (s : State) (x : Pwr) : (s.setPwr x).pending = s.pending := rfl
@[simp] theorem State.setPwr_setPwr (s : State) (x y : Pwr) : (s.setPwr x).setPwr y = s.setPwr y := rfl
@[simp] theorem State.setPwr_self (s : State) : s.setPwr s.pwr = s := rfl
@[simp] theorem State.setNvs_tim (s : State) (x : Nvs) : (s.setNvs x).tim = s.tim := rfl
@[simp] theorem State.setNvs_sch (s : State) (x : Nvs) : (s.setNvs x).sch = s.sch := rfl
@[simp] theorem State.setNvs_chn (s : State) (x : Nvs) : (s.setNvs x).chn = s.chn := rfl
@[simp] theorem State.setNvs_ana (s : State) (x : Nvs) : (s.setNvs x).ana = s.ana := rfl
@[simp] theorem State.setNvs_aln (s : State) (x : Nvs) : (s.setNvs x).aln = s.aln := rfl
@[simp] theorem State.setNvs_cells (s : State) (x : Nvs) : (s.setNvs x).cells = s.cells := rfl
@[simp] theorem State.setNvs_lim (s : State) (x : Nvs) : (s.setNvs x).lim = s.lim := rfl
@[simp] theorem State.setNvs_cnd (s : State) (x : Nvs) : (s.setNvs x).cnd = s.cnd := rfl
@[simp] theorem State.setNvs_kdr (s : State) (x : Nvs) : (s.setNvs x).kdr = s.kdr := rfl
@[simp] theorem State.setNvs_seq (s : State) (x : Nvs) : (s.setNvs x).seq = s.seq := rfl
@[simp] theorem State.setNvs_ctr (s : State) (x : Nvs) : (s.setNvs x).ctr = s.ctr := rfl
@[simp] theorem State.setNvs_log (s : State) (x : Nvs) : (s.setNvs x).log = s.log := rfl
@[simp] theorem State.setNvs_pwr (s : State) (x : Nvs) : (s.setNvs x).pwr = s.pwr := rfl
@[simp] theorem State.setNvs_nvs (s : State) (x : Nvs) : (s.setNvs x).nvs = x := rfl
@[simp] theorem State.setNvs_prof (s : State) (x : Nvs) : (s.setNvs x).prof = s.prof := rfl
@[simp] theorem State.setNvs_upd (s : State) (x : Nvs) : (s.setNvs x).upd = s.upd := rfl
@[simp] theorem State.setNvs_tmp (s : State) (x : Nvs) : (s.setNvs x).tmp = s.tmp := rfl
@[simp] theorem State.setNvs_pli (s : State) (x : Nvs) : (s.setNvs x).pli = s.pli := rfl
@[simp] theorem State.setNvs_pins (s : State) (x : Nvs) : (s.setNvs x).pins = s.pins := rfl
@[simp] theorem State.setNvs_pending (s : State) (x : Nvs) : (s.setNvs x).pending = s.pending := rfl
@[simp] theorem State.setNvs_setNvs (s : State) (x y : Nvs) : (s.setNvs x).setNvs y = s.setNvs y := rfl
@[simp] theorem State.setNvs_self (s : State) : s.setNvs s.nvs = s := rfl
@[simp] theorem State.setProf_tim (s : State) (x : Profile) : (s.setProf x).tim = s.tim := rfl
@[simp] theorem State.setProf_sch (s : State) (x : Profile) : (s.setProf x).sch = s.sch := rfl
@[simp] theorem State.setProf_chn (s : State) (x : Profile) : (s.setProf x).chn = s.chn := rfl
@[simp] theorem State.setProf_ana (s : State) (x : Profile) : (s.setProf x).ana = s.ana := rfl
@[simp] theorem State.setProf_aln (s : State) (x : Profile) : (s.setProf x).aln = s.aln := rfl
@[simp] theorem State.setProf_cells (s : State) (x : Profile) : (s.setProf x).cells = s.cells := rfl
@[simp] theorem State.setProf_lim (s : State) (x : Profile) : (s.setProf x).lim = s.lim := rfl
@[simp] theorem State.setProf_cnd (s : State) (x : Profile) : (s.setProf x).cnd = s.cnd := rfl
@[simp] theorem State.setProf_kdr (s : State) (x : Profile) : (s.setProf x).kdr = s.kdr := rfl
@[simp] theorem State.setProf_seq (s : State) (x : Profile) : (s.setProf x).seq = s.seq := rfl
@[simp] theorem State.setProf_ctr (s : State) (x : Profile) : (s.setProf x).ctr = s.ctr := rfl
@[simp] theorem State.setProf_log (s : State) (x : Profile) : (s.setProf x).log = s.log := rfl
@[simp] theorem State.setProf_pwr (s : State) (x : Profile) : (s.setProf x).pwr = s.pwr := rfl
@[simp] theorem State.setProf_nvs (s : State) (x : Profile) : (s.setProf x).nvs = s.nvs := rfl
@[simp] theorem State.setProf_prof (s : State) (x : Profile) : (s.setProf x).prof = x := rfl
@[simp] theorem State.setProf_upd (s : State) (x : Profile) : (s.setProf x).upd = s.upd := rfl
@[simp] theorem State.setProf_tmp (s : State) (x : Profile) : (s.setProf x).tmp = s.tmp := rfl
@[simp] theorem State.setProf_pli (s : State) (x : Profile) : (s.setProf x).pli = s.pli := rfl
@[simp] theorem State.setProf_pins (s : State) (x : Profile) : (s.setProf x).pins = s.pins := rfl
@[simp] theorem State.setProf_pending (s : State) (x : Profile) : (s.setProf x).pending = s.pending := rfl
@[simp] theorem State.setProf_setProf (s : State) (x y : Profile) : (s.setProf x).setProf y = s.setProf y := rfl
@[simp] theorem State.setProf_self (s : State) : s.setProf s.prof = s := rfl
@[simp] theorem State.setUpd_tim (s : State) (x : Upd) : (s.setUpd x).tim = s.tim := rfl
@[simp] theorem State.setUpd_sch (s : State) (x : Upd) : (s.setUpd x).sch = s.sch := rfl
@[simp] theorem State.setUpd_chn (s : State) (x : Upd) : (s.setUpd x).chn = s.chn := rfl
@[simp] theorem State.setUpd_ana (s : State) (x : Upd) : (s.setUpd x).ana = s.ana := rfl
@[simp] theorem State.setUpd_aln (s : State) (x : Upd) : (s.setUpd x).aln = s.aln := rfl
@[simp] theorem State.setUpd_cells (s : State) (x : Upd) : (s.setUpd x).cells = s.cells := rfl
@[simp] theorem State.setUpd_lim (s : State) (x : Upd) : (s.setUpd x).lim = s.lim := rfl
@[simp] theorem State.setUpd_cnd (s : State) (x : Upd) : (s.setUpd x).cnd = s.cnd := rfl
@[simp] theorem State.setUpd_kdr (s : State) (x : Upd) : (s.setUpd x).kdr = s.kdr := rfl
@[simp] theorem State.setUpd_seq (s : State) (x : Upd) : (s.setUpd x).seq = s.seq := rfl
@[simp] theorem State.setUpd_ctr (s : State) (x : Upd) : (s.setUpd x).ctr = s.ctr := rfl
@[simp] theorem State.setUpd_log (s : State) (x : Upd) : (s.setUpd x).log = s.log := rfl
@[simp] theorem State.setUpd_pwr (s : State) (x : Upd) : (s.setUpd x).pwr = s.pwr := rfl
@[simp] theorem State.setUpd_nvs (s : State) (x : Upd) : (s.setUpd x).nvs = s.nvs := rfl
@[simp] theorem State.setUpd_prof (s : State) (x : Upd) : (s.setUpd x).prof = s.prof := rfl
@[simp] theorem State.setUpd_upd (s : State) (x : Upd) : (s.setUpd x).upd = x := rfl
@[simp] theorem State.setUpd_tmp (s : State) (x : Upd) : (s.setUpd x).tmp = s.tmp := rfl
@[simp] theorem State.setUpd_pli (s : State) (x : Upd) : (s.setUpd x).pli = s.pli := rfl
@[simp] theorem State.setUpd_pins (s : State) (x : Upd) : (s.setUpd x).pins = s.pins := rfl
@[simp] theorem State.setUpd_pending (s : State) (x : Upd) : (s.setUpd x).pending = s.pending := rfl
@[simp] theorem State.setUpd_setUpd (s : State) (x y : Upd) : (s.setUpd x).setUpd y = s.setUpd y := rfl
@[simp] theorem State.setUpd_self (s : State) : s.setUpd s.upd = s := rfl
@[simp] theorem State.setTmp_tim (s : State) (x : Tmp) : (s.setTmp x).tim = s.tim := rfl
@[simp] theorem State.setTmp_sch (s : State) (x : Tmp) : (s.setTmp x).sch = s.sch := rfl
@[simp] theorem State.setTmp_chn (s : State) (x : Tmp) : (s.setTmp x).chn = s.chn := rfl
@[simp] theorem State.setTmp_ana (s : State) (x : Tmp) : (s.setTmp x).ana = s.ana := rfl
@[simp] theorem State.setTmp_aln (s : State) (x : Tmp) : (s.setTmp x).aln = s.aln := rfl
@[simp] theorem State.setTmp_cells (s : State) (x : Tmp) : (s.setTmp x).cells = s.cells := rfl
@[simp] theorem State.setTmp_lim (s : State) (x : Tmp) : (s.setTmp x).lim = s.lim := rfl
@[simp] theorem State.setTmp_cnd (s : State) (x : Tmp) : (s.setTmp x).cnd = s.cnd := rfl
@[simp] theorem State.setTmp_kdr (s : State) (x : Tmp) : (s.setTmp x).kdr = s.kdr := rfl
@[simp] theorem State.setTmp_seq (s : State) (x : Tmp) : (s.setTmp x).seq = s.seq := rfl
@[simp] theorem State.setTmp_ctr (s : State) (x : Tmp) : (s.setTmp x).ctr = s.ctr := rfl
@[simp] theorem State.setTmp_log (s : State) (x : Tmp) : (s.setTmp x).log = s.log := rfl
@[simp] theorem State.setTmp_pwr (s : State) (x : Tmp) : (s.setTmp x).pwr = s.pwr := rfl
@[simp] theorem State.setTmp_nvs (s : State) (x : Tmp) : (s.setTmp x).nvs = s.nvs := rfl
@[simp] theorem State.setTmp_prof (s : State) (x : Tmp) : (s.setTmp x).prof = s.prof := rfl
@[simp] theorem State.setTmp_upd (s : State) (x : Tmp) : (s.setTmp x).upd = s.upd := rfl
@[simp] theorem State.setTmp_tmp (s : State) (x : Tmp) : (s.setTmp x).tmp = x := rfl
@[simp] theorem State.setTmp_pli (s : State) (x : Tmp) : (s.setTmp x).pli = s.pli := rfl
@[simp] theorem State.setTmp_pins (s : State) (x : Tmp) : (s.setTmp x).pins = s.pins := rfl
@[simp] theorem State.setTmp_pending (s : State) (x : Tmp) : (s.setTmp x).pending = s.pending := rfl
@[simp] theorem State.setTmp_setTmp (s : State) (x y : Tmp) : (s.setTmp x).setTmp y = s.setTmp y := rfl
@[simp] theorem State.setTmp_self (s : State) : s.setTmp s.tmp = s := rfl
@[simp] theorem State.setPli_tim (s : State) (x : Pli) : (s.setPli x).tim = s.tim := rfl
@[simp] theorem State.setPli_sch (s : State) (x : Pli) : (s.setPli x).sch = s.sch := rfl
@[simp] theorem State.setPli_chn (s : State) (x : Pli) : (s.setPli x).chn = s.chn := rfl
@[simp] theorem State.setPli_ana (s : State) (x : Pli) : (s.setPli x).ana = s.ana := rfl
@[simp] theorem State.setPli_aln (s : State) (x : Pli) : (s.setPli x).aln = s.aln := rfl
@[simp] theorem State.setPli_cells (s : State) (x : Pli) : (s.setPli x).cells = s.cells := rfl
@[simp] theorem State.setPli_lim (s : State) (x : Pli) : (s.setPli x).lim = s.lim := rfl
@[simp] theorem State.setPli_cnd (s : State) (x : Pli) : (s.setPli x).cnd = s.cnd := rfl
@[simp] theorem State.setPli_kdr (s : State) (x : Pli) : (s.setPli x).kdr = s.kdr := rfl
@[simp] theorem State.setPli_seq (s : State) (x : Pli) : (s.setPli x).seq = s.seq := rfl
@[simp] theorem State.setPli_ctr (s : State) (x : Pli) : (s.setPli x).ctr = s.ctr := rfl
@[simp] theorem State.setPli_log (s : State) (x : Pli) : (s.setPli x).log = s.log := rfl
@[simp] theorem State.setPli_pwr (s : State) (x : Pli) : (s.setPli x).pwr = s.pwr := rfl
@[simp] theorem State.setPli_nvs (s : State) (x : Pli) : (s.setPli x).nvs = s.nvs := rfl
@[simp] theorem State.setPli_prof (s : State) (x : Pli) : (s.setPli x).prof = s.prof := rfl
@[simp] theorem State.setPli_upd (s : State) (x : Pli) : (s.setPli x).upd = s.upd := rfl
@[simp] theorem State.setPli_tmp (s : State) (x : Pli) : (s.setPli x).tmp = s.tmp := rfl
@[simp] theorem State.setPli_pli (s : State) (x : Pli) : (s.setPli x).pli = x := rfl
@[simp] theorem State.setPli_pins (s : State) (x : Pli) : (s.setPli x).pins = s.pins := rfl
@[simp] theorem State.setPli_pending (s : State) (x : Pli) : (s.setPli x).pending = s.pending := rfl
@[simp] theorem State.setPli_setPli (s : State) (x y : Pli) : (s.setPli x).setPli y = s.setPli y := rfl
@[simp] theorem State.setPli_self (s : State) : s.setPli s.pli = s := rfl
@[simp] theorem State.setPins_tim (s : State) (x : Pins) : (s.setPins x).tim = s.tim := rfl
@[simp] theorem State.setPins_sch (s : State) (x : Pins) : (s.setPins x).sch = s.sch := rfl
@[simp] theorem State.setPins_chn (s : State) (x : Pins) : (s.setPins x).chn = s.chn := rfl
@[simp] theorem State.setPins_ana (s : State) (x : Pins) : (s.setPins x).ana = s.ana := rfl
@[simp] theorem State.setPins_aln (s : State) (x : Pins) : (s.setPins x).aln = s.aln := rfl
@[simp] theorem State.setPins_cells (s : State) (x : Pins) : (s.setPins x).cells = s.cells := rfl
@[simp] theorem State.setPins_lim (s : State) (x : Pins) : (s.setPins x).lim = s.lim := rfl
@[simp] theorem State.setPins_cnd (s : State) (x : Pins) : (s.setPins x).cnd = s.cnd := rfl
@[simp] theorem State.setPins_kdr (s : State) (x : Pins) : (s.setPins x).kdr = s.kdr := rfl
@[simp] theorem State.setPins_seq (s : State) (x : Pins) : (s.setPins x).seq = s.seq := rfl
@[simp] theorem State.setPins_ctr (s : State) (x : Pins) : (s.setPins x).ctr = s.ctr := rfl
@[simp] theorem State.setPins_log (s : State) (x : Pins) : (s.setPins x).log = s.log := rfl
@[simp] theorem State.setPins_pwr (s : State) (x : Pins) : (s.setPins x).pwr = s.pwr := rfl
@[simp] theorem State.setPins_nvs (s : State) (x : Pins) : (s.setPins x).nvs = s.nvs := rfl
@[simp] theorem State.setPins_prof (s : State) (x : Pins) : (s.setPins x).prof = s.prof := rfl
@[simp] theorem State.setPins_upd (s : State) (x : Pins) : (s.setPins x).upd = s.upd := rfl
@[simp] theorem State.setPins_tmp (s : State) (x : Pins) : (s.setPins x).tmp = s.tmp := rfl
@[simp] theorem State.setPins_pli (s : State) (x : Pins) : (s.setPins x).pli = s.pli := rfl
@[simp] theorem State.setPins_pins (s : State) (x : Pins) : (s.setPins x).pins = x := rfl
@[simp] theorem State.setPins_pending (s : State) (x : Pins) : (s.setPins x).pending = s.pending := rfl
@[simp] theorem State.setPins_setPins (s : State) (x y : Pins) : (s.setPins x).setPins y = s.setPins y := rfl
@[simp] theorem State.setPins_self (s : State) : s.setPins s.pins = s := rfl
@[simp] theorem State.setPending_tim (s : State) (x : List Instr) : (s.setPending x).tim = s.tim := rfl
@[simp] theorem State.setPending_sch (s : State) (x : List Instr) : (s.setPending x).sch = s.sch := rfl
@[simp] theorem State.setPending_chn (s : State) (x : List Instr) : (s.setPending x).chn = s.chn := rfl
@[simp] theorem State.setPending_ana (s : State) (x : List Instr) : (s.setPending x).ana = s.ana := rfl
@[simp] theorem State.setPending_aln (s : State) (x : List Instr) : (s.setPending x).aln = s.aln := rfl
@[simp] theorem State.setPending_cells (s : State) (x : List Instr) : (s.setPending x).cells = s.cells := rfl
@[simp] theorem State.setPending_lim (s : State) (x : List Instr) : (s.setPending x).lim = s.lim := rfl
@[simp] theorem State.setPending_cnd (s : State) (x : List Instr) : (s.setPending x).cnd = s.cnd := rfl
@[simp] theorem State.setPending_kdr (s : State) (x : List Instr) : (s.setPending x).kdr = s.kdr := rfl
@[simp] theorem State.setPending_seq (s : State) (x : List Instr) : (s.setPending x).seq = s.seq := rfl
@[simp] theorem State.setPending_ctr (s : State) (x : List Instr) : (s.setPending x).ctr = s.ctr := rfl
@[simp] theorem State.setPending_log (s : State) (x : List Instr) : (s.setPending x).log = s.log := rfl
@[simp] theorem State.setPending_pwr (s : State) (x : List Instr) : (s.setPending x).pwr = s.pwr := rfl
@[simp] theorem State.setPending_nvs (s : State) (x : List Instr) : (s.setPending x).nvs = s.nvs := rfl
@[simp] theorem State.setPending_prof (s : State) (x : List Instr) : (s.setPending x).prof = s.prof := rfl
@[simp] theorem State.setPending_upd (s : State) (x : List Instr) : (s.setPending x).upd = s.upd := rfl
@[simp] theorem State.setPending_tmp (s : State) (x : List Instr) : (s.setPending x).tmp = s.tmp := rfl
@[simp] theorem State.setPending_pli (s : State) (x : List Instr) : (s.setPending x).pli = s.pli := rfl
@[simp] theorem State.setPending_pins (s : State) (x : List Instr) : (s.setPending x).pins = s.pins := rfl
@[simp] theorem State.setPending_pending (s : State) (x : List Instr) : (s.setPending x).pending = x := rfl
@[simp] theorem State.setPending_setPending (s : State) (x y : List Instr) : (s.setPending x).setPending y = s.setPending y := rfl
@[simp] theorem State.setPending_self (s : State) : s.setPending s.pending = s := rfl

end Sys2Proof.Machine
end

