-- ==== Sys2Proof/Laws/Frames.lean ====
section
/-! SUPPORT. Frames: for each operation of the blocks, the fields of State that it leaves alone. -/
namespace Sys2Proof.Machine

/-! ## Ops -/

@[simp] theorem advanceTo_frame (t : Time) (s : State) :
    (advanceTo t s).sch = s.sch ∧ (advanceTo t s).chn = s.chn ∧ (advanceTo t s).ana = s.ana ∧ (advanceTo t s).aln = s.aln
    ∧ (advanceTo t s).cells = s.cells ∧ (advanceTo t s).lim = s.lim ∧ (advanceTo t s).cnd = s.cnd ∧ (advanceTo t s).kdr = s.kdr
    ∧ (advanceTo t s).seq = s.seq ∧ (advanceTo t s).ctr = s.ctr ∧ (advanceTo t s).log = s.log ∧ (advanceTo t s).pwr = s.pwr
    ∧ (advanceTo t s).nvs = s.nvs ∧ (advanceTo t s).prof = s.prof ∧ (advanceTo t s).upd = s.upd ∧ (advanceTo t s).tmp = s.tmp
    ∧ (advanceTo t s).pli = s.pli ∧ (advanceTo t s).pins = s.pins ∧ (advanceTo t s).pending = s.pending := by
  unfold advanceTo; (try dsimp only); (repeat' split) <;> simp

@[simp] theorem setCell_frame (s : State) (i : Nat) (c : Cell) :
    (State.setCell s i c).tim = s.tim ∧ (State.setCell s i c).sch = s.sch ∧ (State.setCell s i c).chn = s.chn
    ∧ (State.setCell s i c).ana = s.ana ∧ (State.setCell s i c).aln = s.aln ∧ (State.setCell s i c).lim = s.lim
    ∧ (State.setCell s i c).cnd = s.cnd ∧ (State.setCell s i c).kdr = s.kdr ∧ (State.setCell s i c).seq = s.seq
    ∧ (State.setCell s i c).ctr = s.ctr ∧ (State.setCell s i c).log = s.log ∧ (State.setCell s i c).pwr = s.pwr
    ∧ (State.setCell s i c).nvs = s.nvs ∧ (State.setCell s i c).prof = s.prof ∧ (State.setCell s i c).upd = s.upd
    ∧ (State.setCell s i c).tmp = s.tmp ∧ (State.setCell s i c).pli = s.pli ∧ (State.setCell s i c).pins = s.pins
    ∧ (State.setCell s i c).pending = s.pending := by
  unfold State.setCell; (try dsimp only); (repeat' split) <;> simp

@[simp] theorem setChan_frame (s : State) (k : Nat) (c : Chan) :
    (State.setChan s k c).tim = s.tim ∧ (State.setChan s k c).sch = s.sch ∧ (State.setChan s k c).chn = s.chn
    ∧ (State.setChan s k c).ana = s.ana ∧ (State.setChan s k c).aln = s.aln ∧ (State.setChan s k c).cells = s.cells
    ∧ (State.setChan s k c).lim = s.lim ∧ (State.setChan s k c).cnd = s.cnd ∧ (State.setChan s k c).seq = s.seq
    ∧ (State.setChan s k c).ctr = s.ctr ∧ (State.setChan s k c).log = s.log ∧ (State.setChan s k c).pwr = s.pwr
    ∧ (State.setChan s k c).nvs = s.nvs ∧ (State.setChan s k c).prof = s.prof ∧ (State.setChan s k c).upd = s.upd
    ∧ (State.setChan s k c).tmp = s.tmp ∧ (State.setChan s k c).pli = s.pli ∧ (State.setChan s k c).pins = s.pins
    ∧ (State.setChan s k c).pending = s.pending := by
  unfold State.setChan; (try dsimp only); (repeat' split) <;> simp

@[simp] theorem setMod_frame (s : State) (k : Nat) (m : ModEntry) :
    (State.setMod s k m).tim = s.tim ∧ (State.setMod s k m).sch = s.sch ∧ (State.setMod s k m).ana = s.ana
    ∧ (State.setMod s k m).aln = s.aln ∧ (State.setMod s k m).cells = s.cells ∧ (State.setMod s k m).lim = s.lim
    ∧ (State.setMod s k m).cnd = s.cnd ∧ (State.setMod s k m).kdr = s.kdr ∧ (State.setMod s k m).seq = s.seq
    ∧ (State.setMod s k m).ctr = s.ctr ∧ (State.setMod s k m).log = s.log ∧ (State.setMod s k m).pwr = s.pwr
    ∧ (State.setMod s k m).nvs = s.nvs ∧ (State.setMod s k m).prof = s.prof ∧ (State.setMod s k m).upd = s.upd
    ∧ (State.setMod s k m).tmp = s.tmp ∧ (State.setMod s k m).pli = s.pli ∧ (State.setMod s k m).pins = s.pins
    ∧ (State.setMod s k m).pending = s.pending := by
  unfold State.setMod; (try dsimp only); (repeat' split) <;> simp

/-! ## Flags -/

@[simp] theorem setCond_frame (c : Cond) (s : State) :
    (setCond c s).tim = s.tim ∧ (setCond c s).sch = s.sch ∧ (setCond c s).chn = s.chn ∧ (setCond c s).ana = s.ana
    ∧ (setCond c s).aln = s.aln ∧ (setCond c s).cells = s.cells ∧ (setCond c s).lim = s.lim ∧ (setCond c s).kdr = s.kdr
    ∧ (setCond c s).seq = s.seq ∧ (setCond c s).ctr = s.ctr ∧ (setCond c s).log = s.log ∧ (setCond c s).pwr = s.pwr
    ∧ (setCond c s).nvs = s.nvs ∧ (setCond c s).prof = s.prof ∧ (setCond c s).upd = s.upd ∧ (setCond c s).tmp = s.tmp
    ∧ (setCond c s).pli = s.pli ∧ (setCond c s).pins = s.pins ∧ (setCond c s).pending = s.pending := by
  unfold setCond; (try dsimp only); (repeat' split) <;> simp

/-- Setting a condition commutes with a change of the analog channels. -/
theorem setCond_setAna (c : Cond) (s : State) (a : Ana) : setCond c (s.setAna a) = (setCond c s).setAna a := by
  unfold setCond
  rw [show (s.setAna a).condSet c = s.condSet c from rfl]
  split <;> simp [State.condEnabled] <;> rfl

@[simp] theorem clearCond_frame (c : Cond) (s : State) :
    (clearCond c s).tim = s.tim ∧ (clearCond c s).sch = s.sch ∧ (clearCond c s).chn = s.chn ∧ (clearCond c s).ana = s.ana
    ∧ (clearCond c s).aln = s.aln ∧ (clearCond c s).cells = s.cells ∧ (clearCond c s).lim = s.lim ∧ (clearCond c s).kdr = s.kdr
    ∧ (clearCond c s).seq = s.seq ∧ (clearCond c s).ctr = s.ctr ∧ (clearCond c s).log = s.log ∧ (clearCond c s).pwr = s.pwr
    ∧ (clearCond c s).nvs = s.nvs ∧ (clearCond c s).prof = s.prof ∧ (clearCond c s).upd = s.upd ∧ (clearCond c s).tmp = s.tmp
    ∧ (clearCond c s).pli = s.pli ∧ (clearCond c s).pins = s.pins ∧ (clearCond c s).pending = s.pending := by
  unfold clearCond; (try dsimp only); (repeat' split) <;> simp

@[simp] theorem liveCond_frame (c : Cond) (holds : Bool) (s : State) :
    (liveCond c holds s).tim = s.tim ∧ (liveCond c holds s).sch = s.sch ∧ (liveCond c holds s).chn = s.chn
    ∧ (liveCond c holds s).ana = s.ana ∧ (liveCond c holds s).aln = s.aln ∧ (liveCond c holds s).cells = s.cells
    ∧ (liveCond c holds s).lim = s.lim ∧ (liveCond c holds s).kdr = s.kdr ∧ (liveCond c holds s).seq = s.seq
    ∧ (liveCond c holds s).ctr = s.ctr ∧ (liveCond c holds s).log = s.log ∧ (liveCond c holds s).pwr = s.pwr
    ∧ (liveCond c holds s).nvs = s.nvs ∧ (liveCond c holds s).prof = s.prof ∧ (liveCond c holds s).upd = s.upd
    ∧ (liveCond c holds s).tmp = s.tmp ∧ (liveCond c holds s).pli = s.pli ∧ (liveCond c holds s).pins = s.pins
    ∧ (liveCond c holds s).pending = s.pending := by
  unfold liveCond; (try dsimp only); (repeat' split) <;> simp

@[simp] theorem replaceEnables_frame (e : CondMask) (s : State) :
    (replaceEnables e s).tim = s.tim ∧ (replaceEnables e s).sch = s.sch ∧ (replaceEnables e s).chn = s.chn
    ∧ (replaceEnables e s).ana = s.ana ∧ (replaceEnables e s).aln = s.aln ∧ (replaceEnables e s).cells = s.cells
    ∧ (replaceEnables e s).lim = s.lim ∧ (replaceEnables e s).kdr = s.kdr ∧ (replaceEnables e s).seq = s.seq
    ∧ (replaceEnables e s).ctr = s.ctr ∧ (replaceEnables e s).log = s.log ∧ (replaceEnables e s).pwr = s.pwr
    ∧ (replaceEnables e s).nvs = s.nvs ∧ (replaceEnables e s).prof = s.prof ∧ (replaceEnables e s).upd = s.upd
    ∧ (replaceEnables e s).tmp = s.tmp ∧ (replaceEnables e s).pli = s.pli ∧ (replaceEnables e s).pins = s.pins
    ∧ (replaceEnables e s).pending = s.pending := by
  unfold replaceEnables; (try dsimp only); (repeat' split) <;> simp

@[simp] theorem judgeStale_frame (s : State) :
    (judgeStale s).tim = s.tim ∧ (judgeStale s).sch = s.sch ∧ (judgeStale s).chn = s.chn ∧ (judgeStale s).ana = s.ana
    ∧ (judgeStale s).aln = s.aln ∧ (judgeStale s).cells = s.cells ∧ (judgeStale s).lim = s.lim ∧ (judgeStale s).kdr = s.kdr
    ∧ (judgeStale s).seq = s.seq ∧ (judgeStale s).ctr = s.ctr ∧ (judgeStale s).log = s.log ∧ (judgeStale s).pwr = s.pwr
    ∧ (judgeStale s).nvs = s.nvs ∧ (judgeStale s).prof = s.prof ∧ (judgeStale s).upd = s.upd ∧ (judgeStale s).tmp = s.tmp
    ∧ (judgeStale s).pli = s.pli ∧ (judgeStale s).pins = s.pins ∧ (judgeStale s).pending = s.pending := by
  unfold judgeStale; (try dsimp only); (repeat' split) <;> simp

@[simp] theorem judgeModuleLost_frame (s : State) :
    (judgeModuleLost s).tim = s.tim ∧ (judgeModuleLost s).sch = s.sch ∧ (judgeModuleLost s).chn = s.chn
    ∧ (judgeModuleLost s).ana = s.ana ∧ (judgeModuleLost s).aln = s.aln ∧ (judgeModuleLost s).cells = s.cells
    ∧ (judgeModuleLost s).lim = s.lim ∧ (judgeModuleLost s).kdr = s.kdr ∧ (judgeModuleLost s).seq = s.seq
    ∧ (judgeModuleLost s).ctr = s.ctr ∧ (judgeModuleLost s).log = s.log ∧ (judgeModuleLost s).pwr = s.pwr
    ∧ (judgeModuleLost s).nvs = s.nvs ∧ (judgeModuleLost s).prof = s.prof ∧ (judgeModuleLost s).upd = s.upd
    ∧ (judgeModuleLost s).tmp = s.tmp ∧ (judgeModuleLost s).pli = s.pli ∧ (judgeModuleLost s).pins = s.pins
    ∧ (judgeModuleLost s).pending = s.pending := by
  unfold judgeModuleLost; (try dsimp only); (repeat' split) <;> simp

@[simp] theorem judgeContactorFault_frame (s : State) :
    (judgeContactorFault s).tim = s.tim ∧ (judgeContactorFault s).sch = s.sch ∧ (judgeContactorFault s).chn = s.chn
    ∧ (judgeContactorFault s).ana = s.ana ∧ (judgeContactorFault s).aln = s.aln ∧ (judgeContactorFault s).cells = s.cells
    ∧ (judgeContactorFault s).lim = s.lim ∧ (judgeContactorFault s).kdr = s.kdr ∧ (judgeContactorFault s).seq = s.seq
    ∧ (judgeContactorFault s).ctr = s.ctr ∧ (judgeContactorFault s).log = s.log ∧ (judgeContactorFault s).pwr = s.pwr
    ∧ (judgeContactorFault s).nvs = s.nvs ∧ (judgeContactorFault s).prof = s.prof ∧ (judgeContactorFault s).upd = s.upd
    ∧ (judgeContactorFault s).tmp = s.tmp ∧ (judgeContactorFault s).pli = s.pli ∧ (judgeContactorFault s).pins = s.pins
    ∧ (judgeContactorFault s).pending = s.pending := by
  unfold judgeContactorFault; (try dsimp only); (repeat' split) <;> simp

@[simp] theorem judgeThreshold_frame (s : State) :
    (judgeThreshold s).tim = s.tim ∧ (judgeThreshold s).sch = s.sch ∧ (judgeThreshold s).chn = s.chn
    ∧ (judgeThreshold s).ana = s.ana ∧ (judgeThreshold s).aln = s.aln ∧ (judgeThreshold s).cells = s.cells
    ∧ (judgeThreshold s).lim = s.lim ∧ (judgeThreshold s).kdr = s.kdr ∧ (judgeThreshold s).seq = s.seq
    ∧ (judgeThreshold s).ctr = s.ctr ∧ (judgeThreshold s).log = s.log ∧ (judgeThreshold s).pwr = s.pwr
    ∧ (judgeThreshold s).nvs = s.nvs ∧ (judgeThreshold s).prof = s.prof ∧ (judgeThreshold s).upd = s.upd
    ∧ (judgeThreshold s).tmp = s.tmp ∧ (judgeThreshold s).pli = s.pli ∧ (judgeThreshold s).pins = s.pins
    ∧ (judgeThreshold s).pending = s.pending := by
  unfold judgeThreshold; (try dsimp only); (repeat' split) <;> simp

@[simp] theorem judgeTamper_frame (s : State) :
    (judgeTamper s).tim = s.tim ∧ (judgeTamper s).sch = s.sch ∧ (judgeTamper s).chn = s.chn ∧ (judgeTamper s).ana = s.ana
    ∧ (judgeTamper s).aln = s.aln ∧ (judgeTamper s).cells = s.cells ∧ (judgeTamper s).lim = s.lim ∧ (judgeTamper s).kdr = s.kdr
    ∧ (judgeTamper s).seq = s.seq ∧ (judgeTamper s).ctr = s.ctr ∧ (judgeTamper s).log = s.log ∧ (judgeTamper s).pwr = s.pwr
    ∧ (judgeTamper s).nvs = s.nvs ∧ (judgeTamper s).prof = s.prof ∧ (judgeTamper s).upd = s.upd ∧ (judgeTamper s).tmp = s.tmp
    ∧ (judgeTamper s).pli = s.pli ∧ (judgeTamper s).pins = s.pins ∧ (judgeTamper s).pending = s.pending := by
  unfold judgeTamper; (try dsimp only); (repeat' split) <;> simp

@[simp] theorem judgeBreach_frame (s : State) :
    (judgeBreach s).tim = s.tim ∧ (judgeBreach s).sch = s.sch ∧ (judgeBreach s).chn = s.chn ∧ (judgeBreach s).ana = s.ana
    ∧ (judgeBreach s).aln = s.aln ∧ (judgeBreach s).cells = s.cells ∧ (judgeBreach s).lim = s.lim ∧ (judgeBreach s).kdr = s.kdr
    ∧ (judgeBreach s).seq = s.seq ∧ (judgeBreach s).ctr = s.ctr ∧ (judgeBreach s).log = s.log ∧ (judgeBreach s).pwr = s.pwr
    ∧ (judgeBreach s).nvs = s.nvs ∧ (judgeBreach s).prof = s.prof ∧ (judgeBreach s).upd = s.upd ∧ (judgeBreach s).tmp = s.tmp
    ∧ (judgeBreach s).pli = s.pli ∧ (judgeBreach s).pins = s.pins ∧ (judgeBreach s).pending = s.pending := by
  unfold judgeBreach; (try dsimp only); (repeat' split) <;> simp

/-! ## Counters -/

@[simp] theorem offerRecord_frame (faultClass : Bool) (body : RecordBody) (s : State) :
    (offerRecord faultClass body s).tim = s.tim ∧ (offerRecord faultClass body s).sch = s.sch
    ∧ (offerRecord faultClass body s).chn = s.chn ∧ (offerRecord faultClass body s).ana = s.ana
    ∧ (offerRecord faultClass body s).aln = s.aln ∧ (offerRecord faultClass body s).cells = s.cells
    ∧ (offerRecord faultClass body s).lim = s.lim ∧ (offerRecord faultClass body s).kdr = s.kdr
    ∧ (offerRecord faultClass body s).seq = s.seq ∧ (offerRecord faultClass body s).ctr = s.ctr
    ∧ (offerRecord faultClass body s).pwr = s.pwr ∧ (offerRecord faultClass body s).nvs = s.nvs
    ∧ (offerRecord faultClass body s).prof = s.prof ∧ (offerRecord faultClass body s).upd = s.upd
    ∧ (offerRecord faultClass body s).tmp = s.tmp ∧ (offerRecord faultClass body s).pli = s.pli
    ∧ (offerRecord faultClass body s).pins = s.pins ∧ (offerRecord faultClass body s).pending = s.pending := by
  unfold offerRecord; (try dsimp only); (repeat' split) <;> simp

@[simp] theorem judgeOverflow_frame (s : State) :
    (judgeOverflow s).tim = s.tim ∧ (judgeOverflow s).sch = s.sch ∧ (judgeOverflow s).chn = s.chn
    ∧ (judgeOverflow s).ana = s.ana ∧ (judgeOverflow s).aln = s.aln ∧ (judgeOverflow s).cells = s.cells
    ∧ (judgeOverflow s).lim = s.lim ∧ (judgeOverflow s).kdr = s.kdr ∧ (judgeOverflow s).seq = s.seq
    ∧ (judgeOverflow s).ctr = s.ctr ∧ (judgeOverflow s).log = s.log ∧ (judgeOverflow s).pwr = s.pwr
    ∧ (judgeOverflow s).nvs = s.nvs ∧ (judgeOverflow s).prof = s.prof ∧ (judgeOverflow s).upd = s.upd
    ∧ (judgeOverflow s).tmp = s.tmp ∧ (judgeOverflow s).pli = s.pli ∧ (judgeOverflow s).pins = s.pins
    ∧ (judgeOverflow s).pending = s.pending := by
  unfold judgeOverflow; (try dsimp only); (repeat' split) <;> simp

@[simp] theorem occurrence_frame (k : EventKind) (s : State) :
    (occurrence k s).tim = s.tim ∧ (occurrence k s).sch = s.sch ∧ (occurrence k s).chn = s.chn ∧ (occurrence k s).ana = s.ana
    ∧ (occurrence k s).aln = s.aln ∧ (occurrence k s).cells = s.cells ∧ (occurrence k s).lim = s.lim
    ∧ (occurrence k s).kdr = s.kdr ∧ (occurrence k s).seq = s.seq ∧ (occurrence k s).log = s.log ∧ (occurrence k s).pwr = s.pwr
    ∧ (occurrence k s).nvs = s.nvs ∧ (occurrence k s).prof = s.prof ∧ (occurrence k s).upd = s.upd
    ∧ (occurrence k s).tmp = s.tmp ∧ (occurrence k s).pli = s.pli ∧ (occurrence k s).pins = s.pins
    ∧ (occurrence k s).pending = s.pending := by
  unfold occurrence; (try dsimp only); (repeat' split) <;> simp

@[simp] theorem occurrences_frame (k : EventKind) (n : Nat) (s : State) :
    (occurrences k n s).tim = s.tim ∧ (occurrences k n s).sch = s.sch ∧ (occurrences k n s).chn = s.chn
    ∧ (occurrences k n s).ana = s.ana ∧ (occurrences k n s).aln = s.aln ∧ (occurrences k n s).cells = s.cells
    ∧ (occurrences k n s).lim = s.lim ∧ (occurrences k n s).kdr = s.kdr ∧ (occurrences k n s).seq = s.seq
    ∧ (occurrences k n s).log = s.log ∧ (occurrences k n s).pwr = s.pwr ∧ (occurrences k n s).nvs = s.nvs
    ∧ (occurrences k n s).prof = s.prof ∧ (occurrences k n s).upd = s.upd ∧ (occurrences k n s).tmp = s.tmp
    ∧ (occurrences k n s).pli = s.pli ∧ (occurrences k n s).pins = s.pins ∧ (occurrences k n s).pending = s.pending := by
  induction n generalizing s with
    | zero => simp [occurrences]
    | succ n ih => simp [occurrences, ih]

@[simp] theorem snapshotCheck_frame (s : State) :
    (snapshotCheck s).tim = s.tim ∧ (snapshotCheck s).sch = s.sch ∧ (snapshotCheck s).chn = s.chn
    ∧ (snapshotCheck s).ana = s.ana ∧ (snapshotCheck s).aln = s.aln ∧ (snapshotCheck s).cells = s.cells
    ∧ (snapshotCheck s).lim = s.lim ∧ (snapshotCheck s).kdr = s.kdr ∧ (snapshotCheck s).seq = s.seq
    ∧ (snapshotCheck s).pwr = s.pwr ∧ (snapshotCheck s).nvs = s.nvs ∧ (snapshotCheck s).prof = s.prof
    ∧ (snapshotCheck s).upd = s.upd ∧ (snapshotCheck s).tmp = s.tmp ∧ (snapshotCheck s).pli = s.pli
    ∧ (snapshotCheck s).pins = s.pins ∧ (snapshotCheck s).pending = s.pending := by
  unfold snapshotCheck; (try dsimp only); (repeat' split) <;> simp

/-! ## Nv -/

theorem offerOp_frame (op : NvOp) (s t : State) (h : offerOp op s = some t) :
    t.tim = s.tim ∧ t.sch = s.sch ∧ t.chn = s.chn ∧ t.ana = s.ana ∧ t.aln = s.aln ∧ t.cells = s.cells ∧ t.lim = s.lim
    ∧ t.cnd = s.cnd ∧ t.kdr = s.kdr ∧ t.seq = s.seq ∧ t.ctr = s.ctr ∧ t.log = s.log ∧ t.pwr = s.pwr ∧ t.prof = s.prof
    ∧ t.upd = s.upd ∧ t.tmp = s.tmp ∧ t.pli = s.pli ∧ t.pins = s.pins ∧ t.pending = s.pending := by
  unfold offerOp at h
  split at h
  · cases h; simp
  · split at h
    · cases h; simp
    · cases h

@[simp] theorem offerSure_frame (op : NvOp) (s : State) :
    (offerSure op s).tim = s.tim ∧ (offerSure op s).sch = s.sch ∧ (offerSure op s).chn = s.chn ∧ (offerSure op s).ana = s.ana
    ∧ (offerSure op s).aln = s.aln ∧ (offerSure op s).cells = s.cells ∧ (offerSure op s).lim = s.lim
    ∧ (offerSure op s).cnd = s.cnd ∧ (offerSure op s).kdr = s.kdr ∧ (offerSure op s).seq = s.seq ∧ (offerSure op s).ctr = s.ctr
    ∧ (offerSure op s).log = s.log ∧ (offerSure op s).pwr = s.pwr ∧ (offerSure op s).prof = s.prof
    ∧ (offerSure op s).upd = s.upd ∧ (offerSure op s).tmp = s.tmp ∧ (offerSure op s).pli = s.pli
    ∧ (offerSure op s).pins = s.pins ∧ (offerSure op s).pending = s.pending := by
  unfold offerSure
  cases h : offerOp op s with
  | none => simp
  | some t => simpa using offerOp_frame op s t h

/-- Bank y after bank x was replaced. -/
@[simp] theorem NvMem.bank_setBank (m : NvMem) (x y : AB) (b : BankMem) : (m.setBank x b).bank y = if y = x then b else m.bank y := by
  cases x <;> cases y <;> rfl

@[simp] theorem setBankStatus_frame (x : AB) (st : BankStatus) (s : State) :
    (setBankStatus x st s).tim = s.tim ∧ (setBankStatus x st s).sch = s.sch ∧ (setBankStatus x st s).chn = s.chn
    ∧ (setBankStatus x st s).ana = s.ana ∧ (setBankStatus x st s).aln = s.aln ∧ (setBankStatus x st s).cells = s.cells
    ∧ (setBankStatus x st s).lim = s.lim ∧ (setBankStatus x st s).cnd = s.cnd ∧ (setBankStatus x st s).kdr = s.kdr
    ∧ (setBankStatus x st s).seq = s.seq ∧ (setBankStatus x st s).ctr = s.ctr ∧ (setBankStatus x st s).log = s.log
    ∧ (setBankStatus x st s).pwr = s.pwr ∧ (setBankStatus x st s).prof = s.prof ∧ (setBankStatus x st s).upd = s.upd
    ∧ (setBankStatus x st s).tmp = s.tmp ∧ (setBankStatus x st s).pli = s.pli ∧ (setBankStatus x st s).pins = s.pins
    ∧ (setBankStatus x st s).pending = s.pending := by
  unfold setBankStatus; (try dsimp only); (repeat' split) <;> simp

@[simp] theorem beginEffects_frame (op : NvOp) (s : State) :
    (beginEffects op s).tim = s.tim ∧ (beginEffects op s).sch = s.sch ∧ (beginEffects op s).chn = s.chn
    ∧ (beginEffects op s).ana = s.ana ∧ (beginEffects op s).aln = s.aln ∧ (beginEffects op s).cells = s.cells
    ∧ (beginEffects op s).lim = s.lim ∧ (beginEffects op s).cnd = s.cnd ∧ (beginEffects op s).seq = s.seq
    ∧ (beginEffects op s).ctr = s.ctr ∧ (beginEffects op s).log = s.log ∧ (beginEffects op s).pwr = s.pwr
    ∧ (beginEffects op s).prof = s.prof ∧ (beginEffects op s).pli = s.pli ∧ (beginEffects op s).pins = s.pins
    ∧ (beginEffects op s).pending = s.pending := by
  unfold beginEffects; (try dsimp only); (repeat' split) <;> simp

@[simp] theorem nvBegin_frame (s : State) :
    (nvBegin s).tim = s.tim ∧ (nvBegin s).sch = s.sch ∧ (nvBegin s).chn = s.chn ∧ (nvBegin s).ana = s.ana
    ∧ (nvBegin s).aln = s.aln ∧ (nvBegin s).cells = s.cells ∧ (nvBegin s).lim = s.lim ∧ (nvBegin s).cnd = s.cnd
    ∧ (nvBegin s).seq = s.seq ∧ (nvBegin s).ctr = s.ctr ∧ (nvBegin s).log = s.log ∧ (nvBegin s).pwr = s.pwr
    ∧ (nvBegin s).prof = s.prof ∧ (nvBegin s).pli = s.pli ∧ (nvBegin s).pins = s.pins ∧ (nvBegin s).pending = s.pending := by
  unfold nvBegin; (try dsimp only); (repeat' split) <;> simp

@[simp] theorem floorRaised_frame (x : AB) (s : State) :
    (floorRaised x s).tim = s.tim ∧ (floorRaised x s).sch = s.sch ∧ (floorRaised x s).chn = s.chn
    ∧ (floorRaised x s).ana = s.ana ∧ (floorRaised x s).aln = s.aln ∧ (floorRaised x s).cells = s.cells
    ∧ (floorRaised x s).lim = s.lim ∧ (floorRaised x s).cnd = s.cnd ∧ (floorRaised x s).kdr = s.kdr
    ∧ (floorRaised x s).seq = s.seq ∧ (floorRaised x s).ctr = s.ctr ∧ (floorRaised x s).log = s.log
    ∧ (floorRaised x s).pwr = s.pwr ∧ (floorRaised x s).prof = s.prof ∧ (floorRaised x s).upd = s.upd
    ∧ (floorRaised x s).tmp = s.tmp ∧ (floorRaised x s).pli = s.pli ∧ (floorRaised x s).pins = s.pins
    ∧ (floorRaised x s).pending = s.pending := by
  unfold floorRaised; (try dsimp only); (repeat' split) <;> simp

@[simp] theorem anchorInForce_frame (slot : AB) (c : Anchor) (s : State) :
    (anchorInForce slot c s).tim = s.tim ∧ (anchorInForce slot c s).sch = s.sch ∧ (anchorInForce slot c s).chn = s.chn
    ∧ (anchorInForce slot c s).ana = s.ana ∧ (anchorInForce slot c s).aln = s.aln ∧ (anchorInForce slot c s).cells = s.cells
    ∧ (anchorInForce slot c s).lim = s.lim ∧ (anchorInForce slot c s).cnd = s.cnd ∧ (anchorInForce slot c s).kdr = s.kdr
    ∧ (anchorInForce slot c s).seq = s.seq ∧ (anchorInForce slot c s).ctr = s.ctr ∧ (anchorInForce slot c s).log = s.log
    ∧ (anchorInForce slot c s).pwr = s.pwr ∧ (anchorInForce slot c s).prof = s.prof ∧ (anchorInForce slot c s).upd = s.upd
    ∧ (anchorInForce slot c s).tmp = s.tmp ∧ (anchorInForce slot c s).pli = s.pli ∧ (anchorInForce slot c s).pins = s.pins
    ∧ (anchorInForce slot c s).pending = s.pending := by
  unfold anchorInForce; (try dsimp only); (repeat' split) <;> simp

/-! ## Analog -/

@[simp] theorem classEntry_frame (e : RingEntry) (s : State) :
    (classEntry e s).tim = s.tim ∧ (classEntry e s).sch = s.sch ∧ (classEntry e s).chn = s.chn ∧ (classEntry e s).aln = s.aln
    ∧ (classEntry e s).cells = s.cells ∧ (classEntry e s).lim = s.lim ∧ (classEntry e s).cnd = s.cnd
    ∧ (classEntry e s).kdr = s.kdr ∧ (classEntry e s).seq = s.seq ∧ (classEntry e s).ctr = s.ctr ∧ (classEntry e s).log = s.log
    ∧ (classEntry e s).pwr = s.pwr ∧ (classEntry e s).nvs = s.nvs ∧ (classEntry e s).prof = s.prof
    ∧ (classEntry e s).upd = s.upd ∧ (classEntry e s).tmp = s.tmp ∧ (classEntry e s).pli = s.pli
    ∧ (classEntry e s).pins = s.pins ∧ (classEntry e s).pending = s.pending := by
  unfold classEntry; (try dsimp only); (repeat' split) <;> simp

@[simp] theorem tickOverCurrent_frame (s : State) :
    (tickOverCurrent s).tim = s.tim ∧ (tickOverCurrent s).sch = s.sch ∧ (tickOverCurrent s).chn = s.chn
    ∧ (tickOverCurrent s).aln = s.aln ∧ (tickOverCurrent s).cells = s.cells ∧ (tickOverCurrent s).lim = s.lim
    ∧ (tickOverCurrent s).cnd = s.cnd ∧ (tickOverCurrent s).kdr = s.kdr ∧ (tickOverCurrent s).seq = s.seq
    ∧ (tickOverCurrent s).ctr = s.ctr ∧ (tickOverCurrent s).log = s.log ∧ (tickOverCurrent s).pwr = s.pwr
    ∧ (tickOverCurrent s).nvs = s.nvs ∧ (tickOverCurrent s).prof = s.prof ∧ (tickOverCurrent s).upd = s.upd
    ∧ (tickOverCurrent s).tmp = s.tmp ∧ (tickOverCurrent s).pli = s.pli ∧ (tickOverCurrent s).pins = s.pins
    ∧ (tickOverCurrent s).pending = s.pending := by
  unfold tickOverCurrent; (try dsimp only); (repeat' split) <;> simp

@[simp] theorem makeAlignment_frame (target : Option Nat) (al : Aligned) (s : State) :
    (makeAlignment target al s).tim = s.tim ∧ (makeAlignment target al s).chn = s.chn ∧ (makeAlignment target al s).ana = s.ana
    ∧ (makeAlignment target al s).aln = s.aln ∧ (makeAlignment target al s).lim = s.lim
    ∧ (makeAlignment target al s).kdr = s.kdr ∧ (makeAlignment target al s).seq = s.seq
    ∧ (makeAlignment target al s).log = s.log ∧ (makeAlignment target al s).pwr = s.pwr
    ∧ (makeAlignment target al s).nvs = s.nvs ∧ (makeAlignment target al s).prof = s.prof
    ∧ (makeAlignment target al s).upd = s.upd ∧ (makeAlignment target al s).tmp = s.tmp
    ∧ (makeAlignment target al s).pli = s.pli ∧ (makeAlignment target al s).pins = s.pins
    ∧ (makeAlignment target al s).pending = s.pending := by
  unfold makeAlignment; (try dsimp only); (repeat' split) <;> simp

@[simp] theorem submitAlign_frame (target : Option Nat) (t : Time) (s : State) :
    (submitAlign target t s).tim = s.tim ∧ (submitAlign target t s).chn = s.chn ∧ (submitAlign target t s).ana = s.ana
    ∧ (submitAlign target t s).lim = s.lim ∧ (submitAlign target t s).kdr = s.kdr ∧ (submitAlign target t s).seq = s.seq
    ∧ (submitAlign target t s).log = s.log ∧ (submitAlign target t s).pwr = s.pwr ∧ (submitAlign target t s).nvs = s.nvs
    ∧ (submitAlign target t s).prof = s.prof ∧ (submitAlign target t s).upd = s.upd ∧ (submitAlign target t s).tmp = s.tmp
    ∧ (submitAlign target t s).pli = s.pli ∧ (submitAlign target t s).pins = s.pins
    ∧ (submitAlign target t s).pending = s.pending := by
  unfold submitAlign; (try dsimp only); (repeat' split) <;> simp

@[simp] theorem reclassify_frame (l : List AlignItem) (s : State) :
    (reclassify l s).tim = s.tim ∧ (reclassify l s).chn = s.chn ∧ (reclassify l s).ana = s.ana ∧ (reclassify l s).lim = s.lim
    ∧ (reclassify l s).kdr = s.kdr ∧ (reclassify l s).seq = s.seq ∧ (reclassify l s).log = s.log ∧ (reclassify l s).pwr = s.pwr
    ∧ (reclassify l s).nvs = s.nvs ∧ (reclassify l s).prof = s.prof ∧ (reclassify l s).upd = s.upd
    ∧ (reclassify l s).tmp = s.tmp ∧ (reclassify l s).pli = s.pli ∧ (reclassify l s).pins = s.pins
    ∧ (reclassify l s).pending = s.pending := by
  induction l generalizing s with
    | nil => simp [reclassify]
    | cons it l ih => unfold reclassify; split <;> simp [ih]

@[simp] theorem anaPowerDown_frame (s : State) :
    (anaPowerDown s).tim = s.tim ∧ (anaPowerDown s).sch = s.sch ∧ (anaPowerDown s).chn = s.chn ∧ (anaPowerDown s).aln = s.aln
    ∧ (anaPowerDown s).cells = s.cells ∧ (anaPowerDown s).lim = s.lim ∧ (anaPowerDown s).kdr = s.kdr
    ∧ (anaPowerDown s).seq = s.seq ∧ (anaPowerDown s).ctr = s.ctr ∧ (anaPowerDown s).log = s.log ∧ (anaPowerDown s).pwr = s.pwr
    ∧ (anaPowerDown s).nvs = s.nvs ∧ (anaPowerDown s).prof = s.prof ∧ (anaPowerDown s).upd = s.upd
    ∧ (anaPowerDown s).tmp = s.tmp ∧ (anaPowerDown s).pli = s.pli ∧ (anaPowerDown s).pins = s.pins
    ∧ (anaPowerDown s).pending = s.pending := by
  unfold anaPowerDown; (try dsimp only); (repeat' split) <;> simp

@[simp] theorem anaPowerUp_frame (s : State) :
    (anaPowerUp s).tim = s.tim ∧ (anaPowerUp s).sch = s.sch ∧ (anaPowerUp s).chn = s.chn ∧ (anaPowerUp s).aln = s.aln
    ∧ (anaPowerUp s).cells = s.cells ∧ (anaPowerUp s).lim = s.lim ∧ (anaPowerUp s).cnd = s.cnd ∧ (anaPowerUp s).kdr = s.kdr
    ∧ (anaPowerUp s).seq = s.seq ∧ (anaPowerUp s).ctr = s.ctr ∧ (anaPowerUp s).log = s.log ∧ (anaPowerUp s).pwr = s.pwr
    ∧ (anaPowerUp s).nvs = s.nvs ∧ (anaPowerUp s).prof = s.prof ∧ (anaPowerUp s).upd = s.upd ∧ (anaPowerUp s).tmp = s.tmp
    ∧ (anaPowerUp s).pli = s.pli ∧ (anaPowerUp s).pins = s.pins ∧ (anaPowerUp s).pending = s.pending := by
  unfold anaPowerUp; (try dsimp only); (repeat' split) <;> simp

/-! ## Contactors -/

@[simp] theorem handOn_frame (k : Nat) (left entered : KState) (tm : Times) (hardBreak : Bool) (instant : Time) (s : State) :
    (handOn k left entered tm hardBreak instant s).tim = s.tim ∧ (handOn k left entered tm hardBreak instant s).sch = s.sch
    ∧ (handOn k left entered tm hardBreak instant s).chn = s.chn ∧ (handOn k left entered tm hardBreak instant s).ana = s.ana
    ∧ (handOn k left entered tm hardBreak instant s).aln = s.aln
    ∧ (handOn k left entered tm hardBreak instant s).cells = s.cells
    ∧ (handOn k left entered tm hardBreak instant s).lim = s.lim ∧ (handOn k left entered tm hardBreak instant s).kdr = s.kdr
    ∧ (handOn k left entered tm hardBreak instant s).seq = s.seq ∧ (handOn k left entered tm hardBreak instant s).ctr = s.ctr
    ∧ (handOn k left entered tm hardBreak instant s).pwr = s.pwr ∧ (handOn k left entered tm hardBreak instant s).nvs = s.nvs
    ∧ (handOn k left entered tm hardBreak instant s).prof = s.prof ∧ (handOn k left entered tm hardBreak instant s).upd = s.upd
    ∧ (handOn k left entered tm hardBreak instant s).tmp = s.tmp ∧ (handOn k left entered tm hardBreak instant s).pli = s.pli
    ∧ (handOn k left entered tm hardBreak instant s).pins = s.pins
    ∧ (handOn k left entered tm hardBreak instant s).pending = s.pending := by
  unfold handOn; (try dsimp only); (repeat' split) <;> simp

@[simp] theorem enterOpenUntimed_frame (k : Nat) (s : State) :
    (enterOpenUntimed k s).tim = s.tim ∧ (enterOpenUntimed k s).sch = s.sch ∧ (enterOpenUntimed k s).chn = s.chn
    ∧ (enterOpenUntimed k s).ana = s.ana ∧ (enterOpenUntimed k s).aln = s.aln ∧ (enterOpenUntimed k s).cells = s.cells
    ∧ (enterOpenUntimed k s).lim = s.lim ∧ (enterOpenUntimed k s).seq = s.seq ∧ (enterOpenUntimed k s).ctr = s.ctr
    ∧ (enterOpenUntimed k s).pwr = s.pwr ∧ (enterOpenUntimed k s).nvs = s.nvs ∧ (enterOpenUntimed k s).prof = s.prof
    ∧ (enterOpenUntimed k s).upd = s.upd ∧ (enterOpenUntimed k s).tmp = s.tmp ∧ (enterOpenUntimed k s).pli = s.pli
    ∧ (enterOpenUntimed k s).pins = s.pins ∧ (enterOpenUntimed k s).pending = s.pending := by
  unfold enterOpenUntimed; (try dsimp only); (repeat' split) <;> simp

@[simp] theorem openCmd_frame (k : Nat) (s : State) :
    (openCmd k s).tim = s.tim ∧ (openCmd k s).sch = s.sch ∧ (openCmd k s).chn = s.chn ∧ (openCmd k s).ana = s.ana
    ∧ (openCmd k s).aln = s.aln ∧ (openCmd k s).cells = s.cells ∧ (openCmd k s).lim = s.lim ∧ (openCmd k s).seq = s.seq
    ∧ (openCmd k s).pwr = s.pwr ∧ (openCmd k s).nvs = s.nvs ∧ (openCmd k s).prof = s.prof ∧ (openCmd k s).upd = s.upd
    ∧ (openCmd k s).tmp = s.tmp ∧ (openCmd k s).pli = s.pli ∧ (openCmd k s).pins = s.pins ∧ (openCmd k s).pending = s.pending := by
  unfold openCmd; (try dsimp only); (repeat' split) <;> simp

@[simp] theorem closeCmd_frame (k : Nat) (s : State) :
    (closeCmd k s).tim = s.tim ∧ (closeCmd k s).sch = s.sch ∧ (closeCmd k s).chn = s.chn ∧ (closeCmd k s).ana = s.ana
    ∧ (closeCmd k s).aln = s.aln ∧ (closeCmd k s).cells = s.cells ∧ (closeCmd k s).lim = s.lim ∧ (closeCmd k s).cnd = s.cnd
    ∧ (closeCmd k s).seq = s.seq ∧ (closeCmd k s).ctr = s.ctr ∧ (closeCmd k s).log = s.log ∧ (closeCmd k s).pwr = s.pwr
    ∧ (closeCmd k s).nvs = s.nvs ∧ (closeCmd k s).prof = s.prof ∧ (closeCmd k s).upd = s.upd ∧ (closeCmd k s).tmp = s.tmp
    ∧ (closeCmd k s).pli = s.pli ∧ (closeCmd k s).pins = s.pins ∧ (closeCmd k s).pending = s.pending := by
  unfold closeCmd; (try dsimp only); (repeat' split) <;> simp

@[simp] theorem openEvery_frame (s : State) :
    (openEvery s).tim = s.tim ∧ (openEvery s).sch = s.sch ∧ (openEvery s).chn = s.chn ∧ (openEvery s).ana = s.ana
    ∧ (openEvery s).aln = s.aln ∧ (openEvery s).cells = s.cells ∧ (openEvery s).lim = s.lim ∧ (openEvery s).seq = s.seq
    ∧ (openEvery s).pwr = s.pwr ∧ (openEvery s).nvs = s.nvs ∧ (openEvery s).prof = s.prof ∧ (openEvery s).upd = s.upd
    ∧ (openEvery s).tmp = s.tmp ∧ (openEvery s).pli = s.pli ∧ (openEvery s).pins = s.pins ∧ (openEvery s).pending = s.pending := by
  unfold openEvery; (try dsimp only); (repeat' split) <;> simp

@[simp] theorem enterFault_frame (k : Nat) (entered : KState) (hardBreak : Bool) (instant : Time) (s : State) :
    (enterFault k entered hardBreak instant s).tim = s.tim ∧ (enterFault k entered hardBreak instant s).sch = s.sch
    ∧ (enterFault k entered hardBreak instant s).chn = s.chn ∧ (enterFault k entered hardBreak instant s).ana = s.ana
    ∧ (enterFault k entered hardBreak instant s).aln = s.aln ∧ (enterFault k entered hardBreak instant s).cells = s.cells
    ∧ (enterFault k entered hardBreak instant s).lim = s.lim ∧ (enterFault k entered hardBreak instant s).seq = s.seq
    ∧ (enterFault k entered hardBreak instant s).ctr = s.ctr ∧ (enterFault k entered hardBreak instant s).pwr = s.pwr
    ∧ (enterFault k entered hardBreak instant s).nvs = s.nvs ∧ (enterFault k entered hardBreak instant s).prof = s.prof
    ∧ (enterFault k entered hardBreak instant s).upd = s.upd ∧ (enterFault k entered hardBreak instant s).tmp = s.tmp
    ∧ (enterFault k entered hardBreak instant s).pli = s.pli ∧ (enterFault k entered hardBreak instant s).pins = s.pins
    ∧ (enterFault k entered hardBreak instant s).pending = s.pending := by
  unfold enterFault; (try dsimp only); (repeat' split) <;> simp

@[simp] theorem actOnFeedback_frame (k : Nat) (s : State) :
    (actOnFeedback k s).1.tim = s.tim ∧ (actOnFeedback k s).1.sch = s.sch ∧ (actOnFeedback k s).1.chn = s.chn
    ∧ (actOnFeedback k s).1.ana = s.ana ∧ (actOnFeedback k s).1.aln = s.aln ∧ (actOnFeedback k s).1.cells = s.cells
    ∧ (actOnFeedback k s).1.lim = s.lim ∧ (actOnFeedback k s).1.seq = s.seq ∧ (actOnFeedback k s).1.pwr = s.pwr
    ∧ (actOnFeedback k s).1.nvs = s.nvs ∧ (actOnFeedback k s).1.prof = s.prof ∧ (actOnFeedback k s).1.upd = s.upd
    ∧ (actOnFeedback k s).1.tmp = s.tmp ∧ (actOnFeedback k s).1.pli = s.pli ∧ (actOnFeedback k s).1.pins = s.pins
    ∧ (actOnFeedback k s).1.pending = s.pending := by
  unfold actOnFeedback; (try dsimp only); (repeat' split) <;> simp

@[simp] theorem takePolarities_frame (p : Profile) (s : State) :
    (takePolarities p s).tim = s.tim ∧ (takePolarities p s).sch = s.sch ∧ (takePolarities p s).chn = s.chn
    ∧ (takePolarities p s).ana = s.ana ∧ (takePolarities p s).aln = s.aln ∧ (takePolarities p s).cells = s.cells
    ∧ (takePolarities p s).lim = s.lim ∧ (takePolarities p s).cnd = s.cnd ∧ (takePolarities p s).seq = s.seq
    ∧ (takePolarities p s).ctr = s.ctr ∧ (takePolarities p s).log = s.log ∧ (takePolarities p s).pwr = s.pwr
    ∧ (takePolarities p s).nvs = s.nvs ∧ (takePolarities p s).prof = s.prof ∧ (takePolarities p s).upd = s.upd
    ∧ (takePolarities p s).tmp = s.tmp ∧ (takePolarities p s).pli = s.pli ∧ (takePolarities p s).pins = s.pins
    ∧ (takePolarities p s).pending = s.pending := by
  unfold takePolarities; (try dsimp only); (repeat' split) <;> simp

@[simp] theorem switchWeld_frame (k : Nat) (s : State) :
    (switchWeld k s).tim = s.tim ∧ (switchWeld k s).sch = s.sch ∧ (switchWeld k s).chn = s.chn ∧ (switchWeld k s).ana = s.ana
    ∧ (switchWeld k s).aln = s.aln ∧ (switchWeld k s).cells = s.cells ∧ (switchWeld k s).lim = s.lim
    ∧ (switchWeld k s).seq = s.seq ∧ (switchWeld k s).ctr = s.ctr ∧ (switchWeld k s).pwr = s.pwr ∧ (switchWeld k s).nvs = s.nvs
    ∧ (switchWeld k s).prof = s.prof ∧ (switchWeld k s).upd = s.upd ∧ (switchWeld k s).tmp = s.tmp
    ∧ (switchWeld k s).pli = s.pli ∧ (switchWeld k s).pins = s.pins ∧ (switchWeld k s).pending = s.pending := by
  unfold switchWeld; (try dsimp only); (repeat' split) <;> simp

@[simp] theorem switchWelds_frame (s : State) :
    (switchWelds s).tim = s.tim ∧ (switchWelds s).sch = s.sch ∧ (switchWelds s).chn = s.chn ∧ (switchWelds s).ana = s.ana
    ∧ (switchWelds s).aln = s.aln ∧ (switchWelds s).cells = s.cells ∧ (switchWelds s).lim = s.lim ∧ (switchWelds s).seq = s.seq
    ∧ (switchWelds s).ctr = s.ctr ∧ (switchWelds s).pwr = s.pwr ∧ (switchWelds s).nvs = s.nvs ∧ (switchWelds s).prof = s.prof
    ∧ (switchWelds s).upd = s.upd ∧ (switchWelds s).tmp = s.tmp ∧ (switchWelds s).pli = s.pli ∧ (switchWelds s).pins = s.pins
    ∧ (switchWelds s).pending = s.pending := by
  unfold switchWelds; (try dsimp only); (repeat' split) <;> simp

@[simp] theorem loadSettling_frame (s : State) :
    (loadSettling s).tim = s.tim ∧ (loadSettling s).sch = s.sch ∧ (loadSettling s).chn = s.chn ∧ (loadSettling s).ana = s.ana
    ∧ (loadSettling s).aln = s.aln ∧ (loadSettling s).cells = s.cells ∧ (loadSettling s).lim = s.lim
    ∧ (loadSettling s).cnd = s.cnd ∧ (loadSettling s).seq = s.seq ∧ (loadSettling s).ctr = s.ctr ∧ (loadSettling s).log = s.log
    ∧ (loadSettling s).pwr = s.pwr ∧ (loadSettling s).nvs = s.nvs ∧ (loadSettling s).prof = s.prof
    ∧ (loadSettling s).upd = s.upd ∧ (loadSettling s).tmp = s.tmp ∧ (loadSettling s).pli = s.pli
    ∧ (loadSettling s).pins = s.pins ∧ (loadSettling s).pending = s.pending := by
  unfold loadSettling; (try dsimp only); (repeat' split) <;> simp

@[simp] theorem suspendSupervision_frame (s : State) :
    (suspendSupervision s).tim = s.tim ∧ (suspendSupervision s).sch = s.sch ∧ (suspendSupervision s).chn = s.chn
    ∧ (suspendSupervision s).ana = s.ana ∧ (suspendSupervision s).aln = s.aln ∧ (suspendSupervision s).cells = s.cells
    ∧ (suspendSupervision s).lim = s.lim ∧ (suspendSupervision s).cnd = s.cnd ∧ (suspendSupervision s).seq = s.seq
    ∧ (suspendSupervision s).ctr = s.ctr ∧ (suspendSupervision s).log = s.log ∧ (suspendSupervision s).pwr = s.pwr
    ∧ (suspendSupervision s).nvs = s.nvs ∧ (suspendSupervision s).prof = s.prof ∧ (suspendSupervision s).upd = s.upd
    ∧ (suspendSupervision s).tmp = s.tmp ∧ (suspendSupervision s).pli = s.pli ∧ (suspendSupervision s).pins = s.pins
    ∧ (suspendSupervision s).pending = s.pending := by
  unfold suspendSupervision; (try dsimp only); (repeat' split) <;> simp

@[simp] theorem resumeSupervision_frame (s : State) :
    (resumeSupervision s).tim = s.tim ∧ (resumeSupervision s).sch = s.sch ∧ (resumeSupervision s).chn = s.chn
    ∧ (resumeSupervision s).ana = s.ana ∧ (resumeSupervision s).aln = s.aln ∧ (resumeSupervision s).cells = s.cells
    ∧ (resumeSupervision s).lim = s.lim ∧ (resumeSupervision s).cnd = s.cnd ∧ (resumeSupervision s).seq = s.seq
    ∧ (resumeSupervision s).ctr = s.ctr ∧ (resumeSupervision s).log = s.log ∧ (resumeSupervision s).pwr = s.pwr
    ∧ (resumeSupervision s).nvs = s.nvs ∧ (resumeSupervision s).prof = s.prof ∧ (resumeSupervision s).upd = s.upd
    ∧ (resumeSupervision s).tmp = s.tmp ∧ (resumeSupervision s).pli = s.pli ∧ (resumeSupervision s).pins = s.pins
    ∧ (resumeSupervision s).pending = s.pending := by
  unfold resumeSupervision; (try dsimp only); (repeat' split) <;> simp

/-! ## Sched -/

@[simp] theorem grant_frame (source : SweepSource) (mask : ModMask) (s : State) :
    (grant source mask s).tim = s.tim ∧ (grant source mask s).ana = s.ana ∧ (grant source mask s).aln = s.aln
    ∧ (grant source mask s).cells = s.cells ∧ (grant source mask s).lim = s.lim ∧ (grant source mask s).cnd = s.cnd
    ∧ (grant source mask s).kdr = s.kdr ∧ (grant source mask s).seq = s.seq ∧ (grant source mask s).ctr = s.ctr
    ∧ (grant source mask s).log = s.log ∧ (grant source mask s).pwr = s.pwr ∧ (grant source mask s).nvs = s.nvs
    ∧ (grant source mask s).prof = s.prof ∧ (grant source mask s).upd = s.upd ∧ (grant source mask s).tmp = s.tmp
    ∧ (grant source mask s).pli = s.pli ∧ (grant source mask s).pins = s.pins ∧ (grant source mask s).pending = s.pending := by
  unfold grant; (try dsimp only); (repeat' split) <;> simp

@[simp] theorem arbiter_frame (s : State) :
    (arbiter s).tim = s.tim ∧ (arbiter s).ana = s.ana ∧ (arbiter s).aln = s.aln ∧ (arbiter s).cells = s.cells
    ∧ (arbiter s).lim = s.lim ∧ (arbiter s).cnd = s.cnd ∧ (arbiter s).kdr = s.kdr ∧ (arbiter s).seq = s.seq
    ∧ (arbiter s).ctr = s.ctr ∧ (arbiter s).log = s.log ∧ (arbiter s).pwr = s.pwr ∧ (arbiter s).nvs = s.nvs
    ∧ (arbiter s).prof = s.prof ∧ (arbiter s).upd = s.upd ∧ (arbiter s).tmp = s.tmp ∧ (arbiter s).pli = s.pli
    ∧ (arbiter s).pins = s.pins ∧ (arbiter s).pending = s.pending := by
  unfold arbiter; (try dsimp only); (repeat' split) <;> simp

@[simp] theorem runSchedule_frame (s : State) :
    (runSchedule s).tim = s.tim ∧ (runSchedule s).chn = s.chn ∧ (runSchedule s).ana = s.ana ∧ (runSchedule s).aln = s.aln
    ∧ (runSchedule s).cells = s.cells ∧ (runSchedule s).lim = s.lim ∧ (runSchedule s).cnd = s.cnd ∧ (runSchedule s).kdr = s.kdr
    ∧ (runSchedule s).seq = s.seq ∧ (runSchedule s).ctr = s.ctr ∧ (runSchedule s).log = s.log ∧ (runSchedule s).pwr = s.pwr
    ∧ (runSchedule s).nvs = s.nvs ∧ (runSchedule s).prof = s.prof ∧ (runSchedule s).upd = s.upd ∧ (runSchedule s).tmp = s.tmp
    ∧ (runSchedule s).pli = s.pli ∧ (runSchedule s).pins = s.pins ∧ (runSchedule s).pending = s.pending := by
  unfold runSchedule; (try dsimp only); (repeat' split) <;> simp

@[simp] theorem suspendSched_frame (s : State) :
    (suspendSched s).tim = s.tim ∧ (suspendSched s).chn = s.chn ∧ (suspendSched s).ana = s.ana ∧ (suspendSched s).aln = s.aln
    ∧ (suspendSched s).cells = s.cells ∧ (suspendSched s).lim = s.lim ∧ (suspendSched s).cnd = s.cnd
    ∧ (suspendSched s).kdr = s.kdr ∧ (suspendSched s).seq = s.seq ∧ (suspendSched s).ctr = s.ctr ∧ (suspendSched s).log = s.log
    ∧ (suspendSched s).pwr = s.pwr ∧ (suspendSched s).nvs = s.nvs ∧ (suspendSched s).prof = s.prof
    ∧ (suspendSched s).upd = s.upd ∧ (suspendSched s).tmp = s.tmp ∧ (suspendSched s).pli = s.pli
    ∧ (suspendSched s).pins = s.pins ∧ (suspendSched s).pending = s.pending := by
  unfold suspendSched; (try dsimp only); (repeat' split) <;> simp

@[simp] theorem releaseSched_frame (run : Bool) (s : State) :
    (releaseSched run s).tim = s.tim ∧ (releaseSched run s).ana = s.ana ∧ (releaseSched run s).aln = s.aln
    ∧ (releaseSched run s).cells = s.cells ∧ (releaseSched run s).lim = s.lim ∧ (releaseSched run s).cnd = s.cnd
    ∧ (releaseSched run s).kdr = s.kdr ∧ (releaseSched run s).seq = s.seq ∧ (releaseSched run s).ctr = s.ctr
    ∧ (releaseSched run s).log = s.log ∧ (releaseSched run s).pwr = s.pwr ∧ (releaseSched run s).nvs = s.nvs
    ∧ (releaseSched run s).prof = s.prof ∧ (releaseSched run s).upd = s.upd ∧ (releaseSched run s).tmp = s.tmp
    ∧ (releaseSched run s).pli = s.pli ∧ (releaseSched run s).pins = s.pins ∧ (releaseSched run s).pending = s.pending := by
  unfold releaseSched; (try dsimp only); (repeat' split) <;> simp

@[simp] theorem slotExpire_frame (i : Nat) (s : State) :
    (slotExpire i s).tim = s.tim ∧ (slotExpire i s).ana = s.ana ∧ (slotExpire i s).aln = s.aln
    ∧ (slotExpire i s).cells = s.cells ∧ (slotExpire i s).lim = s.lim ∧ (slotExpire i s).kdr = s.kdr
    ∧ (slotExpire i s).seq = s.seq ∧ (slotExpire i s).log = s.log ∧ (slotExpire i s).pwr = s.pwr ∧ (slotExpire i s).nvs = s.nvs
    ∧ (slotExpire i s).prof = s.prof ∧ (slotExpire i s).upd = s.upd ∧ (slotExpire i s).tmp = s.tmp
    ∧ (slotExpire i s).pli = s.pli ∧ (slotExpire i s).pins = s.pins ∧ (slotExpire i s).pending = s.pending := by
  unfold slotExpire; (try dsimp only); (repeat' split) <;> simp

@[simp] theorem endMarking_frame (from_ : Nat) (s : State) :
    (endMarking from_ s).tim = s.tim ∧ (endMarking from_ s).sch = s.sch ∧ (endMarking from_ s).ana = s.ana
    ∧ (endMarking from_ s).aln = s.aln ∧ (endMarking from_ s).cells = s.cells ∧ (endMarking from_ s).lim = s.lim
    ∧ (endMarking from_ s).kdr = s.kdr ∧ (endMarking from_ s).seq = s.seq ∧ (endMarking from_ s).ctr = s.ctr
    ∧ (endMarking from_ s).log = s.log ∧ (endMarking from_ s).pwr = s.pwr ∧ (endMarking from_ s).nvs = s.nvs
    ∧ (endMarking from_ s).prof = s.prof ∧ (endMarking from_ s).upd = s.upd ∧ (endMarking from_ s).tmp = s.tmp
    ∧ (endMarking from_ s).pli = s.pli ∧ (endMarking from_ s).pins = s.pins ∧ (endMarking from_ s).pending = s.pending := by
  unfold endMarking; (try dsimp only); (repeat' split) <;> simp

@[simp] theorem switchMarking_frame (s : State) :
    (switchMarking s).tim = s.tim ∧ (switchMarking s).sch = s.sch ∧ (switchMarking s).ana = s.ana
    ∧ (switchMarking s).aln = s.aln ∧ (switchMarking s).cells = s.cells ∧ (switchMarking s).lim = s.lim
    ∧ (switchMarking s).kdr = s.kdr ∧ (switchMarking s).seq = s.seq ∧ (switchMarking s).ctr = s.ctr
    ∧ (switchMarking s).log = s.log ∧ (switchMarking s).pwr = s.pwr ∧ (switchMarking s).nvs = s.nvs
    ∧ (switchMarking s).prof = s.prof ∧ (switchMarking s).upd = s.upd ∧ (switchMarking s).tmp = s.tmp
    ∧ (switchMarking s).pli = s.pli ∧ (switchMarking s).pins = s.pins ∧ (switchMarking s).pending = s.pending := by
  unfold switchMarking; (try dsimp only); (repeat' split) <;> simp

@[simp] theorem sendIdent_frame (k : Nat) (s : State) :
    (sendIdent k s).tim = s.tim ∧ (sendIdent k s).sch = s.sch ∧ (sendIdent k s).ana = s.ana ∧ (sendIdent k s).aln = s.aln
    ∧ (sendIdent k s).cells = s.cells ∧ (sendIdent k s).lim = s.lim ∧ (sendIdent k s).cnd = s.cnd ∧ (sendIdent k s).kdr = s.kdr
    ∧ (sendIdent k s).seq = s.seq ∧ (sendIdent k s).ctr = s.ctr ∧ (sendIdent k s).log = s.log ∧ (sendIdent k s).pwr = s.pwr
    ∧ (sendIdent k s).nvs = s.nvs ∧ (sendIdent k s).prof = s.prof ∧ (sendIdent k s).upd = s.upd ∧ (sendIdent k s).tmp = s.tmp
    ∧ (sendIdent k s).pli = s.pli ∧ (sendIdent k s).pins = s.pins ∧ (sendIdent k s).pending = s.pending := by
  unfold sendIdent; (try dsimp only); (repeat' split) <;> simp

@[simp] theorem startEnumeration_frame (s : State) :
    (startEnumeration s).tim = s.tim ∧ (startEnumeration s).sch = s.sch ∧ (startEnumeration s).ana = s.ana
    ∧ (startEnumeration s).aln = s.aln ∧ (startEnumeration s).cells = s.cells ∧ (startEnumeration s).lim = s.lim
    ∧ (startEnumeration s).cnd = s.cnd ∧ (startEnumeration s).kdr = s.kdr ∧ (startEnumeration s).seq = s.seq
    ∧ (startEnumeration s).ctr = s.ctr ∧ (startEnumeration s).log = s.log ∧ (startEnumeration s).pwr = s.pwr
    ∧ (startEnumeration s).nvs = s.nvs ∧ (startEnumeration s).prof = s.prof ∧ (startEnumeration s).upd = s.upd
    ∧ (startEnumeration s).tmp = s.tmp ∧ (startEnumeration s).pli = s.pli ∧ (startEnumeration s).pins = s.pins
    ∧ (startEnumeration s).pending = s.pending := by
  unfold startEnumeration; (try dsimp only); (repeat' split) <;> simp

@[simp] theorem chainPowerDown_frame (s : State) :
    (chainPowerDown s).tim = s.tim ∧ (chainPowerDown s).sch = s.sch ∧ (chainPowerDown s).ana = s.ana
    ∧ (chainPowerDown s).aln = s.aln ∧ (chainPowerDown s).cells = s.cells ∧ (chainPowerDown s).lim = s.lim
    ∧ (chainPowerDown s).cnd = s.cnd ∧ (chainPowerDown s).kdr = s.kdr ∧ (chainPowerDown s).seq = s.seq
    ∧ (chainPowerDown s).ctr = s.ctr ∧ (chainPowerDown s).log = s.log ∧ (chainPowerDown s).pwr = s.pwr
    ∧ (chainPowerDown s).nvs = s.nvs ∧ (chainPowerDown s).prof = s.prof ∧ (chainPowerDown s).upd = s.upd
    ∧ (chainPowerDown s).tmp = s.tmp ∧ (chainPowerDown s).pli = s.pli ∧ (chainPowerDown s).pins = s.pins
    ∧ (chainPowerDown s).pending = s.pending := by
  unfold chainPowerDown; (try dsimp only); (repeat' split) <;> simp

@[simp] theorem chainPowerUp_frame (s : State) :
    (chainPowerUp s).tim = s.tim ∧ (chainPowerUp s).sch = s.sch ∧ (chainPowerUp s).ana = s.ana ∧ (chainPowerUp s).aln = s.aln
    ∧ (chainPowerUp s).cells = s.cells ∧ (chainPowerUp s).lim = s.lim ∧ (chainPowerUp s).cnd = s.cnd
    ∧ (chainPowerUp s).kdr = s.kdr ∧ (chainPowerUp s).seq = s.seq ∧ (chainPowerUp s).ctr = s.ctr ∧ (chainPowerUp s).log = s.log
    ∧ (chainPowerUp s).pwr = s.pwr ∧ (chainPowerUp s).nvs = s.nvs ∧ (chainPowerUp s).prof = s.prof
    ∧ (chainPowerUp s).upd = s.upd ∧ (chainPowerUp s).tmp = s.tmp ∧ (chainPowerUp s).pli = s.pli
    ∧ (chainPowerUp s).pins = s.pins ∧ (chainPowerUp s).pending = s.pending := by
  unfold chainPowerUp; (try dsimp only); (repeat' split) <;> simp

/-! ## Runner -/

@[simp] theorem withdrawEvent_frame (s : State) :
    (withdrawEvent s).tim = s.tim ∧ (withdrawEvent s).chn = s.chn ∧ (withdrawEvent s).ana = s.ana
    ∧ (withdrawEvent s).aln = s.aln ∧ (withdrawEvent s).cells = s.cells ∧ (withdrawEvent s).lim = s.lim
    ∧ (withdrawEvent s).cnd = s.cnd ∧ (withdrawEvent s).kdr = s.kdr ∧ (withdrawEvent s).seq = s.seq
    ∧ (withdrawEvent s).ctr = s.ctr ∧ (withdrawEvent s).log = s.log ∧ (withdrawEvent s).pwr = s.pwr
    ∧ (withdrawEvent s).nvs = s.nvs ∧ (withdrawEvent s).prof = s.prof ∧ (withdrawEvent s).upd = s.upd
    ∧ (withdrawEvent s).tmp = s.tmp ∧ (withdrawEvent s).pli = s.pli ∧ (withdrawEvent s).pins = s.pins
    ∧ (withdrawEvent s).pending = s.pending := by
  unfold withdrawEvent; (try dsimp only); (repeat' split) <;> simp

@[simp] theorem endSequence_frame (reason : SeqReason) (terms : List GateTerm) (s : State) :
    (endSequence reason terms s).tim = s.tim ∧ (endSequence reason terms s).chn = s.chn
    ∧ (endSequence reason terms s).ana = s.ana ∧ (endSequence reason terms s).aln = s.aln
    ∧ (endSequence reason terms s).cells = s.cells ∧ (endSequence reason terms s).lim = s.lim
    ∧ (endSequence reason terms s).pwr = s.pwr ∧ (endSequence reason terms s).nvs = s.nvs
    ∧ (endSequence reason terms s).prof = s.prof ∧ (endSequence reason terms s).upd = s.upd
    ∧ (endSequence reason terms s).tmp = s.tmp ∧ (endSequence reason terms s).pli = s.pli
    ∧ (endSequence reason terms s).pins = s.pins ∧ (endSequence reason terms s).pending = s.pending := by
  unfold endSequence; (try dsimp only); (repeat' split) <;> simp

@[simp] theorem completeSequence_frame (r : Run) (s : State) :
    (completeSequence r s).tim = s.tim ∧ (completeSequence r s).sch = s.sch ∧ (completeSequence r s).chn = s.chn
    ∧ (completeSequence r s).ana = s.ana ∧ (completeSequence r s).aln = s.aln ∧ (completeSequence r s).cells = s.cells
    ∧ (completeSequence r s).lim = s.lim ∧ (completeSequence r s).kdr = s.kdr ∧ (completeSequence r s).ctr = s.ctr
    ∧ (completeSequence r s).pwr = s.pwr ∧ (completeSequence r s).nvs = s.nvs ∧ (completeSequence r s).prof = s.prof
    ∧ (completeSequence r s).upd = s.upd ∧ (completeSequence r s).tmp = s.tmp ∧ (completeSequence r s).pli = s.pli
    ∧ (completeSequence r s).pins = s.pins ∧ (completeSequence r s).pending = s.pending := by
  unfold completeSequence; (try dsimp only); (repeat' split) <;> simp

@[simp] theorem setRun_frame (s : State) (r : Run) :
    (State.setRun s r).tim = s.tim ∧ (State.setRun s r).sch = s.sch ∧ (State.setRun s r).chn = s.chn
    ∧ (State.setRun s r).ana = s.ana ∧ (State.setRun s r).aln = s.aln ∧ (State.setRun s r).cells = s.cells
    ∧ (State.setRun s r).lim = s.lim ∧ (State.setRun s r).cnd = s.cnd ∧ (State.setRun s r).kdr = s.kdr
    ∧ (State.setRun s r).ctr = s.ctr ∧ (State.setRun s r).log = s.log ∧ (State.setRun s r).pwr = s.pwr
    ∧ (State.setRun s r).nvs = s.nvs ∧ (State.setRun s r).prof = s.prof ∧ (State.setRun s r).upd = s.upd
    ∧ (State.setRun s r).tmp = s.tmp ∧ (State.setRun s r).pli = s.pli ∧ (State.setRun s r).pins = s.pins
    ∧ (State.setRun s r).pending = s.pending := by
  unfold State.setRun; (try dsimp only); (repeat' split) <;> simp

@[simp] theorem awaiting_frame (a : Awaited) (s : State) :
    (awaiting a s).tim = s.tim ∧ (awaiting a s).sch = s.sch ∧ (awaiting a s).chn = s.chn ∧ (awaiting a s).ana = s.ana
    ∧ (awaiting a s).aln = s.aln ∧ (awaiting a s).cells = s.cells ∧ (awaiting a s).lim = s.lim ∧ (awaiting a s).cnd = s.cnd
    ∧ (awaiting a s).kdr = s.kdr ∧ (awaiting a s).ctr = s.ctr ∧ (awaiting a s).log = s.log ∧ (awaiting a s).pwr = s.pwr
    ∧ (awaiting a s).nvs = s.nvs ∧ (awaiting a s).prof = s.prof ∧ (awaiting a s).upd = s.upd ∧ (awaiting a s).tmp = s.tmp
    ∧ (awaiting a s).pli = s.pli ∧ (awaiting a s).pins = s.pins ∧ (awaiting a s).pending = s.pending := by
  unfold awaiting; (try dsimp only); (repeat' split) <;> simp

@[simp] theorem loadTimer_frame (t : Nat) (s : State) :
    (loadTimer t s).tim = s.tim ∧ (loadTimer t s).sch = s.sch ∧ (loadTimer t s).chn = s.chn ∧ (loadTimer t s).ana = s.ana
    ∧ (loadTimer t s).aln = s.aln ∧ (loadTimer t s).cells = s.cells ∧ (loadTimer t s).lim = s.lim ∧ (loadTimer t s).cnd = s.cnd
    ∧ (loadTimer t s).kdr = s.kdr ∧ (loadTimer t s).ctr = s.ctr ∧ (loadTimer t s).log = s.log ∧ (loadTimer t s).pwr = s.pwr
    ∧ (loadTimer t s).nvs = s.nvs ∧ (loadTimer t s).prof = s.prof ∧ (loadTimer t s).upd = s.upd ∧ (loadTimer t s).tmp = s.tmp
    ∧ (loadTimer t s).pli = s.pli ∧ (loadTimer t s).pins = s.pins ∧ (loadTimer t s).pending = s.pending := by
  unfold loadTimer; (try dsimp only); (repeat' split) <;> simp

/-- The state that the start of a step comes to. -/
def StepResult.state : StepResult → State
  | .waits s => s
  | .completes _ s => s
  | .fails _ _ s => s
  | .ends s => s

@[simp] theorem StepResult.state_waits (s : State) : (StepResult.waits s).state = s := rfl
@[simp] theorem StepResult.state_completes (b : Bool) (s : State) : (StepResult.completes b s).state = s := rfl
@[simp] theorem StepResult.state_fails (r : SeqReason) (l : List GateTerm) (s : State) : (StepResult.fails r l s).state = s := rfl
@[simp] theorem StepResult.state_ends (s : State) : (StepResult.ends s).state = s := rfl

@[simp] theorem startClose_frame (k : Nat) (s : State) :
    (startClose k s).state.tim = s.tim ∧ (startClose k s).state.sch = s.sch ∧ (startClose k s).state.chn = s.chn
    ∧ (startClose k s).state.ana = s.ana ∧ (startClose k s).state.aln = s.aln ∧ (startClose k s).state.cells = s.cells
    ∧ (startClose k s).state.lim = s.lim ∧ (startClose k s).state.cnd = s.cnd ∧ (startClose k s).state.ctr = s.ctr
    ∧ (startClose k s).state.log = s.log ∧ (startClose k s).state.pwr = s.pwr ∧ (startClose k s).state.nvs = s.nvs
    ∧ (startClose k s).state.prof = s.prof ∧ (startClose k s).state.upd = s.upd ∧ (startClose k s).state.tmp = s.tmp
    ∧ (startClose k s).state.pli = s.pli ∧ (startClose k s).state.pins = s.pins ∧ (startClose k s).state.pending = s.pending := by
  unfold startClose; (try dsimp only); (repeat' split) <;> simp

@[simp] theorem startOpen_frame (k : Nat) (s : State) :
    (startOpen k s).state.tim = s.tim ∧ (startOpen k s).state.sch = s.sch ∧ (startOpen k s).state.chn = s.chn
    ∧ (startOpen k s).state.ana = s.ana ∧ (startOpen k s).state.aln = s.aln ∧ (startOpen k s).state.cells = s.cells
    ∧ (startOpen k s).state.lim = s.lim ∧ (startOpen k s).state.pwr = s.pwr ∧ (startOpen k s).state.nvs = s.nvs
    ∧ (startOpen k s).state.prof = s.prof ∧ (startOpen k s).state.upd = s.upd ∧ (startOpen k s).state.tmp = s.tmp
    ∧ (startOpen k s).state.pli = s.pli ∧ (startOpen k s).state.pins = s.pins ∧ (startOpen k s).state.pending = s.pending := by
  unfold startOpen; (try dsimp only); (repeat' split) <;> simp

@[simp] theorem awaitTest_frame (holds : RingEntry → Bool) (e : RingEntry) (s : State) :
    (awaitTest holds e s).state.tim = s.tim ∧ (awaitTest holds e s).state.sch = s.sch ∧ (awaitTest holds e s).state.chn = s.chn
    ∧ (awaitTest holds e s).state.ana = s.ana ∧ (awaitTest holds e s).state.aln = s.aln
    ∧ (awaitTest holds e s).state.cells = s.cells ∧ (awaitTest holds e s).state.lim = s.lim
    ∧ (awaitTest holds e s).state.cnd = s.cnd ∧ (awaitTest holds e s).state.kdr = s.kdr
    ∧ (awaitTest holds e s).state.ctr = s.ctr ∧ (awaitTest holds e s).state.log = s.log
    ∧ (awaitTest holds e s).state.pwr = s.pwr ∧ (awaitTest holds e s).state.nvs = s.nvs
    ∧ (awaitTest holds e s).state.prof = s.prof ∧ (awaitTest holds e s).state.upd = s.upd
    ∧ (awaitTest holds e s).state.tmp = s.tmp ∧ (awaitTest holds e s).state.pli = s.pli
    ∧ (awaitTest holds e s).state.pins = s.pins ∧ (awaitTest holds e s).state.pending = s.pending := by
  unfold awaitTest; (try dsimp only); (repeat' split) <;> simp

@[simp] theorem startAwait_frame (t : Nat) (holds : RingEntry → Bool) (s : State) :
    (startAwait t holds s).state.tim = s.tim ∧ (startAwait t holds s).state.sch = s.sch
    ∧ (startAwait t holds s).state.chn = s.chn ∧ (startAwait t holds s).state.ana = s.ana
    ∧ (startAwait t holds s).state.aln = s.aln ∧ (startAwait t holds s).state.cells = s.cells
    ∧ (startAwait t holds s).state.lim = s.lim ∧ (startAwait t holds s).state.cnd = s.cnd
    ∧ (startAwait t holds s).state.kdr = s.kdr ∧ (startAwait t holds s).state.ctr = s.ctr
    ∧ (startAwait t holds s).state.log = s.log ∧ (startAwait t holds s).state.pwr = s.pwr
    ∧ (startAwait t holds s).state.nvs = s.nvs ∧ (startAwait t holds s).state.prof = s.prof
    ∧ (startAwait t holds s).state.upd = s.upd ∧ (startAwait t holds s).state.tmp = s.tmp
    ∧ (startAwait t holds s).state.pli = s.pli ∧ (startAwait t holds s).state.pins = s.pins
    ∧ (startAwait t holds s).state.pending = s.pending := by
  unfold startAwait; (try dsimp only); (repeat' split) <;> simp

@[simp] theorem startSkip_frame (c : SkipCond) (s : State) :
    (startSkip c s).state.tim = s.tim ∧ (startSkip c s).state.sch = s.sch ∧ (startSkip c s).state.chn = s.chn
    ∧ (startSkip c s).state.ana = s.ana ∧ (startSkip c s).state.aln = s.aln ∧ (startSkip c s).state.cells = s.cells
    ∧ (startSkip c s).state.lim = s.lim ∧ (startSkip c s).state.cnd = s.cnd ∧ (startSkip c s).state.kdr = s.kdr
    ∧ (startSkip c s).state.seq = s.seq ∧ (startSkip c s).state.ctr = s.ctr ∧ (startSkip c s).state.log = s.log
    ∧ (startSkip c s).state.pwr = s.pwr ∧ (startSkip c s).state.nvs = s.nvs ∧ (startSkip c s).state.prof = s.prof
    ∧ (startSkip c s).state.upd = s.upd ∧ (startSkip c s).state.tmp = s.tmp ∧ (startSkip c s).state.pli = s.pli
    ∧ (startSkip c s).state.pins = s.pins ∧ (startSkip c s).state.pending = s.pending := by
  unfold startSkip; (try dsimp only); (repeat' split) <;> simp

@[simp] theorem startSweep_frame (s : State) :
    (startSweep s).state.tim = s.tim ∧ (startSweep s).state.chn = s.chn ∧ (startSweep s).state.ana = s.ana
    ∧ (startSweep s).state.aln = s.aln ∧ (startSweep s).state.cells = s.cells ∧ (startSweep s).state.lim = s.lim
    ∧ (startSweep s).state.cnd = s.cnd ∧ (startSweep s).state.kdr = s.kdr ∧ (startSweep s).state.ctr = s.ctr
    ∧ (startSweep s).state.log = s.log ∧ (startSweep s).state.pwr = s.pwr ∧ (startSweep s).state.nvs = s.nvs
    ∧ (startSweep s).state.prof = s.prof ∧ (startSweep s).state.upd = s.upd ∧ (startSweep s).state.tmp = s.tmp
    ∧ (startSweep s).state.pli = s.pli ∧ (startSweep s).state.pins = s.pins ∧ (startSweep s).state.pending = s.pending := by
  unfold startSweep; (try dsimp only); (repeat' split) <;> simp

@[simp] theorem startStep_frame (st : SeqStep) (s : State) :
    (startStep st s).state.tim = s.tim ∧ (startStep st s).state.chn = s.chn ∧ (startStep st s).state.ana = s.ana
    ∧ (startStep st s).state.aln = s.aln ∧ (startStep st s).state.cells = s.cells ∧ (startStep st s).state.lim = s.lim
    ∧ (startStep st s).state.pwr = s.pwr ∧ (startStep st s).state.nvs = s.nvs ∧ (startStep st s).state.prof = s.prof
    ∧ (startStep st s).state.upd = s.upd ∧ (startStep st s).state.tmp = s.tmp ∧ (startStep st s).state.pli = s.pli
    ∧ (startStep st s).state.pins = s.pins ∧ (startStep st s).state.pending = s.pending := by
  unfold startStep; (try dsimp only); (repeat' split) <;> simp

@[simp] theorem enterStep_frame (idx : Nat) (r : Run) (s : State) :
    (enterStep idx r s).tim = s.tim ∧ (enterStep idx r s).sch = s.sch ∧ (enterStep idx r s).chn = s.chn
    ∧ (enterStep idx r s).ana = s.ana ∧ (enterStep idx r s).aln = s.aln ∧ (enterStep idx r s).cells = s.cells
    ∧ (enterStep idx r s).lim = s.lim ∧ (enterStep idx r s).cnd = s.cnd ∧ (enterStep idx r s).kdr = s.kdr
    ∧ (enterStep idx r s).ctr = s.ctr ∧ (enterStep idx r s).log = s.log ∧ (enterStep idx r s).pwr = s.pwr
    ∧ (enterStep idx r s).nvs = s.nvs ∧ (enterStep idx r s).prof = s.prof ∧ (enterStep idx r s).upd = s.upd
    ∧ (enterStep idx r s).tmp = s.tmp ∧ (enterStep idx r s).pli = s.pli ∧ (enterStep idx r s).pins = s.pins
    ∧ (enterStep idx r s).pending = s.pending := by
  unfold enterStep; (try dsimp only); (repeat' split) <;> simp

@[simp] theorem runSteps_frame (n idx : Nat) (s : State) :
    (runSteps n idx s).tim = s.tim ∧ (runSteps n idx s).chn = s.chn ∧ (runSteps n idx s).ana = s.ana
    ∧ (runSteps n idx s).aln = s.aln ∧ (runSteps n idx s).cells = s.cells ∧ (runSteps n idx s).lim = s.lim
    ∧ (runSteps n idx s).pwr = s.pwr ∧ (runSteps n idx s).nvs = s.nvs ∧ (runSteps n idx s).prof = s.prof
    ∧ (runSteps n idx s).upd = s.upd ∧ (runSteps n idx s).tmp = s.tmp ∧ (runSteps n idx s).pli = s.pli
    ∧ (runSteps n idx s).pins = s.pins ∧ (runSteps n idx s).pending = s.pending := by
  induction n generalizing idx s with
  | zero => simp [runSteps]
  | succ n ih =>
    unfold runSteps
    split
    · simp
    · rename_i r _
      split
      · simp
      · rename_i st _
        have h := startStep_frame st (enterStep idx r s)
        split <;> rename_i hs <;> rw [hs] at h <;> simp only [StepResult.state] at h <;> simp [h, ih]

@[simp] theorem proceed_frame (idx : Nat) (s : State) :
    (proceed idx s).tim = s.tim ∧ (proceed idx s).ana = s.ana ∧ (proceed idx s).aln = s.aln ∧ (proceed idx s).cells = s.cells
    ∧ (proceed idx s).lim = s.lim ∧ (proceed idx s).pwr = s.pwr ∧ (proceed idx s).nvs = s.nvs ∧ (proceed idx s).prof = s.prof
    ∧ (proceed idx s).upd = s.upd ∧ (proceed idx s).tmp = s.tmp ∧ (proceed idx s).pli = s.pli ∧ (proceed idx s).pins = s.pins
    ∧ (proceed idx s).pending = s.pending := by
  unfold proceed; (try dsimp only); (repeat' split) <;> simp

theorem settleStep_frame (idx : Nat) (x : StepResult) (s : State)
    (h :
    x.state.tim = s.tim ∧ x.state.ana = s.ana ∧ x.state.aln = s.aln ∧ x.state.cells = s.cells ∧ x.state.lim = s.lim
    ∧ x.state.pwr = s.pwr ∧ x.state.nvs = s.nvs ∧ x.state.prof = s.prof ∧ x.state.upd = s.upd ∧ x.state.tmp = s.tmp
    ∧ x.state.pli = s.pli ∧ x.state.pins = s.pins ∧ x.state.pending = s.pending) :
    (settleStep idx x).tim = s.tim ∧ (settleStep idx x).ana = s.ana ∧ (settleStep idx x).aln = s.aln
    ∧ (settleStep idx x).cells = s.cells ∧ (settleStep idx x).lim = s.lim ∧ (settleStep idx x).pwr = s.pwr
    ∧ (settleStep idx x).nvs = s.nvs ∧ (settleStep idx x).prof = s.prof ∧ (settleStep idx x).upd = s.upd
    ∧ (settleStep idx x).tmp = s.tmp ∧ (settleStep idx x).pli = s.pli ∧ (settleStep idx x).pins = s.pins
    ∧ (settleStep idx x).pending = s.pending := by
  cases x <;> simp only [StepResult.state] at h <;> simp [settleStep, h]

@[simp] theorem runnerReport_frame (k : Nat) (entered : KState) (s : State) :
    (runnerReport k entered s).tim = s.tim ∧ (runnerReport k entered s).ana = s.ana ∧ (runnerReport k entered s).aln = s.aln
    ∧ (runnerReport k entered s).cells = s.cells ∧ (runnerReport k entered s).lim = s.lim
    ∧ (runnerReport k entered s).pwr = s.pwr ∧ (runnerReport k entered s).nvs = s.nvs ∧ (runnerReport k entered s).prof = s.prof
    ∧ (runnerReport k entered s).upd = s.upd ∧ (runnerReport k entered s).tmp = s.tmp ∧ (runnerReport k entered s).pli = s.pli
    ∧ (runnerReport k entered s).pins = s.pins ∧ (runnerReport k entered s).pending = s.pending := by
  unfold runnerReport; (try dsimp only); (repeat' split) <;> simp

@[simp] theorem runnerSwept_frame (requested received : ModMask) (s : State) :
    (runnerSwept requested received s).tim = s.tim ∧ (runnerSwept requested received s).chn = s.chn
    ∧ (runnerSwept requested received s).ana = s.ana ∧ (runnerSwept requested received s).aln = s.aln
    ∧ (runnerSwept requested received s).cells = s.cells ∧ (runnerSwept requested received s).lim = s.lim
    ∧ (runnerSwept requested received s).pwr = s.pwr ∧ (runnerSwept requested received s).nvs = s.nvs
    ∧ (runnerSwept requested received s).prof = s.prof ∧ (runnerSwept requested received s).upd = s.upd
    ∧ (runnerSwept requested received s).tmp = s.tmp ∧ (runnerSwept requested received s).pli = s.pli
    ∧ (runnerSwept requested received s).pins = s.pins ∧ (runnerSwept requested received s).pending = s.pending := by
  unfold runnerSwept; (try dsimp only); (repeat' split) <;> simp

@[simp] theorem runnerArrival_frame (e : RingEntry) (s : State) :
    (runnerArrival e s).tim = s.tim ∧ (runnerArrival e s).ana = s.ana ∧ (runnerArrival e s).aln = s.aln
    ∧ (runnerArrival e s).cells = s.cells ∧ (runnerArrival e s).lim = s.lim ∧ (runnerArrival e s).pwr = s.pwr
    ∧ (runnerArrival e s).nvs = s.nvs ∧ (runnerArrival e s).prof = s.prof ∧ (runnerArrival e s).upd = s.upd
    ∧ (runnerArrival e s).tmp = s.tmp ∧ (runnerArrival e s).pli = s.pli ∧ (runnerArrival e s).pins = s.pins
    ∧ (runnerArrival e s).pending = s.pending := by
  unfold runnerArrival
  split
  · split
    · have h := awaitTest_frame (linkAtLeast (by assumption)) e s
      exact settleStep_frame _ _ s (by simp [h])
    · simp
  · split
    · have h := awaitTest_frame (linkAtMost (by assumption)) e s
      exact settleStep_frame _ _ s (by simp [h])
    · simp
  · simp

@[simp] theorem runnerTimer_frame (s : State) :
    (runnerTimer s).tim = s.tim ∧ (runnerTimer s).ana = s.ana ∧ (runnerTimer s).aln = s.aln ∧ (runnerTimer s).cells = s.cells
    ∧ (runnerTimer s).lim = s.lim ∧ (runnerTimer s).pwr = s.pwr ∧ (runnerTimer s).nvs = s.nvs ∧ (runnerTimer s).prof = s.prof
    ∧ (runnerTimer s).upd = s.upd ∧ (runnerTimer s).tmp = s.tmp ∧ (runnerTimer s).pli = s.pli ∧ (runnerTimer s).pins = s.pins
    ∧ (runnerTimer s).pending = s.pending := by
  unfold runnerTimer; (try dsimp only); (repeat' split) <;> simp

@[simp] theorem tickRunner_frame (s : State) :
    (tickRunner s).tim = s.tim ∧ (tickRunner s).sch = s.sch ∧ (tickRunner s).chn = s.chn ∧ (tickRunner s).ana = s.ana
    ∧ (tickRunner s).aln = s.aln ∧ (tickRunner s).cells = s.cells ∧ (tickRunner s).lim = s.lim ∧ (tickRunner s).cnd = s.cnd
    ∧ (tickRunner s).kdr = s.kdr ∧ (tickRunner s).ctr = s.ctr ∧ (tickRunner s).log = s.log ∧ (tickRunner s).pwr = s.pwr
    ∧ (tickRunner s).nvs = s.nvs ∧ (tickRunner s).prof = s.prof ∧ (tickRunner s).upd = s.upd ∧ (tickRunner s).tmp = s.tmp
    ∧ (tickRunner s).pli = s.pli ∧ (tickRunner s).pins = s.pins ∧ (tickRunner s).pending = s.pending := by
  unfold tickRunner; (try dsimp only); (repeat' split) <;> simp

@[simp] theorem openForAll_frame (reason : SeqReason) (s : State) :
    (openForAll reason s).tim = s.tim ∧ (openForAll reason s).chn = s.chn ∧ (openForAll reason s).ana = s.ana
    ∧ (openForAll reason s).aln = s.aln ∧ (openForAll reason s).cells = s.cells ∧ (openForAll reason s).lim = s.lim
    ∧ (openForAll reason s).pwr = s.pwr ∧ (openForAll reason s).nvs = s.nvs ∧ (openForAll reason s).prof = s.prof
    ∧ (openForAll reason s).upd = s.upd ∧ (openForAll reason s).tmp = s.tmp ∧ (openForAll reason s).pli = s.pli
    ∧ (openForAll reason s).pins = s.pins ∧ (openForAll reason s).pending = s.pending := by
  unfold openForAll; (try dsimp only); (repeat' split) <;> simp

@[simp] theorem applyTrip_frame (cause : TripCause) (action : Bool) (s : State) :
    (applyTrip cause action s).tim = s.tim ∧ (applyTrip cause action s).chn = s.chn ∧ (applyTrip cause action s).ana = s.ana
    ∧ (applyTrip cause action s).aln = s.aln ∧ (applyTrip cause action s).cells = s.cells
    ∧ (applyTrip cause action s).pwr = s.pwr ∧ (applyTrip cause action s).nvs = s.nvs ∧ (applyTrip cause action s).prof = s.prof
    ∧ (applyTrip cause action s).upd = s.upd ∧ (applyTrip cause action s).tmp = s.tmp ∧ (applyTrip cause action s).pli = s.pli
    ∧ (applyTrip cause action s).pins = s.pins ∧ (applyTrip cause action s).pending = s.pending := by
  unfold applyTrip; (try dsimp only); (repeat' split) <;> simp

@[simp] theorem moveCells_frame (l : List Nat) (s : State) :
    (moveCells l s).1.tim = s.tim ∧ (moveCells l s).1.sch = s.sch ∧ (moveCells l s).1.chn = s.chn
    ∧ (moveCells l s).1.ana = s.ana ∧ (moveCells l s).1.aln = s.aln ∧ (moveCells l s).1.lim = s.lim
    ∧ (moveCells l s).1.cnd = s.cnd ∧ (moveCells l s).1.kdr = s.kdr ∧ (moveCells l s).1.seq = s.seq
    ∧ (moveCells l s).1.ctr = s.ctr ∧ (moveCells l s).1.log = s.log ∧ (moveCells l s).1.pwr = s.pwr
    ∧ (moveCells l s).1.nvs = s.nvs ∧ (moveCells l s).1.prof = s.prof ∧ (moveCells l s).1.upd = s.upd
    ∧ (moveCells l s).1.tmp = s.tmp ∧ (moveCells l s).1.pli = s.pli ∧ (moveCells l s).1.pins = s.pins
    ∧ (moveCells l s).1.pending = s.pending := by
  induction l generalizing s with
    | nil => simp [moveCells]
    | cons i l ih => simp [moveCells, ih]

@[simp] theorem limitEvaluate_frame (written : List Nat) (s : State) :
    (limitEvaluate written s).tim = s.tim ∧ (limitEvaluate written s).chn = s.chn ∧ (limitEvaluate written s).ana = s.ana
    ∧ (limitEvaluate written s).aln = s.aln ∧ (limitEvaluate written s).pwr = s.pwr ∧ (limitEvaluate written s).nvs = s.nvs
    ∧ (limitEvaluate written s).prof = s.prof ∧ (limitEvaluate written s).upd = s.upd ∧ (limitEvaluate written s).tmp = s.tmp
    ∧ (limitEvaluate written s).pli = s.pli ∧ (limitEvaluate written s).pins = s.pins
    ∧ (limitEvaluate written s).pending = s.pending := by
  unfold limitEvaluate; (try dsimp only); (repeat' split) <;> simp

/-! ## Switch -/

@[simp] theorem beginWoke_frame (s : State) :
    (beginWoke s).tim = s.tim ∧ (beginWoke s).sch = s.sch ∧ (beginWoke s).chn = s.chn ∧ (beginWoke s).ana = s.ana
    ∧ (beginWoke s).aln = s.aln ∧ (beginWoke s).cells = s.cells ∧ (beginWoke s).lim = s.lim ∧ (beginWoke s).cnd = s.cnd
    ∧ (beginWoke s).kdr = s.kdr ∧ (beginWoke s).seq = s.seq ∧ (beginWoke s).ctr = s.ctr ∧ (beginWoke s).log = s.log
    ∧ (beginWoke s).nvs = s.nvs ∧ (beginWoke s).prof = s.prof ∧ (beginWoke s).upd = s.upd ∧ (beginWoke s).tmp = s.tmp
    ∧ (beginWoke s).pins = s.pins ∧ (beginWoke s).pending = s.pending := by
  unfold beginWoke; (try dsimp only); (repeat' split) <;> simp

@[simp] theorem beginConditions_frame (s : State) :
    (beginConditions s).tim = s.tim ∧ (beginConditions s).sch = s.sch ∧ (beginConditions s).chn = s.chn
    ∧ (beginConditions s).ana = s.ana ∧ (beginConditions s).aln = s.aln ∧ (beginConditions s).cells = s.cells
    ∧ (beginConditions s).lim = s.lim ∧ (beginConditions s).kdr = s.kdr ∧ (beginConditions s).seq = s.seq
    ∧ (beginConditions s).ctr = s.ctr ∧ (beginConditions s).log = s.log ∧ (beginConditions s).pwr = s.pwr
    ∧ (beginConditions s).nvs = s.nvs ∧ (beginConditions s).prof = s.prof ∧ (beginConditions s).upd = s.upd
    ∧ (beginConditions s).tmp = s.tmp ∧ (beginConditions s).pins = s.pins ∧ (beginConditions s).pending = s.pending := by
  unfold beginConditions; (try dsimp only); (repeat' split) <;> simp

@[simp] theorem linkPump_frame (s : State) :
    (linkPump s).tim = s.tim ∧ (linkPump s).sch = s.sch ∧ (linkPump s).chn = s.chn ∧ (linkPump s).ana = s.ana
    ∧ (linkPump s).aln = s.aln ∧ (linkPump s).cells = s.cells ∧ (linkPump s).lim = s.lim ∧ (linkPump s).kdr = s.kdr
    ∧ (linkPump s).seq = s.seq ∧ (linkPump s).ctr = s.ctr ∧ (linkPump s).log = s.log ∧ (linkPump s).nvs = s.nvs
    ∧ (linkPump s).prof = s.prof ∧ (linkPump s).upd = s.upd ∧ (linkPump s).tmp = s.tmp ∧ (linkPump s).pins = s.pins
    ∧ (linkPump s).pending = s.pending := by
  unfold linkPump; (try dsimp only); (repeat' split) <;> simp

@[simp] theorem switchCells_frame (p : Profile) (s : State) :
    (switchCells p s).tim = s.tim ∧ (switchCells p s).sch = s.sch ∧ (switchCells p s).chn = s.chn
    ∧ (switchCells p s).ana = s.ana ∧ (switchCells p s).aln = s.aln ∧ (switchCells p s).lim = s.lim
    ∧ (switchCells p s).cnd = s.cnd ∧ (switchCells p s).kdr = s.kdr ∧ (switchCells p s).seq = s.seq
    ∧ (switchCells p s).ctr = s.ctr ∧ (switchCells p s).log = s.log ∧ (switchCells p s).pwr = s.pwr
    ∧ (switchCells p s).nvs = s.nvs ∧ (switchCells p s).prof = s.prof ∧ (switchCells p s).upd = s.upd
    ∧ (switchCells p s).tmp = s.tmp ∧ (switchCells p s).pli = s.pli ∧ (switchCells p s).pins = s.pins
    ∧ (switchCells p s).pending = s.pending := by
  unfold switchCells; (try dsimp only); (repeat' split) <;> simp

@[simp] theorem anaTake_frame (s : State) :
    (anaTake s).tim = s.tim ∧ (anaTake s).sch = s.sch ∧ (anaTake s).chn = s.chn ∧ (anaTake s).aln = s.aln
    ∧ (anaTake s).cells = s.cells ∧ (anaTake s).lim = s.lim ∧ (anaTake s).cnd = s.cnd ∧ (anaTake s).kdr = s.kdr
    ∧ (anaTake s).seq = s.seq ∧ (anaTake s).ctr = s.ctr ∧ (anaTake s).log = s.log ∧ (anaTake s).pwr = s.pwr
    ∧ (anaTake s).nvs = s.nvs ∧ (anaTake s).prof = s.prof ∧ (anaTake s).upd = s.upd ∧ (anaTake s).tmp = s.tmp
    ∧ (anaTake s).pli = s.pli ∧ (anaTake s).pins = s.pins ∧ (anaTake s).pending = s.pending := by
  unfold anaTake; (try dsimp only); (repeat' split) <;> simp

@[simp] theorem countersTake_frame (s : State) :
    (countersTake s).tim = s.tim ∧ (countersTake s).sch = s.sch ∧ (countersTake s).chn = s.chn ∧ (countersTake s).ana = s.ana
    ∧ (countersTake s).aln = s.aln ∧ (countersTake s).cells = s.cells ∧ (countersTake s).lim = s.lim
    ∧ (countersTake s).kdr = s.kdr ∧ (countersTake s).seq = s.seq ∧ (countersTake s).log = s.log ∧ (countersTake s).pwr = s.pwr
    ∧ (countersTake s).nvs = s.nvs ∧ (countersTake s).prof = s.prof ∧ (countersTake s).upd = s.upd
    ∧ (countersTake s).tmp = s.tmp ∧ (countersTake s).pli = s.pli ∧ (countersTake s).pins = s.pins
    ∧ (countersTake s).pending = s.pending := by
  unfold countersTake; (try dsimp only); (repeat' split) <;> simp

@[simp] theorem thresholdTake_frame (s : State) :
    (thresholdTake s).tim = s.tim ∧ (thresholdTake s).sch = s.sch ∧ (thresholdTake s).chn = s.chn
    ∧ (thresholdTake s).ana = s.ana ∧ (thresholdTake s).aln = s.aln ∧ (thresholdTake s).cells = s.cells
    ∧ (thresholdTake s).lim = s.lim ∧ (thresholdTake s).kdr = s.kdr ∧ (thresholdTake s).seq = s.seq
    ∧ (thresholdTake s).ctr = s.ctr ∧ (thresholdTake s).pwr = s.pwr ∧ (thresholdTake s).nvs = s.nvs
    ∧ (thresholdTake s).prof = s.prof ∧ (thresholdTake s).upd = s.upd ∧ (thresholdTake s).tmp = s.tmp
    ∧ (thresholdTake s).pli = s.pli ∧ (thresholdTake s).pins = s.pins ∧ (thresholdTake s).pending = s.pending := by
  unfold thresholdTake; (try dsimp only); (repeat' split) <;> simp

@[simp] theorem applySwitch_frame (s : State) :
    (applySwitch s).tim = s.tim ∧ (applySwitch s).sch = s.sch ∧ (applySwitch s).aln = s.aln ∧ (applySwitch s).lim = s.lim
    ∧ (applySwitch s).seq = s.seq ∧ (applySwitch s).pwr = s.pwr ∧ (applySwitch s).tmp = s.tmp ∧ (applySwitch s).pli = s.pli
    ∧ (applySwitch s).pins = s.pins ∧ (applySwitch s).pending = s.pending := by
  unfold applySwitch; (try dsimp only); (repeat' split) <;> simp

@[simp] theorem holdSched_frame (s : State) :
    (holdSched s).tim = s.tim ∧ (holdSched s).chn = s.chn ∧ (holdSched s).ana = s.ana ∧ (holdSched s).aln = s.aln
    ∧ (holdSched s).cells = s.cells ∧ (holdSched s).lim = s.lim ∧ (holdSched s).cnd = s.cnd ∧ (holdSched s).kdr = s.kdr
    ∧ (holdSched s).seq = s.seq ∧ (holdSched s).ctr = s.ctr ∧ (holdSched s).log = s.log ∧ (holdSched s).pwr = s.pwr
    ∧ (holdSched s).nvs = s.nvs ∧ (holdSched s).prof = s.prof ∧ (holdSched s).tmp = s.tmp ∧ (holdSched s).pli = s.pli
    ∧ (holdSched s).pins = s.pins ∧ (holdSched s).pending = s.pending := by
  unfold holdSched; (try dsimp only); (repeat' split) <;> simp

@[simp] theorem lookAgain_frame (s : State) :
    (lookAgain s).tim = s.tim ∧ (lookAgain s).aln = s.aln ∧ (lookAgain s).lim = s.lim ∧ (lookAgain s).seq = s.seq
    ∧ (lookAgain s).pwr = s.pwr ∧ (lookAgain s).tmp = s.tmp ∧ (lookAgain s).pli = s.pli ∧ (lookAgain s).pins = s.pins
    ∧ (lookAgain s).pending = s.pending := by
  unfold lookAgain; (try dsimp only); (repeat' split) <;> simp

@[simp] theorem pursue_frame (s : State) :
    (pursue s).tim = s.tim ∧ (pursue s).aln = s.aln ∧ (pursue s).lim = s.lim ∧ (pursue s).seq = s.seq ∧ (pursue s).pwr = s.pwr
    ∧ (pursue s).tmp = s.tmp ∧ (pursue s).pli = s.pli ∧ (pursue s).pins = s.pins ∧ (pursue s).pending = s.pending := by
  unfold pursue; (try dsimp only); (repeat' split) <;> simp

/-! ## Power -/

@[simp] theorem beginWaking_frame (w : WakeSet) (s : State) :
    (beginWaking w s).tim = s.tim ∧ (beginWaking w s).sch = s.sch ∧ (beginWaking w s).aln = s.aln
    ∧ (beginWaking w s).cells = s.cells ∧ (beginWaking w s).lim = s.lim ∧ (beginWaking w s).cnd = s.cnd
    ∧ (beginWaking w s).seq = s.seq ∧ (beginWaking w s).ctr = s.ctr ∧ (beginWaking w s).log = s.log
    ∧ (beginWaking w s).nvs = s.nvs ∧ (beginWaking w s).prof = s.prof ∧ (beginWaking w s).upd = s.upd
    ∧ (beginWaking w s).tmp = s.tmp ∧ (beginWaking w s).pins = s.pins ∧ (beginWaking w s).pending = s.pending := by
  unfold beginWaking; (try dsimp only); (repeat' split) <;> simp

@[simp] theorem forgetPast_frame (s : State) :
    (forgetPast s).tim = s.tim ∧ (forgetPast s).sch = s.sch ∧ (forgetPast s).chn = s.chn ∧ (forgetPast s).ana = s.ana
    ∧ (forgetPast s).aln = s.aln ∧ (forgetPast s).lim = s.lim ∧ (forgetPast s).cnd = s.cnd ∧ (forgetPast s).kdr = s.kdr
    ∧ (forgetPast s).seq = s.seq ∧ (forgetPast s).ctr = s.ctr ∧ (forgetPast s).log = s.log ∧ (forgetPast s).pwr = s.pwr
    ∧ (forgetPast s).nvs = s.nvs ∧ (forgetPast s).prof = s.prof ∧ (forgetPast s).upd = s.upd ∧ (forgetPast s).tmp = s.tmp
    ∧ (forgetPast s).pli = s.pli ∧ (forgetPast s).pins = s.pins ∧ (forgetPast s).pending = s.pending := by
  unfold forgetPast; (try dsimp only); (repeat' split) <;> simp

@[simp] theorem restoreLevel_frame (s : State) :
    (restoreLevel s).tim = s.tim ∧ (restoreLevel s).ana = s.ana ∧ (restoreLevel s).aln = s.aln
    ∧ (restoreLevel s).cells = s.cells ∧ (restoreLevel s).lim = s.lim ∧ (restoreLevel s).kdr = s.kdr
    ∧ (restoreLevel s).seq = s.seq ∧ (restoreLevel s).ctr = s.ctr ∧ (restoreLevel s).log = s.log ∧ (restoreLevel s).nvs = s.nvs
    ∧ (restoreLevel s).prof = s.prof ∧ (restoreLevel s).upd = s.upd ∧ (restoreLevel s).tmp = s.tmp
    ∧ (restoreLevel s).pli = s.pli ∧ (restoreLevel s).pins = s.pins ∧ (restoreLevel s).pending = s.pending := by
  unfold restoreLevel; (try dsimp only); (repeat' split) <;> simp

@[simp] theorem announce_frame (s : State) :
    (announce s).tim = s.tim ∧ (announce s).sch = s.sch ∧ (announce s).chn = s.chn ∧ (announce s).ana = s.ana
    ∧ (announce s).aln = s.aln ∧ (announce s).cells = s.cells ∧ (announce s).lim = s.lim ∧ (announce s).kdr = s.kdr
    ∧ (announce s).seq = s.seq ∧ (announce s).ctr = s.ctr ∧ (announce s).log = s.log ∧ (announce s).nvs = s.nvs
    ∧ (announce s).prof = s.prof ∧ (announce s).upd = s.upd ∧ (announce s).tmp = s.tmp ∧ (announce s).pli = s.pli
    ∧ (announce s).pins = s.pins ∧ (announce s).pending = s.pending := by
  unfold announce; (try dsimp only); (repeat' split) <;> simp

@[simp] theorem wakeProgress_frame (s : State) :
    (wakeProgress s).tim = s.tim ∧ (wakeProgress s).ana = s.ana ∧ (wakeProgress s).aln = s.aln ∧ (wakeProgress s).lim = s.lim
    ∧ (wakeProgress s).kdr = s.kdr ∧ (wakeProgress s).seq = s.seq ∧ (wakeProgress s).ctr = s.ctr ∧ (wakeProgress s).log = s.log
    ∧ (wakeProgress s).nvs = s.nvs ∧ (wakeProgress s).prof = s.prof ∧ (wakeProgress s).upd = s.upd
    ∧ (wakeProgress s).tmp = s.tmp ∧ (wakeProgress s).pli = s.pli ∧ (wakeProgress s).pins = s.pins
    ∧ (wakeProgress s).pending = s.pending := by
  unfold wakeProgress; (try dsimp only); (repeat' split) <;> simp

@[simp] theorem loadSleepTimer_frame (s : State) :
    (loadSleepTimer s).tim = s.tim ∧ (loadSleepTimer s).sch = s.sch ∧ (loadSleepTimer s).chn = s.chn
    ∧ (loadSleepTimer s).ana = s.ana ∧ (loadSleepTimer s).aln = s.aln ∧ (loadSleepTimer s).cells = s.cells
    ∧ (loadSleepTimer s).lim = s.lim ∧ (loadSleepTimer s).cnd = s.cnd ∧ (loadSleepTimer s).kdr = s.kdr
    ∧ (loadSleepTimer s).seq = s.seq ∧ (loadSleepTimer s).ctr = s.ctr ∧ (loadSleepTimer s).log = s.log
    ∧ (loadSleepTimer s).nvs = s.nvs ∧ (loadSleepTimer s).prof = s.prof ∧ (loadSleepTimer s).upd = s.upd
    ∧ (loadSleepTimer s).tmp = s.tmp ∧ (loadSleepTimer s).pli = s.pli ∧ (loadSleepTimer s).pins = s.pins
    ∧ (loadSleepTimer s).pending = s.pending := by
  unfold loadSleepTimer; (try dsimp only); (repeat' split) <;> simp

@[simp] theorem sleepDecision_frame (s : State) :
    (sleepDecision s).tim = s.tim ∧ (sleepDecision s).sch = s.sch ∧ (sleepDecision s).aln = s.aln
    ∧ (sleepDecision s).cells = s.cells ∧ (sleepDecision s).lim = s.lim ∧ (sleepDecision s).seq = s.seq
    ∧ (sleepDecision s).ctr = s.ctr ∧ (sleepDecision s).log = s.log ∧ (sleepDecision s).nvs = s.nvs
    ∧ (sleepDecision s).prof = s.prof ∧ (sleepDecision s).upd = s.upd ∧ (sleepDecision s).tmp = s.tmp
    ∧ (sleepDecision s).pins = s.pins ∧ (sleepDecision s).pending = s.pending := by
  unfold sleepDecision; (try dsimp only); (repeat' split) <;> simp

@[simp] theorem sleepLaunch_frame (s : State) :
    (sleepLaunch s).tim = s.tim ∧ (sleepLaunch s).aln = s.aln ∧ (sleepLaunch s).cells = s.cells ∧ (sleepLaunch s).lim = s.lim
    ∧ (sleepLaunch s).seq = s.seq ∧ (sleepLaunch s).ctr = s.ctr ∧ (sleepLaunch s).log = s.log ∧ (sleepLaunch s).nvs = s.nvs
    ∧ (sleepLaunch s).prof = s.prof ∧ (sleepLaunch s).upd = s.upd ∧ (sleepLaunch s).tmp = s.tmp ∧ (sleepLaunch s).pins = s.pins
    ∧ (sleepLaunch s).pending = s.pending := by
  unfold sleepLaunch; (try dsimp only); (repeat' split) <;> simp

@[simp] theorem launchIfReady_frame (s : State) :
    (launchIfReady s).tim = s.tim ∧ (launchIfReady s).aln = s.aln ∧ (launchIfReady s).cells = s.cells
    ∧ (launchIfReady s).lim = s.lim ∧ (launchIfReady s).seq = s.seq ∧ (launchIfReady s).ctr = s.ctr
    ∧ (launchIfReady s).log = s.log ∧ (launchIfReady s).nvs = s.nvs ∧ (launchIfReady s).prof = s.prof
    ∧ (launchIfReady s).upd = s.upd ∧ (launchIfReady s).tmp = s.tmp ∧ (launchIfReady s).pins = s.pins
    ∧ (launchIfReady s).pending = s.pending := by
  unfold launchIfReady; (try dsimp only); (repeat' split) <;> simp

@[simp] theorem chainReport_frame (s : State) :
    (chainReport s).tim = s.tim ∧ (chainReport s).aln = s.aln ∧ (chainReport s).cells = s.cells ∧ (chainReport s).lim = s.lim
    ∧ (chainReport s).seq = s.seq ∧ (chainReport s).ctr = s.ctr ∧ (chainReport s).log = s.log ∧ (chainReport s).nvs = s.nvs
    ∧ (chainReport s).prof = s.prof ∧ (chainReport s).upd = s.upd ∧ (chainReport s).tmp = s.tmp ∧ (chainReport s).pins = s.pins
    ∧ (chainReport s).pending = s.pending := by
  unfold chainReport; (try dsimp only); (repeat' split) <;> simp

@[simp] theorem anaReport_frame (s : State) :
    (anaReport s).tim = s.tim ∧ (anaReport s).aln = s.aln ∧ (anaReport s).cells = s.cells ∧ (anaReport s).lim = s.lim
    ∧ (anaReport s).seq = s.seq ∧ (anaReport s).ctr = s.ctr ∧ (anaReport s).log = s.log ∧ (anaReport s).nvs = s.nvs
    ∧ (anaReport s).prof = s.prof ∧ (anaReport s).upd = s.upd ∧ (anaReport s).tmp = s.tmp ∧ (anaReport s).pins = s.pins
    ∧ (anaReport s).pending = s.pending := by
  unfold anaReport; (try dsimp only); (repeat' split) <;> simp

@[simp] theorem chainIdle_frame (s : State) :
    (chainIdle s).tim = s.tim ∧ (chainIdle s).aln = s.aln ∧ (chainIdle s).cells = s.cells ∧ (chainIdle s).lim = s.lim
    ∧ (chainIdle s).seq = s.seq ∧ (chainIdle s).ctr = s.ctr ∧ (chainIdle s).log = s.log ∧ (chainIdle s).nvs = s.nvs
    ∧ (chainIdle s).prof = s.prof ∧ (chainIdle s).upd = s.upd ∧ (chainIdle s).tmp = s.tmp ∧ (chainIdle s).pins = s.pins
    ∧ (chainIdle s).pending = s.pending := by
  unfold chainIdle; (try dsimp only); (repeat' split) <;> simp

@[simp] theorem sleepExpire_frame (s : State) :
    (sleepExpire s).tim = s.tim ∧ (sleepExpire s).sch = s.sch ∧ (sleepExpire s).aln = s.aln ∧ (sleepExpire s).cells = s.cells
    ∧ (sleepExpire s).lim = s.lim ∧ (sleepExpire s).cnd = s.cnd ∧ (sleepExpire s).kdr = s.kdr ∧ (sleepExpire s).seq = s.seq
    ∧ (sleepExpire s).ctr = s.ctr ∧ (sleepExpire s).log = s.log ∧ (sleepExpire s).nvs = s.nvs ∧ (sleepExpire s).prof = s.prof
    ∧ (sleepExpire s).upd = s.upd ∧ (sleepExpire s).tmp = s.tmp ∧ (sleepExpire s).pli = s.pli ∧ (sleepExpire s).pins = s.pins
    ∧ (sleepExpire s).pending = s.pending := by
  unfold sleepExpire; (try dsimp only); (repeat' split) <;> simp

@[simp] theorem tickSleep_frame (s : State) :
    (tickSleep s).tim = s.tim ∧ (tickSleep s).sch = s.sch ∧ (tickSleep s).chn = s.chn ∧ (tickSleep s).ana = s.ana
    ∧ (tickSleep s).aln = s.aln ∧ (tickSleep s).cells = s.cells ∧ (tickSleep s).lim = s.lim ∧ (tickSleep s).cnd = s.cnd
    ∧ (tickSleep s).kdr = s.kdr ∧ (tickSleep s).seq = s.seq ∧ (tickSleep s).ctr = s.ctr ∧ (tickSleep s).log = s.log
    ∧ (tickSleep s).nvs = s.nvs ∧ (tickSleep s).prof = s.prof ∧ (tickSleep s).upd = s.upd ∧ (tickSleep s).tmp = s.tmp
    ∧ (tickSleep s).pli = s.pli ∧ (tickSleep s).pins = s.pins ∧ (tickSleep s).pending = s.pending := by
  unfold tickSleep; (try dsimp only); (repeat' split) <;> simp

@[simp] theorem hostArrive_frame (s : State) :
    (hostArrive s).tim = s.tim ∧ (hostArrive s).sch = s.sch ∧ (hostArrive s).aln = s.aln ∧ (hostArrive s).cells = s.cells
    ∧ (hostArrive s).lim = s.lim ∧ (hostArrive s).cnd = s.cnd ∧ (hostArrive s).seq = s.seq ∧ (hostArrive s).ctr = s.ctr
    ∧ (hostArrive s).log = s.log ∧ (hostArrive s).nvs = s.nvs ∧ (hostArrive s).prof = s.prof ∧ (hostArrive s).upd = s.upd
    ∧ (hostArrive s).tmp = s.tmp ∧ (hostArrive s).pins = s.pins ∧ (hostArrive s).pending = s.pending := by
  unfold hostArrive; (try dsimp only); (repeat' split) <;> simp

@[simp] theorem tamperReport_frame (s : State) :
    (tamperReport s).tim = s.tim ∧ (tamperReport s).sch = s.sch ∧ (tamperReport s).aln = s.aln
    ∧ (tamperReport s).cells = s.cells ∧ (tamperReport s).lim = s.lim ∧ (tamperReport s).cnd = s.cnd
    ∧ (tamperReport s).seq = s.seq ∧ (tamperReport s).ctr = s.ctr ∧ (tamperReport s).log = s.log ∧ (tamperReport s).nvs = s.nvs
    ∧ (tamperReport s).prof = s.prof ∧ (tamperReport s).upd = s.upd ∧ (tamperReport s).tmp = s.tmp
    ∧ (tamperReport s).pins = s.pins ∧ (tamperReport s).pending = s.pending := by
  unfold tamperReport; (try dsimp only); (repeat' split) <;> simp

theorem requestWear_frame (s t : State) (h : requestWear s = some t) :
    t.tim = s.tim ∧ t.sch = s.sch ∧ t.chn = s.chn ∧ t.ana = s.ana ∧ t.aln = s.aln ∧ t.cells = s.cells ∧ t.lim = s.lim
    ∧ t.cnd = s.cnd ∧ t.seq = s.seq ∧ t.ctr = s.ctr ∧ t.log = s.log ∧ t.pwr = s.pwr ∧ t.prof = s.prof ∧ t.upd = s.upd
    ∧ t.tmp = s.tmp ∧ t.pli = s.pli ∧ t.pins = s.pins ∧ t.pending = s.pending := by
  unfold requestWear at h
  split at h
  · cases h; simp
  · simp only [Option.map_eq_some_iff] at h
    obtain ⟨u, hu, rfl⟩ := h
    have := offerOp_frame _ _ _ hu
    simp [this]

@[simp] theorem setEntryStage_frame (n : Nat) (s : State) :
    (setEntryStage n s).tim = s.tim ∧ (setEntryStage n s).sch = s.sch ∧ (setEntryStage n s).chn = s.chn
    ∧ (setEntryStage n s).ana = s.ana ∧ (setEntryStage n s).aln = s.aln ∧ (setEntryStage n s).cells = s.cells
    ∧ (setEntryStage n s).lim = s.lim ∧ (setEntryStage n s).cnd = s.cnd ∧ (setEntryStage n s).kdr = s.kdr
    ∧ (setEntryStage n s).seq = s.seq ∧ (setEntryStage n s).ctr = s.ctr ∧ (setEntryStage n s).log = s.log
    ∧ (setEntryStage n s).nvs = s.nvs ∧ (setEntryStage n s).prof = s.prof ∧ (setEntryStage n s).upd = s.upd
    ∧ (setEntryStage n s).tmp = s.tmp ∧ (setEntryStage n s).pli = s.pli ∧ (setEntryStage n s).pins = s.pins
    ∧ (setEntryStage n s).pending = s.pending := by
  unfold setEntryStage; (try dsimp only); (repeat' split) <;> simp

@[simp] theorem beginEntry_frame (s : State) :
    (beginEntry s).tim = s.tim ∧ (beginEntry s).chn = s.chn ∧ (beginEntry s).ana = s.ana ∧ (beginEntry s).aln = s.aln
    ∧ (beginEntry s).cells = s.cells ∧ (beginEntry s).lim = s.lim ∧ (beginEntry s).cnd = s.cnd ∧ (beginEntry s).kdr = s.kdr
    ∧ (beginEntry s).seq = s.seq ∧ (beginEntry s).ctr = s.ctr ∧ (beginEntry s).log = s.log ∧ (beginEntry s).nvs = s.nvs
    ∧ (beginEntry s).prof = s.prof ∧ (beginEntry s).upd = s.upd ∧ (beginEntry s).tmp = s.tmp ∧ (beginEntry s).pli = s.pli
    ∧ (beginEntry s).pins = s.pins ∧ (beginEntry s).pending = s.pending := by
  unfold beginEntry; (try dsimp only); (repeat' split) <;> simp

@[simp] theorem entryOne_frame (s : State) :
    (entryOne s).tim = s.tim ∧ (entryOne s).sch = s.sch ∧ (entryOne s).chn = s.chn ∧ (entryOne s).ana = s.ana
    ∧ (entryOne s).aln = s.aln ∧ (entryOne s).cells = s.cells ∧ (entryOne s).lim = s.lim ∧ (entryOne s).cnd = s.cnd
    ∧ (entryOne s).seq = s.seq ∧ (entryOne s).ctr = s.ctr ∧ (entryOne s).log = s.log ∧ (entryOne s).prof = s.prof
    ∧ (entryOne s).pli = s.pli ∧ (entryOne s).pins = s.pins ∧ (entryOne s).pending = s.pending := by
  unfold entryOne
  dsimp only
  split
  · cases h : requestWear (setEntryStage 2 s) with
    | none => simp
    | some t => simp [requestWear_frame _ _ h]
  · simp

@[simp] theorem askActivation_frame (s : State) :
    (askActivation s).tim = s.tim ∧ (askActivation s).sch = s.sch ∧ (askActivation s).chn = s.chn
    ∧ (askActivation s).ana = s.ana ∧ (askActivation s).aln = s.aln ∧ (askActivation s).cells = s.cells
    ∧ (askActivation s).lim = s.lim ∧ (askActivation s).cnd = s.cnd ∧ (askActivation s).kdr = s.kdr
    ∧ (askActivation s).seq = s.seq ∧ (askActivation s).ctr = s.ctr ∧ (askActivation s).log = s.log
    ∧ (askActivation s).pwr = s.pwr ∧ (askActivation s).prof = s.prof ∧ (askActivation s).tmp = s.tmp
    ∧ (askActivation s).pli = s.pli ∧ (askActivation s).pins = s.pins ∧ (askActivation s).pending = s.pending := by
  unfold askActivation
  split
  · split
    · simp
    · split
      · rename_i h; simp [offerOp_frame _ _ _ h]
      · simp
  · simp

@[simp] theorem entryTwo_frame (s : State) :
    (entryTwo s).tim = s.tim ∧ (entryTwo s).sch = s.sch ∧ (entryTwo s).chn = s.chn ∧ (entryTwo s).ana = s.ana
    ∧ (entryTwo s).aln = s.aln ∧ (entryTwo s).cells = s.cells ∧ (entryTwo s).lim = s.lim ∧ (entryTwo s).cnd = s.cnd
    ∧ (entryTwo s).seq = s.seq ∧ (entryTwo s).ctr = s.ctr ∧ (entryTwo s).log = s.log ∧ (entryTwo s).prof = s.prof
    ∧ (entryTwo s).pli = s.pli ∧ (entryTwo s).pins = s.pins ∧ (entryTwo s).pending = s.pending := by
  unfold entryTwo; (try dsimp only); (repeat' split) <;> simp

@[simp] theorem entryThree_frame (s : State) :
    (entryThree s).tim = s.tim ∧ (entryThree s).sch = s.sch ∧ (entryThree s).aln = s.aln ∧ (entryThree s).lim = s.lim
    ∧ (entryThree s).seq = s.seq ∧ (entryThree s).tmp = s.tmp ∧ (entryThree s).pli = s.pli ∧ (entryThree s).pins = s.pins
    ∧ (entryThree s).pending = s.pending := by
  unfold entryThree; (try dsimp only); (repeat' split) <;> simp

@[simp] theorem takeSleepRefs_frame (s : State) :
    (takeSleepRefs s).tim = s.tim ∧ (takeSleepRefs s).sch = s.sch ∧ (takeSleepRefs s).chn = s.chn
    ∧ (takeSleepRefs s).ana = s.ana ∧ (takeSleepRefs s).aln = s.aln ∧ (takeSleepRefs s).lim = s.lim
    ∧ (takeSleepRefs s).cnd = s.cnd ∧ (takeSleepRefs s).kdr = s.kdr ∧ (takeSleepRefs s).seq = s.seq
    ∧ (takeSleepRefs s).ctr = s.ctr ∧ (takeSleepRefs s).log = s.log ∧ (takeSleepRefs s).pwr = s.pwr
    ∧ (takeSleepRefs s).nvs = s.nvs ∧ (takeSleepRefs s).prof = s.prof ∧ (takeSleepRefs s).upd = s.upd
    ∧ (takeSleepRefs s).tmp = s.tmp ∧ (takeSleepRefs s).pli = s.pli ∧ (takeSleepRefs s).pins = s.pins
    ∧ (takeSleepRefs s).pending = s.pending := by
  unfold takeSleepRefs; (try dsimp only); (repeat' split) <;> simp

@[simp] theorem wakeIfPending_frame (s : State) :
    (wakeIfPending s).tim = s.tim ∧ (wakeIfPending s).sch = s.sch ∧ (wakeIfPending s).aln = s.aln
    ∧ (wakeIfPending s).cells = s.cells ∧ (wakeIfPending s).lim = s.lim ∧ (wakeIfPending s).cnd = s.cnd
    ∧ (wakeIfPending s).seq = s.seq ∧ (wakeIfPending s).ctr = s.ctr ∧ (wakeIfPending s).log = s.log
    ∧ (wakeIfPending s).nvs = s.nvs ∧ (wakeIfPending s).prof = s.prof ∧ (wakeIfPending s).upd = s.upd
    ∧ (wakeIfPending s).tmp = s.tmp ∧ (wakeIfPending s).pins = s.pins ∧ (wakeIfPending s).pending = s.pending := by
  unfold wakeIfPending; (try dsimp only); (repeat' split) <;> simp

@[simp] theorem enterSleep_frame (s : State) :
    (enterSleep s).tim = s.tim ∧ (enterSleep s).sch = s.sch ∧ (enterSleep s).aln = s.aln ∧ (enterSleep s).lim = s.lim
    ∧ (enterSleep s).seq = s.seq ∧ (enterSleep s).ctr = s.ctr ∧ (enterSleep s).log = s.log ∧ (enterSleep s).nvs = s.nvs
    ∧ (enterSleep s).prof = s.prof ∧ (enterSleep s).upd = s.upd ∧ (enterSleep s).tmp = s.tmp ∧ (enterSleep s).pins = s.pins
    ∧ (enterSleep s).pending = s.pending := by
  unfold enterSleep; (try dsimp only); (repeat' split) <;> simp

@[simp] theorem abandonEntry_frame (s : State) :
    (abandonEntry s).tim = s.tim ∧ (abandonEntry s).ana = s.ana ∧ (abandonEntry s).aln = s.aln
    ∧ (abandonEntry s).cells = s.cells ∧ (abandonEntry s).lim = s.lim ∧ (abandonEntry s).cnd = s.cnd
    ∧ (abandonEntry s).kdr = s.kdr ∧ (abandonEntry s).seq = s.seq ∧ (abandonEntry s).ctr = s.ctr ∧ (abandonEntry s).log = s.log
    ∧ (abandonEntry s).nvs = s.nvs ∧ (abandonEntry s).prof = s.prof ∧ (abandonEntry s).upd = s.upd
    ∧ (abandonEntry s).tmp = s.tmp ∧ (abandonEntry s).pli = s.pli ∧ (abandonEntry s).pins = s.pins
    ∧ (abandonEntry s).pending = s.pending := by
  unfold abandonEntry; (try dsimp only); (repeat' split) <;> simp

@[simp] theorem entryFour_frame (s : State) :
    (entryFour s).tim = s.tim ∧ (entryFour s).aln = s.aln ∧ (entryFour s).lim = s.lim ∧ (entryFour s).seq = s.seq
    ∧ (entryFour s).ctr = s.ctr ∧ (entryFour s).log = s.log ∧ (entryFour s).nvs = s.nvs ∧ (entryFour s).prof = s.prof
    ∧ (entryFour s).upd = s.upd ∧ (entryFour s).tmp = s.tmp ∧ (entryFour s).pins = s.pins ∧ (entryFour s).pending = s.pending := by
  unfold entryFour; (try dsimp only); (repeat' split) <;> simp

/-! ## Startup -/

@[simp] theorem updFail_frame (reason : UpdReason) (s : State) :
    (updFail reason s).tim = s.tim ∧ (updFail reason s).sch = s.sch ∧ (updFail reason s).chn = s.chn
    ∧ (updFail reason s).ana = s.ana ∧ (updFail reason s).aln = s.aln ∧ (updFail reason s).cells = s.cells
    ∧ (updFail reason s).lim = s.lim ∧ (updFail reason s).kdr = s.kdr ∧ (updFail reason s).seq = s.seq
    ∧ (updFail reason s).ctr = s.ctr ∧ (updFail reason s).pwr = s.pwr ∧ (updFail reason s).nvs = s.nvs
    ∧ (updFail reason s).prof = s.prof ∧ (updFail reason s).tmp = s.tmp ∧ (updFail reason s).pli = s.pli
    ∧ (updFail reason s).pins = s.pins ∧ (updFail reason s).pending = s.pending := by
  unfold updFail; (try dsimp only); (repeat' split) <;> simp

@[simp] theorem dropOps_frame (f : NvOp → Bool) (s : State) :
    (dropOps f s).tim = s.tim ∧ (dropOps f s).sch = s.sch ∧ (dropOps f s).chn = s.chn ∧ (dropOps f s).ana = s.ana
    ∧ (dropOps f s).aln = s.aln ∧ (dropOps f s).cells = s.cells ∧ (dropOps f s).lim = s.lim ∧ (dropOps f s).cnd = s.cnd
    ∧ (dropOps f s).kdr = s.kdr ∧ (dropOps f s).seq = s.seq ∧ (dropOps f s).ctr = s.ctr ∧ (dropOps f s).log = s.log
    ∧ (dropOps f s).pwr = s.pwr ∧ (dropOps f s).prof = s.prof ∧ (dropOps f s).upd = s.upd ∧ (dropOps f s).tmp = s.tmp
    ∧ (dropOps f s).pli = s.pli ∧ (dropOps f s).pins = s.pins ∧ (dropOps f s).pending = s.pending := by
  unfold dropOps; (try dsimp only); (repeat' split) <;> simp

@[simp] theorem cancelClear_frame (s : State) :
    (cancelClear s).tim = s.tim ∧ (cancelClear s).sch = s.sch ∧ (cancelClear s).chn = s.chn ∧ (cancelClear s).ana = s.ana
    ∧ (cancelClear s).aln = s.aln ∧ (cancelClear s).cells = s.cells ∧ (cancelClear s).lim = s.lim ∧ (cancelClear s).cnd = s.cnd
    ∧ (cancelClear s).kdr = s.kdr ∧ (cancelClear s).seq = s.seq ∧ (cancelClear s).ctr = s.ctr ∧ (cancelClear s).log = s.log
    ∧ (cancelClear s).pwr = s.pwr ∧ (cancelClear s).prof = s.prof ∧ (cancelClear s).upd = s.upd ∧ (cancelClear s).pli = s.pli
    ∧ (cancelClear s).pins = s.pins ∧ (cancelClear s).pending = s.pending := by
  unfold cancelClear; (try dsimp only); (repeat' split) <;> simp

@[simp] theorem tamperUpdate_frame (s : State) :
    (tamperUpdate s).tim = s.tim ∧ (tamperUpdate s).sch = s.sch ∧ (tamperUpdate s).chn = s.chn ∧ (tamperUpdate s).ana = s.ana
    ∧ (tamperUpdate s).aln = s.aln ∧ (tamperUpdate s).cells = s.cells ∧ (tamperUpdate s).lim = s.lim
    ∧ (tamperUpdate s).kdr = s.kdr ∧ (tamperUpdate s).seq = s.seq ∧ (tamperUpdate s).ctr = s.ctr ∧ (tamperUpdate s).pwr = s.pwr
    ∧ (tamperUpdate s).prof = s.prof ∧ (tamperUpdate s).tmp = s.tmp ∧ (tamperUpdate s).pli = s.pli
    ∧ (tamperUpdate s).pins = s.pins ∧ (tamperUpdate s).pending = s.pending := by
  unfold tamperUpdate; (try dsimp only); (repeat' split) <;> simp

@[simp] theorem tamperMark_frame (s : State) :
    (tamperMark s).tim = s.tim ∧ (tamperMark s).sch = s.sch ∧ (tamperMark s).chn = s.chn ∧ (tamperMark s).ana = s.ana
    ∧ (tamperMark s).aln = s.aln ∧ (tamperMark s).cells = s.cells ∧ (tamperMark s).lim = s.lim ∧ (tamperMark s).cnd = s.cnd
    ∧ (tamperMark s).kdr = s.kdr ∧ (tamperMark s).seq = s.seq ∧ (tamperMark s).ctr = s.ctr ∧ (tamperMark s).log = s.log
    ∧ (tamperMark s).pwr = s.pwr ∧ (tamperMark s).prof = s.prof ∧ (tamperMark s).tmp = s.tmp ∧ (tamperMark s).pli = s.pli
    ∧ (tamperMark s).pins = s.pins ∧ (tamperMark s).pending = s.pending := by
  unfold tamperMark; (try dsimp only); (repeat' split) <;> simp

@[simp] theorem tamperActivation_frame (s : State) :
    (tamperActivation s).tim = s.tim ∧ (tamperActivation s).sch = s.sch ∧ (tamperActivation s).chn = s.chn
    ∧ (tamperActivation s).ana = s.ana ∧ (tamperActivation s).aln = s.aln ∧ (tamperActivation s).cells = s.cells
    ∧ (tamperActivation s).lim = s.lim ∧ (tamperActivation s).cnd = s.cnd ∧ (tamperActivation s).kdr = s.kdr
    ∧ (tamperActivation s).seq = s.seq ∧ (tamperActivation s).ctr = s.ctr ∧ (tamperActivation s).log = s.log
    ∧ (tamperActivation s).pwr = s.pwr ∧ (tamperActivation s).prof = s.prof ∧ (tamperActivation s).tmp = s.tmp
    ∧ (tamperActivation s).pli = s.pli ∧ (tamperActivation s).pins = s.pins ∧ (tamperActivation s).pending = s.pending := by
  unfold tamperActivation; (try dsimp only); (repeat' split) <;> simp

@[simp] theorem tamperEffects_frame (s : State) :
    (tamperEffects s).tim = s.tim ∧ (tamperEffects s).sch = s.sch ∧ (tamperEffects s).aln = s.aln
    ∧ (tamperEffects s).cells = s.cells ∧ (tamperEffects s).lim = s.lim ∧ (tamperEffects s).seq = s.seq
    ∧ (tamperEffects s).ctr = s.ctr ∧ (tamperEffects s).prof = s.prof ∧ (tamperEffects s).pins = s.pins
    ∧ (tamperEffects s).pending = s.pending := by
  unfold tamperEffects; (try dsimp only); (repeat' split) <;> simp

@[simp] theorem tamperAccept_frame (s : State) :
    (tamperAccept s).tim = s.tim ∧ (tamperAccept s).sch = s.sch ∧ (tamperAccept s).aln = s.aln
    ∧ (tamperAccept s).cells = s.cells ∧ (tamperAccept s).lim = s.lim ∧ (tamperAccept s).seq = s.seq
    ∧ (tamperAccept s).ctr = s.ctr ∧ (tamperAccept s).prof = s.prof ∧ (tamperAccept s).pins = s.pins
    ∧ (tamperAccept s).pending = s.pending := by
  unfold tamperAccept; (try dsimp only); (repeat' split) <;> simp

@[simp] theorem readAnchors_frame (s : State) :
    (readAnchors s).tim = s.tim ∧ (readAnchors s).sch = s.sch ∧ (readAnchors s).chn = s.chn ∧ (readAnchors s).ana = s.ana
    ∧ (readAnchors s).aln = s.aln ∧ (readAnchors s).cells = s.cells ∧ (readAnchors s).lim = s.lim ∧ (readAnchors s).cnd = s.cnd
    ∧ (readAnchors s).kdr = s.kdr ∧ (readAnchors s).seq = s.seq ∧ (readAnchors s).ctr = s.ctr ∧ (readAnchors s).log = s.log
    ∧ (readAnchors s).pwr = s.pwr ∧ (readAnchors s).prof = s.prof ∧ (readAnchors s).upd = s.upd ∧ (readAnchors s).tmp = s.tmp
    ∧ (readAnchors s).pli = s.pli ∧ (readAnchors s).pins = s.pins ∧ (readAnchors s).pending = s.pending := by
  unfold readAnchors; (try dsimp only); (repeat' split) <;> simp

@[simp] theorem takeLatch_frame (s : State) :
    (takeLatch s).tim = s.tim ∧ (takeLatch s).sch = s.sch ∧ (takeLatch s).aln = s.aln ∧ (takeLatch s).cells = s.cells
    ∧ (takeLatch s).lim = s.lim ∧ (takeLatch s).seq = s.seq ∧ (takeLatch s).ctr = s.ctr ∧ (takeLatch s).prof = s.prof
    ∧ (takeLatch s).pins = s.pins ∧ (takeLatch s).pending = s.pending := by
  unfold takeLatch; (try dsimp only); (repeat' split) <;> simp

@[simp] theorem takeWear_frame (x : AB) (w : Wear) (s : State) :
    (takeWear x w s).tim = s.tim ∧ (takeWear x w s).sch = s.sch ∧ (takeWear x w s).chn = s.chn ∧ (takeWear x w s).ana = s.ana
    ∧ (takeWear x w s).aln = s.aln ∧ (takeWear x w s).cells = s.cells ∧ (takeWear x w s).lim = s.lim
    ∧ (takeWear x w s).cnd = s.cnd ∧ (takeWear x w s).seq = s.seq ∧ (takeWear x w s).ctr = s.ctr ∧ (takeWear x w s).log = s.log
    ∧ (takeWear x w s).pwr = s.pwr ∧ (takeWear x w s).prof = s.prof ∧ (takeWear x w s).upd = s.upd
    ∧ (takeWear x w s).tmp = s.tmp ∧ (takeWear x w s).pli = s.pli ∧ (takeWear x w s).pins = s.pins
    ∧ (takeWear x w s).pending = s.pending := by
  unfold takeWear; (try dsimp only); (repeat' split) <;> simp

@[simp] theorem readWears_frame (s : State) :
    (readWears s).tim = s.tim ∧ (readWears s).sch = s.sch ∧ (readWears s).chn = s.chn ∧ (readWears s).ana = s.ana
    ∧ (readWears s).aln = s.aln ∧ (readWears s).cells = s.cells ∧ (readWears s).lim = s.lim ∧ (readWears s).cnd = s.cnd
    ∧ (readWears s).seq = s.seq ∧ (readWears s).ctr = s.ctr ∧ (readWears s).log = s.log ∧ (readWears s).prof = s.prof
    ∧ (readWears s).upd = s.upd ∧ (readWears s).tmp = s.tmp ∧ (readWears s).pli = s.pli ∧ (readWears s).pins = s.pins
    ∧ (readWears s).pending = s.pending := by
  unfold readWears; (try dsimp only); (repeat' split) <;> simp

@[simp] theorem classifyBanks_frame (s : State) :
    (classifyBanks s).tim = s.tim ∧ (classifyBanks s).sch = s.sch ∧ (classifyBanks s).chn = s.chn
    ∧ (classifyBanks s).ana = s.ana ∧ (classifyBanks s).aln = s.aln ∧ (classifyBanks s).cells = s.cells
    ∧ (classifyBanks s).lim = s.lim ∧ (classifyBanks s).cnd = s.cnd ∧ (classifyBanks s).kdr = s.kdr
    ∧ (classifyBanks s).seq = s.seq ∧ (classifyBanks s).ctr = s.ctr ∧ (classifyBanks s).log = s.log
    ∧ (classifyBanks s).pwr = s.pwr ∧ (classifyBanks s).prof = s.prof ∧ (classifyBanks s).upd = s.upd
    ∧ (classifyBanks s).tmp = s.tmp ∧ (classifyBanks s).pli = s.pli ∧ (classifyBanks s).pins = s.pins
    ∧ (classifyBanks s).pending = s.pending := by
  unfold classifyBanks; (try dsimp only); (repeat' split) <;> simp

@[simp] theorem selectionOps_frame (s : State) :
    (selectionOps s).tim = s.tim ∧ (selectionOps s).sch = s.sch ∧ (selectionOps s).chn = s.chn ∧ (selectionOps s).ana = s.ana
    ∧ (selectionOps s).aln = s.aln ∧ (selectionOps s).cells = s.cells ∧ (selectionOps s).lim = s.lim
    ∧ (selectionOps s).cnd = s.cnd ∧ (selectionOps s).kdr = s.kdr ∧ (selectionOps s).seq = s.seq ∧ (selectionOps s).ctr = s.ctr
    ∧ (selectionOps s).log = s.log ∧ (selectionOps s).pwr = s.pwr ∧ (selectionOps s).prof = s.prof
    ∧ (selectionOps s).upd = s.upd ∧ (selectionOps s).tmp = s.tmp ∧ (selectionOps s).pli = s.pli
    ∧ (selectionOps s).pins = s.pins ∧ (selectionOps s).pending = s.pending := by
  unfold selectionOps; (try dsimp only); (repeat' split) <;> simp

@[simp] theorem startupRead_frame (s : State) :
    (startupRead s).tim = s.tim ∧ (startupRead s).sch = s.sch ∧ (startupRead s).aln = s.aln ∧ (startupRead s).cells = s.cells
    ∧ (startupRead s).lim = s.lim ∧ (startupRead s).seq = s.seq ∧ (startupRead s).ctr = s.ctr ∧ (startupRead s).prof = s.prof
    ∧ (startupRead s).pins = s.pins ∧ (startupRead s).pending = s.pending := by
  unfold startupRead; (try dsimp only); (repeat' split) <;> simp

@[simp] theorem takeProfile_frame (p : Profile) (s : State) :
    (takeProfile p s).tim = s.tim ∧ (takeProfile p s).sch = s.sch ∧ (takeProfile p s).chn = s.chn
    ∧ (takeProfile p s).aln = s.aln ∧ (takeProfile p s).cells = s.cells ∧ (takeProfile p s).lim = s.lim
    ∧ (takeProfile p s).seq = s.seq ∧ (takeProfile p s).pwr = s.pwr ∧ (takeProfile p s).nvs = s.nvs
    ∧ (takeProfile p s).upd = s.upd ∧ (takeProfile p s).tmp = s.tmp ∧ (takeProfile p s).pli = s.pli
    ∧ (takeProfile p s).pins = s.pins ∧ (takeProfile p s).pending = s.pending := by
  unfold takeProfile; (try dsimp only); (repeat' split) <;> simp

@[simp] theorem selectionEnd_frame (s : State) :
    (selectionEnd s).tim = s.tim ∧ (selectionEnd s).sch = s.sch ∧ (selectionEnd s).chn = s.chn ∧ (selectionEnd s).aln = s.aln
    ∧ (selectionEnd s).cells = s.cells ∧ (selectionEnd s).lim = s.lim ∧ (selectionEnd s).seq = s.seq
    ∧ (selectionEnd s).pwr = s.pwr ∧ (selectionEnd s).upd = s.upd ∧ (selectionEnd s).tmp = s.tmp ∧ (selectionEnd s).pli = s.pli
    ∧ (selectionEnd s).pins = s.pins ∧ (selectionEnd s).pending = s.pending := by
  unfold selectionEnd; (try dsimp only); (repeat' split) <;> simp

@[simp] theorem selectionProgress_frame (s : State) :
    (selectionProgress s).tim = s.tim ∧ (selectionProgress s).sch = s.sch ∧ (selectionProgress s).aln = s.aln
    ∧ (selectionProgress s).cells = s.cells ∧ (selectionProgress s).lim = s.lim ∧ (selectionProgress s).seq = s.seq
    ∧ (selectionProgress s).pins = s.pins ∧ (selectionProgress s).pending = s.pending := by
  unfold selectionProgress; (try dsimp only); (repeat' split) <;> simp

@[simp] theorem enumerateProgress_frame (s : State) :
    (enumerateProgress s).tim = s.tim ∧ (enumerateProgress s).sch = s.sch ∧ (enumerateProgress s).ana = s.ana
    ∧ (enumerateProgress s).aln = s.aln ∧ (enumerateProgress s).cells = s.cells ∧ (enumerateProgress s).lim = s.lim
    ∧ (enumerateProgress s).cnd = s.cnd ∧ (enumerateProgress s).kdr = s.kdr ∧ (enumerateProgress s).seq = s.seq
    ∧ (enumerateProgress s).ctr = s.ctr ∧ (enumerateProgress s).log = s.log ∧ (enumerateProgress s).pwr = s.pwr
    ∧ (enumerateProgress s).nvs = s.nvs ∧ (enumerateProgress s).prof = s.prof ∧ (enumerateProgress s).upd = s.upd
    ∧ (enumerateProgress s).tmp = s.tmp ∧ (enumerateProgress s).pli = s.pli ∧ (enumerateProgress s).pins = s.pins
    ∧ (enumerateProgress s).pending = s.pending := by
  unfold enumerateProgress; (try dsimp only); (repeat' split) <;> simp

@[simp] theorem settleProgress_frame (s : State) :
    (settleProgress s).tim = s.tim ∧ (settleProgress s).sch = s.sch ∧ (settleProgress s).chn = s.chn
    ∧ (settleProgress s).ana = s.ana ∧ (settleProgress s).aln = s.aln ∧ (settleProgress s).cells = s.cells
    ∧ (settleProgress s).lim = s.lim ∧ (settleProgress s).cnd = s.cnd ∧ (settleProgress s).kdr = s.kdr
    ∧ (settleProgress s).seq = s.seq ∧ (settleProgress s).ctr = s.ctr ∧ (settleProgress s).log = s.log
    ∧ (settleProgress s).nvs = s.nvs ∧ (settleProgress s).prof = s.prof ∧ (settleProgress s).upd = s.upd
    ∧ (settleProgress s).tmp = s.tmp ∧ (settleProgress s).pli = s.pli ∧ (settleProgress s).pins = s.pins
    ∧ (settleProgress s).pending = s.pending := by
  unfold settleProgress; (try dsimp only); (repeat' split) <;> simp

@[simp] theorem startupEnd_frame (s : State) :
    (startupEnd s).tim = s.tim ∧ (startupEnd s).chn = s.chn ∧ (startupEnd s).ana = s.ana ∧ (startupEnd s).aln = s.aln
    ∧ (startupEnd s).cells = s.cells ∧ (startupEnd s).lim = s.lim ∧ (startupEnd s).cnd = s.cnd ∧ (startupEnd s).kdr = s.kdr
    ∧ (startupEnd s).seq = s.seq ∧ (startupEnd s).ctr = s.ctr ∧ (startupEnd s).log = s.log ∧ (startupEnd s).nvs = s.nvs
    ∧ (startupEnd s).prof = s.prof ∧ (startupEnd s).upd = s.upd ∧ (startupEnd s).tmp = s.tmp ∧ (startupEnd s).pli = s.pli
    ∧ (startupEnd s).pins = s.pins ∧ (startupEnd s).pending = s.pending := by
  unfold startupEnd; (try dsimp only); (repeat' split) <;> simp

@[simp] theorem startupProgress_frame (s : State) :
    (startupProgress s).tim = s.tim ∧ (startupProgress s).aln = s.aln ∧ (startupProgress s).cells = s.cells
    ∧ (startupProgress s).lim = s.lim ∧ (startupProgress s).seq = s.seq ∧ (startupProgress s).pins = s.pins
    ∧ (startupProgress s).pending = s.pending := by
  unfold startupProgress; (try dsimp only); (repeat' split) <;> simp

@[simp] theorem finish_frame (s : State) :
    (finish s).tim = s.tim ∧ (finish s).aln = s.aln ∧ (finish s).lim = s.lim ∧ (finish s).seq = s.seq ∧ (finish s).pins = s.pins
    ∧ (finish s).pending = s.pending := by
  unfold finish; (try dsimp only); (repeat' split) <;> simp

/-! ## Sweep -/

@[simp] theorem writeChannels_frame (tag : Byte) (tb : Time) (k c : Nat) (l : List Nat) (s : State) :
    (writeChannels tag tb k c l s).tim = s.tim ∧ (writeChannels tag tb k c l s).sch = s.sch
    ∧ (writeChannels tag tb k c l s).chn = s.chn ∧ (writeChannels tag tb k c l s).ana = s.ana
    ∧ (writeChannels tag tb k c l s).aln = s.aln ∧ (writeChannels tag tb k c l s).lim = s.lim
    ∧ (writeChannels tag tb k c l s).cnd = s.cnd ∧ (writeChannels tag tb k c l s).kdr = s.kdr
    ∧ (writeChannels tag tb k c l s).seq = s.seq ∧ (writeChannels tag tb k c l s).ctr = s.ctr
    ∧ (writeChannels tag tb k c l s).log = s.log ∧ (writeChannels tag tb k c l s).pwr = s.pwr
    ∧ (writeChannels tag tb k c l s).nvs = s.nvs ∧ (writeChannels tag tb k c l s).prof = s.prof
    ∧ (writeChannels tag tb k c l s).upd = s.upd ∧ (writeChannels tag tb k c l s).tmp = s.tmp
    ∧ (writeChannels tag tb k c l s).pli = s.pli ∧ (writeChannels tag tb k c l s).pins = s.pins
    ∧ (writeChannels tag tb k c l s).pending = s.pending := by
  induction l generalizing c s with
    | nil => simp [writeChannels]
    | cons x l ih => simp [writeChannels, ih]

@[simp] theorem submitCells_frame (l : List Nat) (s : State) :
    (submitCells l s).tim = s.tim ∧ (submitCells l s).chn = s.chn ∧ (submitCells l s).ana = s.ana
    ∧ (submitCells l s).lim = s.lim ∧ (submitCells l s).kdr = s.kdr ∧ (submitCells l s).seq = s.seq
    ∧ (submitCells l s).log = s.log ∧ (submitCells l s).pwr = s.pwr ∧ (submitCells l s).nvs = s.nvs
    ∧ (submitCells l s).prof = s.prof ∧ (submitCells l s).upd = s.upd ∧ (submitCells l s).tmp = s.tmp
    ∧ (submitCells l s).pli = s.pli ∧ (submitCells l s).pins = s.pins ∧ (submitCells l s).pending = s.pending := by
  induction l generalizing s with
    | nil => simp [submitCells]
    | cons i l ih => unfold submitCells; split <;> simp [ih]

@[simp] theorem freshnessTaken_frame (i : Nat) (s : State) :
    (freshnessTaken i s).tim = s.tim ∧ (freshnessTaken i s).sch = s.sch ∧ (freshnessTaken i s).chn = s.chn
    ∧ (freshnessTaken i s).ana = s.ana ∧ (freshnessTaken i s).aln = s.aln ∧ (freshnessTaken i s).lim = s.lim
    ∧ (freshnessTaken i s).kdr = s.kdr ∧ (freshnessTaken i s).seq = s.seq ∧ (freshnessTaken i s).ctr = s.ctr
    ∧ (freshnessTaken i s).log = s.log ∧ (freshnessTaken i s).pwr = s.pwr ∧ (freshnessTaken i s).nvs = s.nvs
    ∧ (freshnessTaken i s).prof = s.prof ∧ (freshnessTaken i s).upd = s.upd ∧ (freshnessTaken i s).tmp = s.tmp
    ∧ (freshnessTaken i s).pli = s.pli ∧ (freshnessTaken i s).pins = s.pins ∧ (freshnessTaken i s).pending = s.pending := by
  unfold freshnessTaken; (try dsimp only); (repeat' split) <;> simp

@[simp] theorem takeStale_frame (l : List Nat) (s : State) :
    (takeStale l s).tim = s.tim ∧ (takeStale l s).sch = s.sch ∧ (takeStale l s).chn = s.chn
    ∧ (takeStale l s).ana = s.ana ∧ (takeStale l s).aln = s.aln ∧ (takeStale l s).lim = s.lim
    ∧ (takeStale l s).kdr = s.kdr ∧ (takeStale l s).seq = s.seq ∧ (takeStale l s).ctr = s.ctr
    ∧ (takeStale l s).log = s.log ∧ (takeStale l s).pwr = s.pwr ∧ (takeStale l s).nvs = s.nvs
    ∧ (takeStale l s).prof = s.prof ∧ (takeStale l s).upd = s.upd ∧ (takeStale l s).tmp = s.tmp
    ∧ (takeStale l s).pli = s.pli ∧ (takeStale l s).pins = s.pins ∧ (takeStale l s).pending = s.pending := by
  induction l generalizing s with
  | nil => simp [takeStale]
  | cons i rest ih => simp [takeStale, ih]

@[simp] theorem takeCodes_frame (k : Nat) (codes : List Nat) (w : SweepRec) (s : State) :
    (takeCodes k codes w s).tim = s.tim ∧ (takeCodes k codes w s).chn = s.chn ∧ (takeCodes k codes w s).ana = s.ana
    ∧ (takeCodes k codes w s).lim = s.lim ∧ (takeCodes k codes w s).kdr = s.kdr ∧ (takeCodes k codes w s).seq = s.seq
    ∧ (takeCodes k codes w s).log = s.log ∧ (takeCodes k codes w s).pwr = s.pwr ∧ (takeCodes k codes w s).nvs = s.nvs
    ∧ (takeCodes k codes w s).prof = s.prof ∧ (takeCodes k codes w s).upd = s.upd ∧ (takeCodes k codes w s).tmp = s.tmp
    ∧ (takeCodes k codes w s).pli = s.pli ∧ (takeCodes k codes w s).pins = s.pins ∧ (takeCodes k codes w s).pending = s.pending := by
  unfold takeCodes; (try dsimp only); (repeat' split) <;> simp

@[simp] theorem readEntry_frame (k : Nat) (o : MonitorReply) (s : State) :
    (readEntry k o s).tim = s.tim ∧ (readEntry k o s).sch = s.sch ∧ (readEntry k o s).ana = s.ana
    ∧ (readEntry k o s).aln = s.aln ∧ (readEntry k o s).cells = s.cells ∧ (readEntry k o s).lim = s.lim
    ∧ (readEntry k o s).kdr = s.kdr ∧ (readEntry k o s).seq = s.seq ∧ (readEntry k o s).log = s.log
    ∧ (readEntry k o s).pwr = s.pwr ∧ (readEntry k o s).nvs = s.nvs ∧ (readEntry k o s).prof = s.prof
    ∧ (readEntry k o s).upd = s.upd ∧ (readEntry k o s).tmp = s.tmp ∧ (readEntry k o s).pli = s.pli
    ∧ (readEntry k o s).pins = s.pins ∧ (readEntry k o s).pending = s.pending := by
  unfold readEntry; (try dsimp only); (repeat' split) <;> simp

@[simp] theorem sleepJudge_frame (w : SweepRec) (s : State) :
    (sleepJudge w s).tim = s.tim ∧ (sleepJudge w s).sch = s.sch ∧ (sleepJudge w s).chn = s.chn ∧ (sleepJudge w s).ana = s.ana
    ∧ (sleepJudge w s).aln = s.aln ∧ (sleepJudge w s).cells = s.cells ∧ (sleepJudge w s).lim = s.lim
    ∧ (sleepJudge w s).kdr = s.kdr ∧ (sleepJudge w s).seq = s.seq ∧ (sleepJudge w s).log = s.log ∧ (sleepJudge w s).nvs = s.nvs
    ∧ (sleepJudge w s).prof = s.prof ∧ (sleepJudge w s).upd = s.upd ∧ (sleepJudge w s).tmp = s.tmp
    ∧ (sleepJudge w s).pli = s.pli ∧ (sleepJudge w s).pins = s.pins ∧ (sleepJudge w s).pending = s.pending := by
  unfold sleepJudge; (try dsimp only); (repeat' split) <;> simp

@[simp] theorem sweepDone_frame (s : State) :
    (sweepDone s).tim = s.tim ∧ (sweepDone s).ana = s.ana ∧ (sweepDone s).aln = s.aln ∧ (sweepDone s).cells = s.cells
    ∧ (sweepDone s).lim = s.lim ∧ (sweepDone s).cnd = s.cnd ∧ (sweepDone s).kdr = s.kdr ∧ (sweepDone s).seq = s.seq
    ∧ (sweepDone s).ctr = s.ctr ∧ (sweepDone s).log = s.log ∧ (sweepDone s).pwr = s.pwr ∧ (sweepDone s).nvs = s.nvs
    ∧ (sweepDone s).prof = s.prof ∧ (sweepDone s).upd = s.upd ∧ (sweepDone s).tmp = s.tmp ∧ (sweepDone s).pli = s.pli
    ∧ (sweepDone s).pins = s.pins ∧ (sweepDone s).pending = s.pending := by
  unfold sweepDone; (try dsimp only); (repeat' split) <;> simp

@[simp] theorem tellRunner_frame (s : State) :
    (tellRunner s).tim = s.tim ∧ (tellRunner s).chn = s.chn ∧ (tellRunner s).ana = s.ana ∧ (tellRunner s).aln = s.aln
    ∧ (tellRunner s).cells = s.cells ∧ (tellRunner s).lim = s.lim ∧ (tellRunner s).pwr = s.pwr ∧ (tellRunner s).nvs = s.nvs
    ∧ (tellRunner s).prof = s.prof ∧ (tellRunner s).upd = s.upd ∧ (tellRunner s).tmp = s.tmp ∧ (tellRunner s).pli = s.pli
    ∧ (tellRunner s).pins = s.pins ∧ (tellRunner s).pending = s.pending := by
  unfold tellRunner; (try dsimp only); (repeat' split) <;> simp

@[simp] theorem tellPower_frame (w : SweepRec) (s : State) :
    (tellPower w s).tim = s.tim ∧ (tellPower w s).sch = s.sch ∧ (tellPower w s).aln = s.aln ∧ (tellPower w s).cells = s.cells
    ∧ (tellPower w s).lim = s.lim ∧ (tellPower w s).seq = s.seq ∧ (tellPower w s).ctr = s.ctr ∧ (tellPower w s).log = s.log
    ∧ (tellPower w s).nvs = s.nvs ∧ (tellPower w s).prof = s.prof ∧ (tellPower w s).upd = s.upd ∧ (tellPower w s).tmp = s.tmp
    ∧ (tellPower w s).pins = s.pins ∧ (tellPower w s).pending = s.pending := by
  unfold tellPower; (try dsimp only); (repeat' split) <;> simp

@[simp] theorem completeSweep_frame (w : SweepRec) (s : State) :
    (completeSweep w s).tim = s.tim ∧ (completeSweep w s).aln = s.aln ∧ (completeSweep w s).nvs = s.nvs
    ∧ (completeSweep w s).prof = s.prof ∧ (completeSweep w s).upd = s.upd ∧ (completeSweep w s).tmp = s.tmp
    ∧ (completeSweep w s).pins = s.pins ∧ (completeSweep w s).pending = s.pending := by
  unfold completeSweep; (try dsimp only); (repeat' split) <;> simp

@[simp] theorem completeIfAligned_frame (s : State) :
    (completeIfAligned s).tim = s.tim ∧ (completeIfAligned s).aln = s.aln ∧ (completeIfAligned s).nvs = s.nvs
    ∧ (completeIfAligned s).prof = s.prof ∧ (completeIfAligned s).upd = s.upd ∧ (completeIfAligned s).tmp = s.tmp
    ∧ (completeIfAligned s).pins = s.pins ∧ (completeIfAligned s).pending = s.pending := by
  unfold completeIfAligned; (try dsimp only); (repeat' split) <;> simp

@[simp] theorem broadcastSent_frame (s : State) :
    (broadcastSent s).tim = s.tim ∧ (broadcastSent s).ana = s.ana ∧ (broadcastSent s).lim = s.lim
    ∧ (broadcastSent s).kdr = s.kdr ∧ (broadcastSent s).seq = s.seq ∧ (broadcastSent s).log = s.log
    ∧ (broadcastSent s).pwr = s.pwr ∧ (broadcastSent s).nvs = s.nvs ∧ (broadcastSent s).prof = s.prof
    ∧ (broadcastSent s).upd = s.upd ∧ (broadcastSent s).tmp = s.tmp ∧ (broadcastSent s).pli = s.pli
    ∧ (broadcastSent s).pins = s.pins ∧ (broadcastSent s).pending = s.pending := by
  unfold broadcastSent; (try dsimp only); (repeat' split) <;> simp

@[simp] theorem sendRead_frame (k : Nat) (s : State) :
    (sendRead k s).tim = s.tim ∧ (sendRead k s).sch = s.sch ∧ (sendRead k s).ana = s.ana ∧ (sendRead k s).aln = s.aln
    ∧ (sendRead k s).cells = s.cells ∧ (sendRead k s).lim = s.lim ∧ (sendRead k s).cnd = s.cnd ∧ (sendRead k s).kdr = s.kdr
    ∧ (sendRead k s).seq = s.seq ∧ (sendRead k s).ctr = s.ctr ∧ (sendRead k s).log = s.log ∧ (sendRead k s).pwr = s.pwr
    ∧ (sendRead k s).nvs = s.nvs ∧ (sendRead k s).prof = s.prof ∧ (sendRead k s).upd = s.upd ∧ (sendRead k s).tmp = s.tmp
    ∧ (sendRead k s).pli = s.pli ∧ (sendRead k s).pins = s.pins ∧ (sendRead k s).pending = s.pending := by
  unfold sendRead; (try dsimp only); (repeat' split) <;> simp

@[simp] theorem readingEnds_frame (s : State) :
    (readingEnds s).tim = s.tim ∧ (readingEnds s).aln = s.aln ∧ (readingEnds s).nvs = s.nvs ∧ (readingEnds s).prof = s.prof
    ∧ (readingEnds s).upd = s.upd ∧ (readingEnds s).tmp = s.tmp ∧ (readingEnds s).pins = s.pins
    ∧ (readingEnds s).pending = s.pending := by
  unfold readingEnds; (try dsimp only); (repeat' split) <;> simp

@[simp] theorem readFrom_frame (k : Nat) (s : State) :
    (readFrom k s).tim = s.tim ∧ (readFrom k s).aln = s.aln ∧ (readFrom k s).nvs = s.nvs ∧ (readFrom k s).prof = s.prof
    ∧ (readFrom k s).upd = s.upd ∧ (readFrom k s).tmp = s.tmp ∧ (readFrom k s).pins = s.pins
    ∧ (readFrom k s).pending = s.pending := by
  unfold readFrom; (try dsimp only); (repeat' split) <;> simp

@[simp] theorem windowEnds_frame (s : State) :
    (windowEnds s).aln = s.aln ∧ (windowEnds s).nvs = s.nvs ∧ (windowEnds s).prof = s.prof ∧ (windowEnds s).upd = s.upd
    ∧ (windowEnds s).tmp = s.tmp ∧ (windowEnds s).pins = s.pins ∧ (windowEnds s).pending = s.pending := by
  unfold windowEnds; (try dsimp only); (repeat' split) <;> simp

@[simp] theorem readDone_frame (k : Nat) (o : MonitorReply) (s : State) :
    (readDone k o s).tim = s.tim ∧ (readDone k o s).nvs = s.nvs ∧ (readDone k o s).prof = s.prof ∧ (readDone k o s).upd = s.upd
    ∧ (readDone k o s).tmp = s.tmp ∧ (readDone k o s).pins = s.pins ∧ (readDone k o s).pending = s.pending := by
  unfold readDone; (try dsimp only); (repeat' split) <;> simp

@[simp] theorem enumerationEnds_frame (from_ : Nat) (s : State) :
    (enumerationEnds from_ s).tim = s.tim ∧ (enumerationEnds from_ s).aln = s.aln ∧ (enumerationEnds from_ s).cells = s.cells
    ∧ (enumerationEnds from_ s).lim = s.lim ∧ (enumerationEnds from_ s).seq = s.seq ∧ (enumerationEnds from_ s).ctr = s.ctr
    ∧ (enumerationEnds from_ s).log = s.log ∧ (enumerationEnds from_ s).nvs = s.nvs ∧ (enumerationEnds from_ s).prof = s.prof
    ∧ (enumerationEnds from_ s).upd = s.upd ∧ (enumerationEnds from_ s).tmp = s.tmp ∧ (enumerationEnds from_ s).pins = s.pins
    ∧ (enumerationEnds from_ s).pending = s.pending := by
  unfold enumerationEnds; (try dsimp only); (repeat' split) <;> simp

@[simp] theorem identDone_frame (k : Nat) (o : MonitorReply) (s : State) :
    (identDone k o s).tim = s.tim ∧ (identDone k o s).aln = s.aln ∧ (identDone k o s).cells = s.cells
    ∧ (identDone k o s).lim = s.lim ∧ (identDone k o s).seq = s.seq ∧ (identDone k o s).ctr = s.ctr
    ∧ (identDone k o s).log = s.log ∧ (identDone k o s).nvs = s.nvs ∧ (identDone k o s).prof = s.prof
    ∧ (identDone k o s).upd = s.upd ∧ (identDone k o s).tmp = s.tmp ∧ (identDone k o s).pins = s.pins
    ∧ (identDone k o s).pending = s.pending := by
  unfold identDone; (try dsimp only); (repeat' split) <;> simp

@[simp] theorem chainReply_frame (bs : List Byte) (s : State) :
    (chainReply bs s).tim = s.tim ∧ (chainReply bs s).nvs = s.nvs ∧ (chainReply bs s).prof = s.prof
    ∧ (chainReply bs s).upd = s.upd ∧ (chainReply bs s).tmp = s.tmp ∧ (chainReply bs s).pins = s.pins
    ∧ (chainReply bs s).pending = s.pending := by
  unfold chainReply; (try dsimp only); (repeat' split) <;> simp

@[simp] theorem replyWindowEnds_frame (s : State) :
    (replyWindowEnds s).nvs = s.nvs ∧ (replyWindowEnds s).prof = s.prof ∧ (replyWindowEnds s).upd = s.upd
    ∧ (replyWindowEnds s).tmp = s.tmp ∧ (replyWindowEnds s).pins = s.pins ∧ (replyWindowEnds s).pending = s.pending := by
  unfold replyWindowEnds; (try dsimp only); (repeat' split) <;> simp

@[simp] theorem chainUp_frame (s : State) :
    (chainUp s).aln = s.aln ∧ (chainUp s).cells = s.cells ∧ (chainUp s).lim = s.lim ∧ (chainUp s).seq = s.seq
    ∧ (chainUp s).ctr = s.ctr ∧ (chainUp s).log = s.log ∧ (chainUp s).nvs = s.nvs ∧ (chainUp s).prof = s.prof
    ∧ (chainUp s).upd = s.upd ∧ (chainUp s).tmp = s.tmp ∧ (chainUp s).pins = s.pins ∧ (chainUp s).pending = s.pending := by
  unfold chainUp; (try dsimp only); (repeat' split) <;> simp

/-! ## Requests -/

@[simp] theorem ownScheduleStart_frame (s : State) :
    (ownScheduleStart s).1.tim = s.tim ∧ (ownScheduleStart s).1.chn = s.chn ∧ (ownScheduleStart s).1.ana = s.ana
    ∧ (ownScheduleStart s).1.aln = s.aln ∧ (ownScheduleStart s).1.cells = s.cells ∧ (ownScheduleStart s).1.lim = s.lim
    ∧ (ownScheduleStart s).1.cnd = s.cnd ∧ (ownScheduleStart s).1.kdr = s.kdr ∧ (ownScheduleStart s).1.seq = s.seq
    ∧ (ownScheduleStart s).1.ctr = s.ctr ∧ (ownScheduleStart s).1.log = s.log ∧ (ownScheduleStart s).1.pwr = s.pwr
    ∧ (ownScheduleStart s).1.nvs = s.nvs ∧ (ownScheduleStart s).1.prof = s.prof ∧ (ownScheduleStart s).1.upd = s.upd
    ∧ (ownScheduleStart s).1.tmp = s.tmp ∧ (ownScheduleStart s).1.pli = s.pli ∧ (ownScheduleStart s).1.pins = s.pins
    ∧ (ownScheduleStart s).1.pending = s.pending := by
  unfold ownScheduleStart; (try dsimp only); (repeat' split) <;> simp [refuse, okWith, withReceived]

@[simp] theorem ownScheduleStop_frame (s : State) :
    (ownScheduleStop s).1.tim = s.tim ∧ (ownScheduleStop s).1.chn = s.chn ∧ (ownScheduleStop s).1.ana = s.ana
    ∧ (ownScheduleStop s).1.aln = s.aln ∧ (ownScheduleStop s).1.cells = s.cells ∧ (ownScheduleStop s).1.lim = s.lim
    ∧ (ownScheduleStop s).1.cnd = s.cnd ∧ (ownScheduleStop s).1.kdr = s.kdr ∧ (ownScheduleStop s).1.seq = s.seq
    ∧ (ownScheduleStop s).1.ctr = s.ctr ∧ (ownScheduleStop s).1.log = s.log ∧ (ownScheduleStop s).1.pwr = s.pwr
    ∧ (ownScheduleStop s).1.nvs = s.nvs ∧ (ownScheduleStop s).1.prof = s.prof ∧ (ownScheduleStop s).1.upd = s.upd
    ∧ (ownScheduleStop s).1.tmp = s.tmp ∧ (ownScheduleStop s).1.pli = s.pli ∧ (ownScheduleStop s).1.pins = s.pins
    ∧ (ownScheduleStop s).1.pending = s.pending := by
  unfold ownScheduleStop; (try dsimp only); (repeat' split) <;> simp [refuse, okWith, withReceived]

@[simp] theorem ownSampleNow_frame (mask : BitVec 16) (s : State) :
    (ownSampleNow mask s).1.tim = s.tim ∧ (ownSampleNow mask s).1.ana = s.ana ∧ (ownSampleNow mask s).1.aln = s.aln
    ∧ (ownSampleNow mask s).1.cells = s.cells ∧ (ownSampleNow mask s).1.lim = s.lim ∧ (ownSampleNow mask s).1.cnd = s.cnd
    ∧ (ownSampleNow mask s).1.kdr = s.kdr ∧ (ownSampleNow mask s).1.seq = s.seq ∧ (ownSampleNow mask s).1.ctr = s.ctr
    ∧ (ownSampleNow mask s).1.log = s.log ∧ (ownSampleNow mask s).1.pwr = s.pwr ∧ (ownSampleNow mask s).1.nvs = s.nvs
    ∧ (ownSampleNow mask s).1.prof = s.prof ∧ (ownSampleNow mask s).1.upd = s.upd ∧ (ownSampleNow mask s).1.tmp = s.tmp
    ∧ (ownSampleNow mask s).1.pli = s.pli ∧ (ownSampleNow mask s).1.pins = s.pins ∧ (ownSampleNow mask s).1.pending = s.pending := by
  unfold ownSampleNow; (try dsimp only); (repeat' split) <;> simp [refuse, okWith, withReceived]

@[simp] theorem ownChainEnumerate_frame (s : State) :
    (ownChainEnumerate s).1.tim = s.tim ∧ (ownChainEnumerate s).1.sch = s.sch ∧ (ownChainEnumerate s).1.ana = s.ana
    ∧ (ownChainEnumerate s).1.aln = s.aln ∧ (ownChainEnumerate s).1.cells = s.cells ∧ (ownChainEnumerate s).1.lim = s.lim
    ∧ (ownChainEnumerate s).1.cnd = s.cnd ∧ (ownChainEnumerate s).1.kdr = s.kdr ∧ (ownChainEnumerate s).1.seq = s.seq
    ∧ (ownChainEnumerate s).1.ctr = s.ctr ∧ (ownChainEnumerate s).1.log = s.log ∧ (ownChainEnumerate s).1.pwr = s.pwr
    ∧ (ownChainEnumerate s).1.nvs = s.nvs ∧ (ownChainEnumerate s).1.prof = s.prof ∧ (ownChainEnumerate s).1.upd = s.upd
    ∧ (ownChainEnumerate s).1.tmp = s.tmp ∧ (ownChainEnumerate s).1.pli = s.pli ∧ (ownChainEnumerate s).1.pins = s.pins
    ∧ (ownChainEnumerate s).1.pending = s.pending := by
  unfold ownChainEnumerate; (try dsimp only); (repeat' split) <;> simp [refuse, okWith, withReceived]

@[simp] theorem ownResetReferences_frame (scope : Byte) (s : State) :
    (ownResetReferences scope s).1.tim = s.tim ∧ (ownResetReferences scope s).1.sch = s.sch
    ∧ (ownResetReferences scope s).1.chn = s.chn ∧ (ownResetReferences scope s).1.ana = s.ana
    ∧ (ownResetReferences scope s).1.aln = s.aln ∧ (ownResetReferences scope s).1.lim = s.lim
    ∧ (ownResetReferences scope s).1.cnd = s.cnd ∧ (ownResetReferences scope s).1.kdr = s.kdr
    ∧ (ownResetReferences scope s).1.seq = s.seq ∧ (ownResetReferences scope s).1.ctr = s.ctr
    ∧ (ownResetReferences scope s).1.log = s.log ∧ (ownResetReferences scope s).1.pwr = s.pwr
    ∧ (ownResetReferences scope s).1.nvs = s.nvs ∧ (ownResetReferences scope s).1.prof = s.prof
    ∧ (ownResetReferences scope s).1.upd = s.upd ∧ (ownResetReferences scope s).1.tmp = s.tmp
    ∧ (ownResetReferences scope s).1.pli = s.pli ∧ (ownResetReferences scope s).1.pins = s.pins
    ∧ (ownResetReferences scope s).1.pending = s.pending := by
  unfold ownResetReferences; (try dsimp only); (repeat' split) <;> simp [refuse, okWith, withReceived]

@[simp] theorem ownClearConditions_frame (set : BitVec 32) (s : State) :
    (ownClearConditions set s).1.tim = s.tim ∧ (ownClearConditions set s).1.sch = s.sch
    ∧ (ownClearConditions set s).1.chn = s.chn ∧ (ownClearConditions set s).1.ana = s.ana
    ∧ (ownClearConditions set s).1.aln = s.aln ∧ (ownClearConditions set s).1.cells = s.cells
    ∧ (ownClearConditions set s).1.lim = s.lim ∧ (ownClearConditions set s).1.kdr = s.kdr
    ∧ (ownClearConditions set s).1.seq = s.seq ∧ (ownClearConditions set s).1.ctr = s.ctr
    ∧ (ownClearConditions set s).1.log = s.log ∧ (ownClearConditions set s).1.pwr = s.pwr
    ∧ (ownClearConditions set s).1.nvs = s.nvs ∧ (ownClearConditions set s).1.prof = s.prof
    ∧ (ownClearConditions set s).1.upd = s.upd ∧ (ownClearConditions set s).1.tmp = s.tmp
    ∧ (ownClearConditions set s).1.pli = s.pli ∧ (ownClearConditions set s).1.pins = s.pins
    ∧ (ownClearConditions set s).1.pending = s.pending := by
  unfold ownClearConditions; (try dsimp only); (repeat' split) <;> simp [refuse, okWith, withReceived]

@[simp] theorem ownSetAlertEnable_frame (set : BitVec 32) (s : State) :
    (ownSetAlertEnable set s).1.tim = s.tim ∧ (ownSetAlertEnable set s).1.sch = s.sch ∧ (ownSetAlertEnable set s).1.chn = s.chn
    ∧ (ownSetAlertEnable set s).1.ana = s.ana ∧ (ownSetAlertEnable set s).1.aln = s.aln
    ∧ (ownSetAlertEnable set s).1.cells = s.cells ∧ (ownSetAlertEnable set s).1.lim = s.lim
    ∧ (ownSetAlertEnable set s).1.kdr = s.kdr ∧ (ownSetAlertEnable set s).1.seq = s.seq
    ∧ (ownSetAlertEnable set s).1.ctr = s.ctr ∧ (ownSetAlertEnable set s).1.log = s.log
    ∧ (ownSetAlertEnable set s).1.pwr = s.pwr ∧ (ownSetAlertEnable set s).1.nvs = s.nvs
    ∧ (ownSetAlertEnable set s).1.prof = s.prof ∧ (ownSetAlertEnable set s).1.upd = s.upd
    ∧ (ownSetAlertEnable set s).1.tmp = s.tmp ∧ (ownSetAlertEnable set s).1.pli = s.pli
    ∧ (ownSetAlertEnable set s).1.pins = s.pins ∧ (ownSetAlertEnable set s).1.pending = s.pending := by
  unfold ownSetAlertEnable; (try dsimp only); (repeat' split) <;> simp [refuse, okWith, withReceived]

@[simp] theorem ownSaveWear_frame (s : State) :
    (ownSaveWear s).1.tim = s.tim ∧ (ownSaveWear s).1.sch = s.sch ∧ (ownSaveWear s).1.chn = s.chn
    ∧ (ownSaveWear s).1.ana = s.ana ∧ (ownSaveWear s).1.aln = s.aln ∧ (ownSaveWear s).1.cells = s.cells
    ∧ (ownSaveWear s).1.lim = s.lim ∧ (ownSaveWear s).1.cnd = s.cnd ∧ (ownSaveWear s).1.seq = s.seq
    ∧ (ownSaveWear s).1.ctr = s.ctr ∧ (ownSaveWear s).1.log = s.log ∧ (ownSaveWear s).1.pwr = s.pwr
    ∧ (ownSaveWear s).1.prof = s.prof ∧ (ownSaveWear s).1.upd = s.upd ∧ (ownSaveWear s).1.tmp = s.tmp
    ∧ (ownSaveWear s).1.pli = s.pli ∧ (ownSaveWear s).1.pins = s.pins ∧ (ownSaveWear s).1.pending = s.pending := by
  unfold ownSaveWear
  split
  · rename_i h; simp [requestWear_frame _ _ h]
  · simp [refuse]

@[simp] theorem ownClearContactorFault_frame (channel : Byte) (s : State) :
    (ownClearContactorFault channel s).1.tim = s.tim ∧ (ownClearContactorFault channel s).1.sch = s.sch
    ∧ (ownClearContactorFault channel s).1.chn = s.chn ∧ (ownClearContactorFault channel s).1.ana = s.ana
    ∧ (ownClearContactorFault channel s).1.aln = s.aln ∧ (ownClearContactorFault channel s).1.cells = s.cells
    ∧ (ownClearContactorFault channel s).1.lim = s.lim ∧ (ownClearContactorFault channel s).1.seq = s.seq
    ∧ (ownClearContactorFault channel s).1.ctr = s.ctr ∧ (ownClearContactorFault channel s).1.pwr = s.pwr
    ∧ (ownClearContactorFault channel s).1.nvs = s.nvs ∧ (ownClearContactorFault channel s).1.prof = s.prof
    ∧ (ownClearContactorFault channel s).1.upd = s.upd ∧ (ownClearContactorFault channel s).1.tmp = s.tmp
    ∧ (ownClearContactorFault channel s).1.pli = s.pli ∧ (ownClearContactorFault channel s).1.pins = s.pins
    ∧ (ownClearContactorFault channel s).1.pending = s.pending := by
  unfold ownClearContactorFault; (try dsimp only); (repeat' split) <;> simp [refuse, okWith, withReceived]

@[simp] theorem ownRunSequence_frame (id : Byte) (s : State) :
    (ownRunSequence id s).1.tim = s.tim ∧ (ownRunSequence id s).1.ana = s.ana ∧ (ownRunSequence id s).1.aln = s.aln
    ∧ (ownRunSequence id s).1.cells = s.cells ∧ (ownRunSequence id s).1.lim = s.lim ∧ (ownRunSequence id s).1.pwr = s.pwr
    ∧ (ownRunSequence id s).1.nvs = s.nvs ∧ (ownRunSequence id s).1.prof = s.prof ∧ (ownRunSequence id s).1.upd = s.upd
    ∧ (ownRunSequence id s).1.tmp = s.tmp ∧ (ownRunSequence id s).1.pli = s.pli ∧ (ownRunSequence id s).1.pins = s.pins
    ∧ (ownRunSequence id s).1.pending = s.pending := by
  unfold ownRunSequence; (try dsimp only); (repeat' split) <;> simp [refuse, okWith, withReceived]

@[simp] theorem ownOpenAll_frame (s : State) :
    (ownOpenAll s).1.tim = s.tim ∧ (ownOpenAll s).1.chn = s.chn ∧ (ownOpenAll s).1.ana = s.ana ∧ (ownOpenAll s).1.aln = s.aln
    ∧ (ownOpenAll s).1.cells = s.cells ∧ (ownOpenAll s).1.lim = s.lim ∧ (ownOpenAll s).1.pwr = s.pwr
    ∧ (ownOpenAll s).1.nvs = s.nvs ∧ (ownOpenAll s).1.prof = s.prof ∧ (ownOpenAll s).1.upd = s.upd
    ∧ (ownOpenAll s).1.tmp = s.tmp ∧ (ownOpenAll s).1.pli = s.pli ∧ (ownOpenAll s).1.pins = s.pins
    ∧ (ownOpenAll s).1.pending = s.pending := by
  unfold ownOpenAll; (try dsimp only); (repeat' split) <;> simp [refuse, okWith, withReceived]

@[simp] theorem ownSetCounter_frame (number kind flags : Byte) (value reload : BitVec 24) (s : State) :
    (ownSetCounter number kind flags value reload s).1.tim = s.tim
    ∧ (ownSetCounter number kind flags value reload s).1.sch = s.sch
    ∧ (ownSetCounter number kind flags value reload s).1.chn = s.chn
    ∧ (ownSetCounter number kind flags value reload s).1.ana = s.ana
    ∧ (ownSetCounter number kind flags value reload s).1.aln = s.aln
    ∧ (ownSetCounter number kind flags value reload s).1.cells = s.cells
    ∧ (ownSetCounter number kind flags value reload s).1.lim = s.lim
    ∧ (ownSetCounter number kind flags value reload s).1.cnd = s.cnd
    ∧ (ownSetCounter number kind flags value reload s).1.kdr = s.kdr
    ∧ (ownSetCounter number kind flags value reload s).1.seq = s.seq
    ∧ (ownSetCounter number kind flags value reload s).1.log = s.log
    ∧ (ownSetCounter number kind flags value reload s).1.pwr = s.pwr
    ∧ (ownSetCounter number kind flags value reload s).1.nvs = s.nvs
    ∧ (ownSetCounter number kind flags value reload s).1.prof = s.prof
    ∧ (ownSetCounter number kind flags value reload s).1.upd = s.upd
    ∧ (ownSetCounter number kind flags value reload s).1.tmp = s.tmp
    ∧ (ownSetCounter number kind flags value reload s).1.pli = s.pli
    ∧ (ownSetCounter number kind flags value reload s).1.pins = s.pins
    ∧ (ownSetCounter number kind flags value reload s).1.pending = s.pending := by
  unfold ownSetCounter; (try dsimp only); (repeat' split) <;> simp [refuse, okWith, withReceived]

@[simp] theorem ownClearOverflow_frame (numbers : List Byte) (s : State) :
    (ownClearOverflow numbers s).1.tim = s.tim ∧ (ownClearOverflow numbers s).1.sch = s.sch
    ∧ (ownClearOverflow numbers s).1.chn = s.chn ∧ (ownClearOverflow numbers s).1.ana = s.ana
    ∧ (ownClearOverflow numbers s).1.aln = s.aln ∧ (ownClearOverflow numbers s).1.cells = s.cells
    ∧ (ownClearOverflow numbers s).1.lim = s.lim ∧ (ownClearOverflow numbers s).1.kdr = s.kdr
    ∧ (ownClearOverflow numbers s).1.seq = s.seq ∧ (ownClearOverflow numbers s).1.log = s.log
    ∧ (ownClearOverflow numbers s).1.pwr = s.pwr ∧ (ownClearOverflow numbers s).1.nvs = s.nvs
    ∧ (ownClearOverflow numbers s).1.prof = s.prof ∧ (ownClearOverflow numbers s).1.upd = s.upd
    ∧ (ownClearOverflow numbers s).1.tmp = s.tmp ∧ (ownClearOverflow numbers s).1.pli = s.pli
    ∧ (ownClearOverflow numbers s).1.pins = s.pins ∧ (ownClearOverflow numbers s).1.pending = s.pending := by
  unfold ownClearOverflow; (try dsimp only); (repeat' split) <;> simp [refuse, okWith, withReceived]

@[simp] theorem ownLogRelease_frame (n : Byte) (s : State) :
    (ownLogRelease n s).1.tim = s.tim ∧ (ownLogRelease n s).1.sch = s.sch ∧ (ownLogRelease n s).1.chn = s.chn
    ∧ (ownLogRelease n s).1.ana = s.ana ∧ (ownLogRelease n s).1.aln = s.aln ∧ (ownLogRelease n s).1.cells = s.cells
    ∧ (ownLogRelease n s).1.lim = s.lim ∧ (ownLogRelease n s).1.kdr = s.kdr ∧ (ownLogRelease n s).1.seq = s.seq
    ∧ (ownLogRelease n s).1.ctr = s.ctr ∧ (ownLogRelease n s).1.pwr = s.pwr ∧ (ownLogRelease n s).1.nvs = s.nvs
    ∧ (ownLogRelease n s).1.prof = s.prof ∧ (ownLogRelease n s).1.upd = s.upd ∧ (ownLogRelease n s).1.tmp = s.tmp
    ∧ (ownLogRelease n s).1.pli = s.pli ∧ (ownLogRelease n s).1.pins = s.pins ∧ (ownLogRelease n s).1.pending = s.pending := by
  unfold ownLogRelease; (try dsimp only); (repeat' split) <;> simp [refuse, okWith, withReceived]

@[simp] theorem ownSleep_frame (s : State) :
    (ownSleep s).1.tim = s.tim ∧ (ownSleep s).1.chn = s.chn ∧ (ownSleep s).1.ana = s.ana ∧ (ownSleep s).1.aln = s.aln
    ∧ (ownSleep s).1.cells = s.cells ∧ (ownSleep s).1.lim = s.lim ∧ (ownSleep s).1.cnd = s.cnd ∧ (ownSleep s).1.kdr = s.kdr
    ∧ (ownSleep s).1.seq = s.seq ∧ (ownSleep s).1.ctr = s.ctr ∧ (ownSleep s).1.log = s.log ∧ (ownSleep s).1.nvs = s.nvs
    ∧ (ownSleep s).1.prof = s.prof ∧ (ownSleep s).1.upd = s.upd ∧ (ownSleep s).1.tmp = s.tmp ∧ (ownSleep s).1.pli = s.pli
    ∧ (ownSleep s).1.pins = s.pins ∧ (ownSleep s).1.pending = s.pending := by
  unfold ownSleep; (try dsimp only); (repeat' split) <;> simp [refuse, okWith, withReceived]

@[simp] theorem ownUpdateBegin_frame (version : BitVec 32) (length : BitVec 16) (imageTag : BitVec 128) (s : State) :
    (ownUpdateBegin version length imageTag s).1.tim = s.tim ∧ (ownUpdateBegin version length imageTag s).1.sch = s.sch
    ∧ (ownUpdateBegin version length imageTag s).1.chn = s.chn ∧ (ownUpdateBegin version length imageTag s).1.ana = s.ana
    ∧ (ownUpdateBegin version length imageTag s).1.aln = s.aln ∧ (ownUpdateBegin version length imageTag s).1.cells = s.cells
    ∧ (ownUpdateBegin version length imageTag s).1.lim = s.lim ∧ (ownUpdateBegin version length imageTag s).1.cnd = s.cnd
    ∧ (ownUpdateBegin version length imageTag s).1.kdr = s.kdr ∧ (ownUpdateBegin version length imageTag s).1.seq = s.seq
    ∧ (ownUpdateBegin version length imageTag s).1.ctr = s.ctr ∧ (ownUpdateBegin version length imageTag s).1.log = s.log
    ∧ (ownUpdateBegin version length imageTag s).1.pwr = s.pwr ∧ (ownUpdateBegin version length imageTag s).1.nvs = s.nvs
    ∧ (ownUpdateBegin version length imageTag s).1.prof = s.prof ∧ (ownUpdateBegin version length imageTag s).1.tmp = s.tmp
    ∧ (ownUpdateBegin version length imageTag s).1.pli = s.pli ∧ (ownUpdateBegin version length imageTag s).1.pins = s.pins
    ∧ (ownUpdateBegin version length imageTag s).1.pending = s.pending := by
  unfold ownUpdateBegin; (try dsimp only); (repeat' split) <;> simp [refuse, okWith, withReceived]

@[simp] theorem ownUpdateChunk_frame (offset : BitVec 16) (data : List Byte) (s : State) :
    (ownUpdateChunk offset data s).1.tim = s.tim ∧ (ownUpdateChunk offset data s).1.sch = s.sch
    ∧ (ownUpdateChunk offset data s).1.chn = s.chn ∧ (ownUpdateChunk offset data s).1.ana = s.ana
    ∧ (ownUpdateChunk offset data s).1.aln = s.aln ∧ (ownUpdateChunk offset data s).1.cells = s.cells
    ∧ (ownUpdateChunk offset data s).1.lim = s.lim ∧ (ownUpdateChunk offset data s).1.cnd = s.cnd
    ∧ (ownUpdateChunk offset data s).1.kdr = s.kdr ∧ (ownUpdateChunk offset data s).1.seq = s.seq
    ∧ (ownUpdateChunk offset data s).1.ctr = s.ctr ∧ (ownUpdateChunk offset data s).1.log = s.log
    ∧ (ownUpdateChunk offset data s).1.pwr = s.pwr ∧ (ownUpdateChunk offset data s).1.nvs = s.nvs
    ∧ (ownUpdateChunk offset data s).1.prof = s.prof ∧ (ownUpdateChunk offset data s).1.tmp = s.tmp
    ∧ (ownUpdateChunk offset data s).1.pli = s.pli ∧ (ownUpdateChunk offset data s).1.pins = s.pins
    ∧ (ownUpdateChunk offset data s).1.pending = s.pending := by
  unfold ownUpdateChunk; (try dsimp only); (repeat' split) <;> simp [refuse, okWith, withReceived]

@[simp] theorem ownUpdateCommit_frame (s : State) :
    (ownUpdateCommit s).1.tim = s.tim ∧ (ownUpdateCommit s).1.sch = s.sch ∧ (ownUpdateCommit s).1.chn = s.chn
    ∧ (ownUpdateCommit s).1.ana = s.ana ∧ (ownUpdateCommit s).1.aln = s.aln ∧ (ownUpdateCommit s).1.cells = s.cells
    ∧ (ownUpdateCommit s).1.lim = s.lim ∧ (ownUpdateCommit s).1.cnd = s.cnd ∧ (ownUpdateCommit s).1.kdr = s.kdr
    ∧ (ownUpdateCommit s).1.seq = s.seq ∧ (ownUpdateCommit s).1.ctr = s.ctr ∧ (ownUpdateCommit s).1.log = s.log
    ∧ (ownUpdateCommit s).1.pwr = s.pwr ∧ (ownUpdateCommit s).1.nvs = s.nvs ∧ (ownUpdateCommit s).1.prof = s.prof
    ∧ (ownUpdateCommit s).1.tmp = s.tmp ∧ (ownUpdateCommit s).1.pli = s.pli ∧ (ownUpdateCommit s).1.pins = s.pins
    ∧ (ownUpdateCommit s).1.pending = s.pending := by
  unfold ownUpdateCommit; (try dsimp only); (repeat' split) <;> simp [refuse, okWith, withReceived]

@[simp] theorem ownUpdateAbort_frame (s : State) :
    (ownUpdateAbort s).1.tim = s.tim ∧ (ownUpdateAbort s).1.sch = s.sch ∧ (ownUpdateAbort s).1.chn = s.chn
    ∧ (ownUpdateAbort s).1.ana = s.ana ∧ (ownUpdateAbort s).1.aln = s.aln ∧ (ownUpdateAbort s).1.cells = s.cells
    ∧ (ownUpdateAbort s).1.lim = s.lim ∧ (ownUpdateAbort s).1.cnd = s.cnd ∧ (ownUpdateAbort s).1.kdr = s.kdr
    ∧ (ownUpdateAbort s).1.seq = s.seq ∧ (ownUpdateAbort s).1.ctr = s.ctr ∧ (ownUpdateAbort s).1.log = s.log
    ∧ (ownUpdateAbort s).1.pwr = s.pwr ∧ (ownUpdateAbort s).1.nvs = s.nvs ∧ (ownUpdateAbort s).1.prof = s.prof
    ∧ (ownUpdateAbort s).1.tmp = s.tmp ∧ (ownUpdateAbort s).1.pli = s.pli ∧ (ownUpdateAbort s).1.pins = s.pins
    ∧ (ownUpdateAbort s).1.pending = s.pending := by
  unfold ownUpdateAbort; (try dsimp only); (repeat' split) <;> simp [refuse, okWith, withReceived]

@[simp] theorem ownActivate_frame (s : State) :
    (ownActivate s).1.tim = s.tim ∧ (ownActivate s).1.sch = s.sch ∧ (ownActivate s).1.chn = s.chn
    ∧ (ownActivate s).1.ana = s.ana ∧ (ownActivate s).1.aln = s.aln ∧ (ownActivate s).1.cells = s.cells
    ∧ (ownActivate s).1.lim = s.lim ∧ (ownActivate s).1.cnd = s.cnd ∧ (ownActivate s).1.kdr = s.kdr
    ∧ (ownActivate s).1.seq = s.seq ∧ (ownActivate s).1.ctr = s.ctr ∧ (ownActivate s).1.log = s.log
    ∧ (ownActivate s).1.pwr = s.pwr ∧ (ownActivate s).1.prof = s.prof ∧ (ownActivate s).1.tmp = s.tmp
    ∧ (ownActivate s).1.pli = s.pli ∧ (ownActivate s).1.pins = s.pins ∧ (ownActivate s).1.pending = s.pending := by
  unfold ownActivate
  (repeat' split) <;> first | (simp [refuse]; done) | (rename_i h; simp [offerOp_frame _ _ _ h])

@[simp] theorem ownTamperClear_frame (s : State) :
    (ownTamperClear s).1.tim = s.tim ∧ (ownTamperClear s).1.sch = s.sch ∧ (ownTamperClear s).1.chn = s.chn
    ∧ (ownTamperClear s).1.ana = s.ana ∧ (ownTamperClear s).1.aln = s.aln ∧ (ownTamperClear s).1.cells = s.cells
    ∧ (ownTamperClear s).1.lim = s.lim ∧ (ownTamperClear s).1.cnd = s.cnd ∧ (ownTamperClear s).1.kdr = s.kdr
    ∧ (ownTamperClear s).1.seq = s.seq ∧ (ownTamperClear s).1.ctr = s.ctr ∧ (ownTamperClear s).1.log = s.log
    ∧ (ownTamperClear s).1.pwr = s.pwr ∧ (ownTamperClear s).1.prof = s.prof ∧ (ownTamperClear s).1.upd = s.upd
    ∧ (ownTamperClear s).1.pli = s.pli ∧ (ownTamperClear s).1.pins = s.pins ∧ (ownTamperClear s).1.pending = s.pending := by
  unfold ownTamperClear
  (repeat' split) <;> first | (simp [refuse]; done) | (rename_i h; simp [offerOp_frame _ _ _ h])

/-! ## Link -/

@[simp] theorem resetPart_frame (s : State) :
    (resetPart s).pins = s.pins ∧ (resetPart s).pending = s.pending := by
  exact ⟨rfl, rfl⟩

@[simp] theorem own_frame (r : Request) (s : State) :
    (own r s).1.tim = s.tim ∧ (own r s).1.ana = s.ana ∧ (own r s).1.aln = s.aln ∧ (own r s).1.lim = s.lim
    ∧ (own r s).1.prof = s.prof ∧ (own r s).1.pli = s.pli ∧ (own r s).1.pins = s.pins ∧ (own r s).1.pending = s.pending := by
  cases r <;> first
    | (simp [own, ownReadSweep, ownReadModules, ownReadAnalog, ownReadConditions, ownReadContactors, ownReadRunner,
        ownReadCounters, ownReadProfileInfo, ownStatus, ownIdentify, okWith]; done)
    | (simp only [own, ownReadCells, ownReadResistance, ownLogRead, ownResetPart]; split <;> simp [refuse, okWith])

@[simp] theorem answer_frame (f : InFrame) (s : State) :
    (answer f s).1.tim = s.tim ∧ (answer f s).1.ana = s.ana ∧ (answer f s).1.aln = s.aln ∧ (answer f s).1.lim = s.lim
    ∧ (answer f s).1.prof = s.prof ∧ (answer f s).1.pli = s.pli ∧ (answer f s).1.pins = s.pins
    ∧ (answer f s).1.pending = s.pending := by
  unfold answer
  (repeat' split) <;> simp [refuse]

@[simp] theorem serve_frame (f : InFrame) (s : State) :
    (serve f s).tim = s.tim ∧ (serve f s).ana = s.ana ∧ (serve f s).aln = s.aln ∧ (serve f s).lim = s.lim
    ∧ (serve f s).prof = s.prof ∧ (serve f s).pins = s.pins ∧ (serve f s).pending = s.pending := by
  unfold serve; (try dsimp only); (repeat' split) <;> simp

@[simp] theorem offerFrame_frame (f : InFrame) (s : State) :
    (offerFrame f s).tim = s.tim ∧ (offerFrame f s).ana = s.ana ∧ (offerFrame f s).aln = s.aln ∧ (offerFrame f s).lim = s.lim
    ∧ (offerFrame f s).prof = s.prof ∧ (offerFrame f s).pins = s.pins ∧ (offerFrame f s).pending = s.pending := by
  unfold offerFrame; (try dsimp only); (repeat' split) <;> simp

/-- A frame that is offered leaves the receiver's state alone, whether it is served, waits or is lost. -/
@[simp] theorem offerFrame_rx (f : InFrame) (s : State) : (offerFrame f s).pli.rx = s.pli.rx := by
  unfold offerFrame
  split <;> simp [serve]

@[simp] theorem frameArrives_frame (f : InFrame) (s : State) :
    (frameArrives f s).tim = s.tim ∧ (frameArrives f s).aln = s.aln ∧ (frameArrives f s).lim = s.lim
    ∧ (frameArrives f s).prof = s.prof ∧ (frameArrives f s).pins = s.pins ∧ (frameArrives f s).pending = s.pending := by
  unfold frameArrives; (try dsimp only); (repeat' split) <;> simp

@[simp] theorem requestArrives_frame (tag : Byte) (r : Request) (s : State) :
    (requestArrives tag r s).tim = s.tim ∧ (requestArrives tag r s).aln = s.aln ∧ (requestArrives tag r s).lim = s.lim
    ∧ (requestArrives tag r s).prof = s.prof ∧ (requestArrives tag r s).pins = s.pins
    ∧ (requestArrives tag r s).pending = s.pending := by
  unfold requestArrives; (try dsimp only); (repeat' split) <;> simp

@[simp] theorem nextFrame_frame (s : State) :
    (nextFrame s).tim = s.tim ∧ (nextFrame s).ana = s.ana ∧ (nextFrame s).aln = s.aln ∧ (nextFrame s).lim = s.lim
    ∧ (nextFrame s).prof = s.prof ∧ (nextFrame s).pins = s.pins ∧ (nextFrame s).pending = s.pending := by
  unfold nextFrame; (try dsimp only); (repeat' split) <;> simp

@[simp] theorem transmitEnds_frame (s : State) :
    (transmitEnds s).pins = s.pins ∧ (transmitEnds s).pending = s.pending := by
  unfold transmitEnds; (try dsimp only); (repeat' split) <;> simp

@[simp] theorem linkError_frame (s : State) :
    (linkError s).tim = s.tim ∧ (linkError s).sch = s.sch ∧ (linkError s).chn = s.chn ∧ (linkError s).ana = s.ana
    ∧ (linkError s).aln = s.aln ∧ (linkError s).cells = s.cells ∧ (linkError s).lim = s.lim ∧ (linkError s).kdr = s.kdr
    ∧ (linkError s).seq = s.seq ∧ (linkError s).log = s.log ∧ (linkError s).pwr = s.pwr ∧ (linkError s).nvs = s.nvs
    ∧ (linkError s).prof = s.prof ∧ (linkError s).upd = s.upd ∧ (linkError s).tmp = s.tmp ∧ (linkError s).pli = s.pli
    ∧ (linkError s).pins = s.pins ∧ (linkError s).pending = s.pending := by
  unfold linkError; (try dsimp only); (repeat' split) <;> simp

@[simp] theorem setRx_frame (r : Rx) (s : State) :
    (setRx r s).tim = s.tim ∧ (setRx r s).sch = s.sch ∧ (setRx r s).chn = s.chn ∧ (setRx r s).ana = s.ana
    ∧ (setRx r s).aln = s.aln ∧ (setRx r s).cells = s.cells ∧ (setRx r s).lim = s.lim ∧ (setRx r s).cnd = s.cnd
    ∧ (setRx r s).kdr = s.kdr ∧ (setRx r s).seq = s.seq ∧ (setRx r s).ctr = s.ctr ∧ (setRx r s).log = s.log
    ∧ (setRx r s).pwr = s.pwr ∧ (setRx r s).nvs = s.nvs ∧ (setRx r s).prof = s.prof ∧ (setRx r s).upd = s.upd
    ∧ (setRx r s).tmp = s.tmp ∧ (setRx r s).pins = s.pins ∧ (setRx r s).pending = s.pending := by
  unfold setRx; (try dsimp only); (repeat' split) <;> simp

@[simp] theorem frameJudged_frame (s : State) :
    (frameJudged s).tim = s.tim ∧ (frameJudged s).ana = s.ana ∧ (frameJudged s).aln = s.aln ∧ (frameJudged s).lim = s.lim
    ∧ (frameJudged s).prof = s.prof ∧ (frameJudged s).pins = s.pins ∧ (frameJudged s).pending = s.pending := by
  unfold frameJudged; (try dsimp only); (repeat' split) <;> simp

@[simp] theorem idleWaitEnds_frame (s : State) :
    (idleWaitEnds s).sch = s.sch ∧ (idleWaitEnds s).chn = s.chn ∧ (idleWaitEnds s).ana = s.ana ∧ (idleWaitEnds s).aln = s.aln
    ∧ (idleWaitEnds s).cells = s.cells ∧ (idleWaitEnds s).lim = s.lim ∧ (idleWaitEnds s).cnd = s.cnd
    ∧ (idleWaitEnds s).kdr = s.kdr ∧ (idleWaitEnds s).seq = s.seq ∧ (idleWaitEnds s).ctr = s.ctr ∧ (idleWaitEnds s).log = s.log
    ∧ (idleWaitEnds s).pwr = s.pwr ∧ (idleWaitEnds s).nvs = s.nvs ∧ (idleWaitEnds s).prof = s.prof
    ∧ (idleWaitEnds s).upd = s.upd ∧ (idleWaitEnds s).tmp = s.tmp ∧ (idleWaitEnds s).pins = s.pins
    ∧ (idleWaitEnds s).pending = s.pending := by
  unfold idleWaitEnds; (try dsimp only); (repeat' split) <;> simp

@[simp] theorem gapEnds_frame (s : State) :
    (gapEnds s).sch = s.sch ∧ (gapEnds s).chn = s.chn ∧ (gapEnds s).ana = s.ana ∧ (gapEnds s).aln = s.aln
    ∧ (gapEnds s).cells = s.cells ∧ (gapEnds s).lim = s.lim ∧ (gapEnds s).kdr = s.kdr ∧ (gapEnds s).seq = s.seq
    ∧ (gapEnds s).log = s.log ∧ (gapEnds s).pwr = s.pwr ∧ (gapEnds s).nvs = s.nvs ∧ (gapEnds s).prof = s.prof
    ∧ (gapEnds s).upd = s.upd ∧ (gapEnds s).tmp = s.tmp ∧ (gapEnds s).pins = s.pins ∧ (gapEnds s).pending = s.pending := by
  unfold gapEnds; (try dsimp only); (repeat' split) <;> simp

@[simp] theorem rxCatchUp_frame (start : Time) (s : State) :
    (rxCatchUp start s).tim = s.tim ∧ (rxCatchUp start s).ana = s.ana ∧ (rxCatchUp start s).aln = s.aln
    ∧ (rxCatchUp start s).lim = s.lim ∧ (rxCatchUp start s).prof = s.prof ∧ (rxCatchUp start s).pins = s.pins
    ∧ (rxCatchUp start s).pending = s.pending := by
  unfold rxCatchUp; (try dsimp only); (repeat' split) <;> simp

@[simp] theorem takeByte_frame (b : Byte) (s : State) :
    (takeByte b s).tim = s.tim ∧ (takeByte b s).sch = s.sch ∧ (takeByte b s).chn = s.chn ∧ (takeByte b s).ana = s.ana
    ∧ (takeByte b s).aln = s.aln ∧ (takeByte b s).cells = s.cells ∧ (takeByte b s).lim = s.lim ∧ (takeByte b s).cnd = s.cnd
    ∧ (takeByte b s).kdr = s.kdr ∧ (takeByte b s).seq = s.seq ∧ (takeByte b s).ctr = s.ctr ∧ (takeByte b s).log = s.log
    ∧ (takeByte b s).pwr = s.pwr ∧ (takeByte b s).nvs = s.nvs ∧ (takeByte b s).prof = s.prof ∧ (takeByte b s).upd = s.upd
    ∧ (takeByte b s).tmp = s.tmp ∧ (takeByte b s).pins = s.pins ∧ (takeByte b s).pending = s.pending := by
  unfold takeByte; (try dsimp only); (repeat' split) <;> simp

@[simp] theorem byteArrives_frame (b : Byte) (s : State) :
    (byteArrives b s).tim = s.tim ∧ (byteArrives b s).aln = s.aln ∧ (byteArrives b s).lim = s.lim
    ∧ (byteArrives b s).prof = s.prof ∧ (byteArrives b s).pins = s.pins ∧ (byteArrives b s).pending = s.pending := by
  unfold byteArrives; (try dsimp only); (repeat' split) <;> simp

/-! ## Work -/

@[simp] theorem slotTaken_frame (i : Nat) (s : State) :
    (slotTaken i s).tim = s.tim ∧ (slotTaken i s).ana = s.ana ∧ (slotTaken i s).aln = s.aln ∧ (slotTaken i s).cells = s.cells
    ∧ (slotTaken i s).lim = s.lim ∧ (slotTaken i s).kdr = s.kdr ∧ (slotTaken i s).seq = s.seq ∧ (slotTaken i s).log = s.log
    ∧ (slotTaken i s).pwr = s.pwr ∧ (slotTaken i s).nvs = s.nvs ∧ (slotTaken i s).prof = s.prof ∧ (slotTaken i s).upd = s.upd
    ∧ (slotTaken i s).tmp = s.tmp ∧ (slotTaken i s).pli = s.pli ∧ (slotTaken i s).pins = s.pins
    ∧ (slotTaken i s).pending = s.pending := by
  unfold slotTaken; (try dsimp only); (repeat' split) <;> simp

@[simp] theorem referenceTaken_frame (i : Nat) (s : State) :
    (referenceTaken i s).tim = s.tim ∧ (referenceTaken i s).sch = s.sch ∧ (referenceTaken i s).chn = s.chn
    ∧ (referenceTaken i s).ana = s.ana ∧ (referenceTaken i s).aln = s.aln ∧ (referenceTaken i s).lim = s.lim
    ∧ (referenceTaken i s).cnd = s.cnd ∧ (referenceTaken i s).kdr = s.kdr ∧ (referenceTaken i s).seq = s.seq
    ∧ (referenceTaken i s).ctr = s.ctr ∧ (referenceTaken i s).log = s.log ∧ (referenceTaken i s).pwr = s.pwr
    ∧ (referenceTaken i s).nvs = s.nvs ∧ (referenceTaken i s).prof = s.prof ∧ (referenceTaken i s).upd = s.upd
    ∧ (referenceTaken i s).tmp = s.tmp ∧ (referenceTaken i s).pli = s.pli ∧ (referenceTaken i s).pins = s.pins
    ∧ (referenceTaken i s).pending = s.pending := by
  unfold referenceTaken; (try dsimp only); (repeat' split) <;> simp

@[simp] theorem overCurrentTaken_frame (s : State) :
    (overCurrentTaken s).tim = s.tim ∧ (overCurrentTaken s).chn = s.chn ∧ (overCurrentTaken s).aln = s.aln
    ∧ (overCurrentTaken s).cells = s.cells ∧ (overCurrentTaken s).pwr = s.pwr ∧ (overCurrentTaken s).nvs = s.nvs
    ∧ (overCurrentTaken s).prof = s.prof ∧ (overCurrentTaken s).upd = s.upd ∧ (overCurrentTaken s).tmp = s.tmp
    ∧ (overCurrentTaken s).pli = s.pli ∧ (overCurrentTaken s).pins = s.pins ∧ (overCurrentTaken s).pending = s.pending := by
  unfold overCurrentTaken; (try dsimp only); (repeat' split) <;> simp

@[simp] theorem tellChannel_frame (k : Nat) (s : State) :
    (tellChannel k s).tim = s.tim ∧ (tellChannel k s).ana = s.ana ∧ (tellChannel k s).aln = s.aln
    ∧ (tellChannel k s).cells = s.cells ∧ (tellChannel k s).lim = s.lim ∧ (tellChannel k s).pwr = s.pwr
    ∧ (tellChannel k s).nvs = s.nvs ∧ (tellChannel k s).prof = s.prof ∧ (tellChannel k s).upd = s.upd
    ∧ (tellChannel k s).tmp = s.tmp ∧ (tellChannel k s).pli = s.pli ∧ (tellChannel k s).pins = s.pins
    ∧ (tellChannel k s).pending = s.pending := by
  unfold tellChannel; (try dsimp only); (repeat' split) <;> simp

@[simp] theorem feedbackTaken_frame (k : Nat) (s : State) :
    (feedbackTaken k s).tim = s.tim ∧ (feedbackTaken k s).ana = s.ana ∧ (feedbackTaken k s).aln = s.aln
    ∧ (feedbackTaken k s).cells = s.cells ∧ (feedbackTaken k s).lim = s.lim ∧ (feedbackTaken k s).pwr = s.pwr
    ∧ (feedbackTaken k s).nvs = s.nvs ∧ (feedbackTaken k s).prof = s.prof ∧ (feedbackTaken k s).upd = s.upd
    ∧ (feedbackTaken k s).tmp = s.tmp ∧ (feedbackTaken k s).pli = s.pli ∧ (feedbackTaken k s).pins = s.pins
    ∧ (feedbackTaken k s).pending = s.pending := by
  unfold feedbackTaken; (try dsimp only); (repeat' split) <;> simp

@[simp] theorem pullInTaken_frame (k : Nat) (s : State) :
    (pullInTaken k s).tim = s.tim ∧ (pullInTaken k s).sch = s.sch ∧ (pullInTaken k s).chn = s.chn
    ∧ (pullInTaken k s).ana = s.ana ∧ (pullInTaken k s).aln = s.aln ∧ (pullInTaken k s).cells = s.cells
    ∧ (pullInTaken k s).lim = s.lim ∧ (pullInTaken k s).cnd = s.cnd ∧ (pullInTaken k s).seq = s.seq
    ∧ (pullInTaken k s).ctr = s.ctr ∧ (pullInTaken k s).log = s.log ∧ (pullInTaken k s).pwr = s.pwr
    ∧ (pullInTaken k s).nvs = s.nvs ∧ (pullInTaken k s).prof = s.prof ∧ (pullInTaken k s).upd = s.upd
    ∧ (pullInTaken k s).tmp = s.tmp ∧ (pullInTaken k s).pli = s.pli ∧ (pullInTaken k s).pins = s.pins
    ∧ (pullInTaken k s).pending = s.pending := by
  unfold pullInTaken; (try dsimp only); (repeat' split) <;> simp

@[simp] theorem makeMaxTaken_frame (k : Nat) (s : State) :
    (makeMaxTaken k s).tim = s.tim ∧ (makeMaxTaken k s).ana = s.ana ∧ (makeMaxTaken k s).aln = s.aln
    ∧ (makeMaxTaken k s).cells = s.cells ∧ (makeMaxTaken k s).lim = s.lim ∧ (makeMaxTaken k s).pwr = s.pwr
    ∧ (makeMaxTaken k s).nvs = s.nvs ∧ (makeMaxTaken k s).prof = s.prof ∧ (makeMaxTaken k s).upd = s.upd
    ∧ (makeMaxTaken k s).tmp = s.tmp ∧ (makeMaxTaken k s).pli = s.pli ∧ (makeMaxTaken k s).pins = s.pins
    ∧ (makeMaxTaken k s).pending = s.pending := by
  unfold makeMaxTaken; (try dsimp only); (repeat' split) <;> simp

@[simp] theorem breakMaxTaken_frame (k : Nat) (s : State) :
    (breakMaxTaken k s).tim = s.tim ∧ (breakMaxTaken k s).ana = s.ana ∧ (breakMaxTaken k s).aln = s.aln
    ∧ (breakMaxTaken k s).cells = s.cells ∧ (breakMaxTaken k s).lim = s.lim ∧ (breakMaxTaken k s).pwr = s.pwr
    ∧ (breakMaxTaken k s).nvs = s.nvs ∧ (breakMaxTaken k s).prof = s.prof ∧ (breakMaxTaken k s).upd = s.upd
    ∧ (breakMaxTaken k s).tmp = s.tmp ∧ (breakMaxTaken k s).pli = s.pli ∧ (breakMaxTaken k s).pins = s.pins
    ∧ (breakMaxTaken k s).pending = s.pending := by
  unfold breakMaxTaken; (try dsimp only); (repeat' split) <;> simp

@[simp] theorem settlingTaken_frame (k : Nat) (s : State) :
    (settlingTaken k s).tim = s.tim ∧ (settlingTaken k s).ana = s.ana ∧ (settlingTaken k s).aln = s.aln
    ∧ (settlingTaken k s).cells = s.cells ∧ (settlingTaken k s).lim = s.lim ∧ (settlingTaken k s).pwr = s.pwr
    ∧ (settlingTaken k s).nvs = s.nvs ∧ (settlingTaken k s).prof = s.prof ∧ (settlingTaken k s).upd = s.upd
    ∧ (settlingTaken k s).tmp = s.tmp ∧ (settlingTaken k s).pli = s.pli ∧ (settlingTaken k s).pins = s.pins
    ∧ (settlingTaken k s).pending = s.pending := by
  unfold settlingTaken; (try dsimp only); (repeat' split) <;> simp

@[simp] theorem stepTimerTaken_frame (s : State) :
    (stepTimerTaken s).tim = s.tim ∧ (stepTimerTaken s).ana = s.ana ∧ (stepTimerTaken s).aln = s.aln
    ∧ (stepTimerTaken s).cells = s.cells ∧ (stepTimerTaken s).lim = s.lim ∧ (stepTimerTaken s).pwr = s.pwr
    ∧ (stepTimerTaken s).nvs = s.nvs ∧ (stepTimerTaken s).prof = s.prof ∧ (stepTimerTaken s).upd = s.upd
    ∧ (stepTimerTaken s).tmp = s.tmp ∧ (stepTimerTaken s).pli = s.pli ∧ (stepTimerTaken s).pins = s.pins
    ∧ (stepTimerTaken s).pending = s.pending := by
  unfold stepTimerTaken; (try dsimp only); (repeat' split) <;> simp

@[simp] theorem sleepTimerTaken_frame (s : State) :
    (sleepTimerTaken s).tim = s.tim ∧ (sleepTimerTaken s).sch = s.sch ∧ (sleepTimerTaken s).aln = s.aln
    ∧ (sleepTimerTaken s).cells = s.cells ∧ (sleepTimerTaken s).lim = s.lim ∧ (sleepTimerTaken s).cnd = s.cnd
    ∧ (sleepTimerTaken s).kdr = s.kdr ∧ (sleepTimerTaken s).seq = s.seq ∧ (sleepTimerTaken s).ctr = s.ctr
    ∧ (sleepTimerTaken s).log = s.log ∧ (sleepTimerTaken s).nvs = s.nvs ∧ (sleepTimerTaken s).prof = s.prof
    ∧ (sleepTimerTaken s).upd = s.upd ∧ (sleepTimerTaken s).tmp = s.tmp ∧ (sleepTimerTaken s).pli = s.pli
    ∧ (sleepTimerTaken s).pins = s.pins ∧ (sleepTimerTaken s).pending = s.pending := by
  unfold sleepTimerTaken; (try dsimp only); (repeat' split) <;> simp

@[simp] theorem tamperTaken_frame (s : State) :
    (tamperTaken s).tim = s.tim ∧ (tamperTaken s).sch = s.sch ∧ (tamperTaken s).aln = s.aln ∧ (tamperTaken s).cells = s.cells
    ∧ (tamperTaken s).lim = s.lim ∧ (tamperTaken s).seq = s.seq ∧ (tamperTaken s).ctr = s.ctr ∧ (tamperTaken s).prof = s.prof
    ∧ (tamperTaken s).pins = s.pins ∧ (tamperTaken s).pending = s.pending := by
  unfold tamperTaken; (try dsimp only); (repeat' split) <;> simp

@[simp] theorem tamperReleaseTaken_frame (s : State) :
    (tamperReleaseTaken s).tim = s.tim ∧ (tamperReleaseTaken s).sch = s.sch ∧ (tamperReleaseTaken s).chn = s.chn
    ∧ (tamperReleaseTaken s).ana = s.ana ∧ (tamperReleaseTaken s).aln = s.aln ∧ (tamperReleaseTaken s).cells = s.cells
    ∧ (tamperReleaseTaken s).lim = s.lim ∧ (tamperReleaseTaken s).cnd = s.cnd ∧ (tamperReleaseTaken s).kdr = s.kdr
    ∧ (tamperReleaseTaken s).seq = s.seq ∧ (tamperReleaseTaken s).ctr = s.ctr ∧ (tamperReleaseTaken s).log = s.log
    ∧ (tamperReleaseTaken s).pwr = s.pwr ∧ (tamperReleaseTaken s).nvs = s.nvs ∧ (tamperReleaseTaken s).prof = s.prof
    ∧ (tamperReleaseTaken s).upd = s.upd ∧ (tamperReleaseTaken s).pli = s.pli ∧ (tamperReleaseTaken s).pins = s.pins
    ∧ (tamperReleaseTaken s).pending = s.pending := by
  unfold tamperReleaseTaken; (try dsimp only); (repeat' split) <;> simp

@[simp] theorem tickTime_frame (s : State) :
    (tickTime s).sch = s.sch ∧ (tickTime s).chn = s.chn ∧ (tickTime s).ana = s.ana ∧ (tickTime s).aln = s.aln
    ∧ (tickTime s).cells = s.cells ∧ (tickTime s).lim = s.lim ∧ (tickTime s).cnd = s.cnd ∧ (tickTime s).kdr = s.kdr
    ∧ (tickTime s).seq = s.seq ∧ (tickTime s).ctr = s.ctr ∧ (tickTime s).log = s.log ∧ (tickTime s).pwr = s.pwr
    ∧ (tickTime s).nvs = s.nvs ∧ (tickTime s).prof = s.prof ∧ (tickTime s).upd = s.upd ∧ (tickTime s).tmp = s.tmp
    ∧ (tickTime s).pli = s.pli ∧ (tickTime s).pins = s.pins ∧ (tickTime s).pending = s.pending := by
  unfold tickTime; (try dsimp only); (repeat' split) <;> simp

@[simp] theorem tickChan_frame (k : Nat) (s : State) :
    (tickChan k s).tim = s.tim ∧ (tickChan k s).ana = s.ana ∧ (tickChan k s).aln = s.aln ∧ (tickChan k s).cells = s.cells
    ∧ (tickChan k s).lim = s.lim ∧ (tickChan k s).pwr = s.pwr ∧ (tickChan k s).nvs = s.nvs ∧ (tickChan k s).prof = s.prof
    ∧ (tickChan k s).upd = s.upd ∧ (tickChan k s).tmp = s.tmp ∧ (tickChan k s).pli = s.pli ∧ (tickChan k s).pins = s.pins
    ∧ (tickChan k s).pending = s.pending := by
  unfold tickChan; (try dsimp only); (repeat' split) <;> simp

@[simp] theorem tickDrivers_frame (s : State) :
    (tickDrivers s).tim = s.tim ∧ (tickDrivers s).ana = s.ana ∧ (tickDrivers s).aln = s.aln ∧ (tickDrivers s).cells = s.cells
    ∧ (tickDrivers s).lim = s.lim ∧ (tickDrivers s).pwr = s.pwr ∧ (tickDrivers s).nvs = s.nvs ∧ (tickDrivers s).prof = s.prof
    ∧ (tickDrivers s).upd = s.upd ∧ (tickDrivers s).tmp = s.tmp ∧ (tickDrivers s).pli = s.pli ∧ (tickDrivers s).pins = s.pins
    ∧ (tickDrivers s).pending = s.pending := by
  unfold tickDrivers; (try dsimp only); (repeat' split) <;> simp

@[simp] theorem tickSlots_frame (s : State) :
    (tickSlots s).tim = s.tim ∧ (tickSlots s).chn = s.chn ∧ (tickSlots s).ana = s.ana ∧ (tickSlots s).aln = s.aln
    ∧ (tickSlots s).cells = s.cells ∧ (tickSlots s).lim = s.lim ∧ (tickSlots s).cnd = s.cnd ∧ (tickSlots s).kdr = s.kdr
    ∧ (tickSlots s).seq = s.seq ∧ (tickSlots s).ctr = s.ctr ∧ (tickSlots s).log = s.log ∧ (tickSlots s).pwr = s.pwr
    ∧ (tickSlots s).nvs = s.nvs ∧ (tickSlots s).prof = s.prof ∧ (tickSlots s).upd = s.upd ∧ (tickSlots s).tmp = s.tmp
    ∧ (tickSlots s).pli = s.pli ∧ (tickSlots s).pins = s.pins ∧ (tickSlots s).pending = s.pending := by
  unfold tickSlots; (try dsimp only); (repeat' split) <;> simp

@[simp] theorem tickTamper_frame (s : State) :
    (tickTamper s).tim = s.tim ∧ (tickTamper s).sch = s.sch ∧ (tickTamper s).chn = s.chn ∧ (tickTamper s).ana = s.ana
    ∧ (tickTamper s).aln = s.aln ∧ (tickTamper s).cells = s.cells ∧ (tickTamper s).lim = s.lim ∧ (tickTamper s).cnd = s.cnd
    ∧ (tickTamper s).kdr = s.kdr ∧ (tickTamper s).seq = s.seq ∧ (tickTamper s).ctr = s.ctr ∧ (tickTamper s).log = s.log
    ∧ (tickTamper s).pwr = s.pwr ∧ (tickTamper s).nvs = s.nvs ∧ (tickTamper s).prof = s.prof ∧ (tickTamper s).upd = s.upd
    ∧ (tickTamper s).pli = s.pli ∧ (tickTamper s).pins = s.pins ∧ (tickTamper s).pending = s.pending := by
  unfold tickTamper; (try dsimp only); (repeat' split) <;> simp

@[simp] theorem tickWork_frame (feedback : BitVec 4) (tamper : Bool) (s : State) :
    (tickWork feedback tamper s).aln = s.aln ∧ (tickWork feedback tamper s).lim = s.lim
    ∧ (tickWork feedback tamper s).nvs = s.nvs ∧ (tickWork feedback tamper s).prof = s.prof
    ∧ (tickWork feedback tamper s).upd = s.upd ∧ (tickWork feedback tamper s).pli = s.pli
    ∧ (tickWork feedback tamper s).pending = s.pending := by
  unfold tickWork; (try dsimp only); (repeat' split) <;> simp

@[simp] theorem loseConversion_frame (s : State) :
    (loseConversion s).tim = s.tim ∧ (loseConversion s).aln = s.aln ∧ (loseConversion s).cells = s.cells
    ∧ (loseConversion s).lim = s.lim ∧ (loseConversion s).seq = s.seq ∧ (loseConversion s).ctr = s.ctr
    ∧ (loseConversion s).log = s.log ∧ (loseConversion s).nvs = s.nvs ∧ (loseConversion s).prof = s.prof
    ∧ (loseConversion s).upd = s.upd ∧ (loseConversion s).tmp = s.tmp ∧ (loseConversion s).pins = s.pins
    ∧ (loseConversion s).pending = s.pending := by
  unfold loseConversion; (try dsimp only); (repeat' split) <;> simp

@[simp] theorem sampleInstant_frame (s : State) :
    (sampleInstant s).aln = s.aln ∧ (sampleInstant s).cells = s.cells ∧ (sampleInstant s).lim = s.lim
    ∧ (sampleInstant s).seq = s.seq ∧ (sampleInstant s).ctr = s.ctr ∧ (sampleInstant s).log = s.log
    ∧ (sampleInstant s).nvs = s.nvs ∧ (sampleInstant s).prof = s.prof ∧ (sampleInstant s).upd = s.upd
    ∧ (sampleInstant s).tmp = s.tmp ∧ (sampleInstant s).pins = s.pins ∧ (sampleInstant s).pending = s.pending := by
  unfold sampleInstant; (try dsimp only); (repeat' split) <;> simp

@[simp] theorem appendEntry_frame (e : RingEntry) (s : State) :
    (appendEntry e s).tim = s.tim ∧ (appendEntry e s).sch = s.sch ∧ (appendEntry e s).chn = s.chn
    ∧ (appendEntry e s).aln = s.aln ∧ (appendEntry e s).cells = s.cells ∧ (appendEntry e s).lim = s.lim
    ∧ (appendEntry e s).kdr = s.kdr ∧ (appendEntry e s).seq = s.seq ∧ (appendEntry e s).ctr = s.ctr
    ∧ (appendEntry e s).log = s.log ∧ (appendEntry e s).pwr = s.pwr ∧ (appendEntry e s).nvs = s.nvs
    ∧ (appendEntry e s).prof = s.prof ∧ (appendEntry e s).upd = s.upd ∧ (appendEntry e s).tmp = s.tmp
    ∧ (appendEntry e s).pli = s.pli ∧ (appendEntry e s).pins = s.pins ∧ (appendEntry e s).pending = s.pending := by
  unfold appendEntry; (try dsimp only); (repeat' split) <;> simp

@[simp] theorem countReady_frame (s : State) :
    (countReady s).tim = s.tim ∧ (countReady s).sch = s.sch ∧ (countReady s).chn = s.chn ∧ (countReady s).aln = s.aln
    ∧ (countReady s).cells = s.cells ∧ (countReady s).lim = s.lim ∧ (countReady s).cnd = s.cnd
    ∧ (countReady s).kdr = s.kdr ∧ (countReady s).seq = s.seq ∧ (countReady s).ctr = s.ctr
    ∧ (countReady s).log = s.log ∧ (countReady s).pwr = s.pwr ∧ (countReady s).nvs = s.nvs
    ∧ (countReady s).prof = s.prof ∧ (countReady s).upd = s.upd ∧ (countReady s).tmp = s.tmp
    ∧ (countReady s).pli = s.pli ∧ (countReady s).pins = s.pins ∧ (countReady s).pending = s.pending := by
  unfold countReady; (try dsimp only); (repeat' split) <;> simp

@[simp] theorem reportReady_frame (s : State) :
    (reportReady s).tim = s.tim ∧ (reportReady s).aln = s.aln ∧ (reportReady s).cells = s.cells ∧ (reportReady s).lim = s.lim
    ∧ (reportReady s).seq = s.seq ∧ (reportReady s).ctr = s.ctr ∧ (reportReady s).log = s.log ∧ (reportReady s).nvs = s.nvs
    ∧ (reportReady s).prof = s.prof ∧ (reportReady s).upd = s.upd ∧ (reportReady s).tmp = s.tmp ∧ (reportReady s).pins = s.pins
    ∧ (reportReady s).pending = s.pending := by
  unfold reportReady; (try dsimp only); (repeat' split) <;> simp

@[simp] theorem arrival_frame (e : RingEntry) (s : State) :
    (arrival e s).tim = s.tim ∧ (arrival e s).nvs = s.nvs ∧ (arrival e s).prof = s.prof ∧ (arrival e s).upd = s.upd
    ∧ (arrival e s).tmp = s.tmp ∧ (arrival e s).pins = s.pins ∧ (arrival e s).pending = s.pending := by
  unfold arrival; (try dsimp only); (repeat' split) <;> simp

/-- With nothing left of the over-current run and the step timer, a delivery takes nothing first. -/
theorem dueAtDelivery_of_nothingDue (s : State) (h1 : s.ocDue = false) (h2 : s.timerDue = false) : dueAtDelivery s = s := by
  simp [dueAtDelivery, takeEvent, h1, h2]

/-- An event for each of some numbers is a fold over them. -/
theorem takeEach_eq_foldl (f : Nat → State → State) (l : List Nat) (s : State) : takeEach f l s = l.foldl (fun x i => f i x) s := by
  induction l generalizing s with
  | nil => rfl
  | cons i r ih => exact ih (f i s)

/-- The indices of the cells with a property are the indices of the table that have it, in rising order. -/
theorem cellsWith_eq_filter (f : Cell → Bool) (l : List Cell) (n : Nat) :
    cellsWith f n l = ((List.range l.length).filter fun i => f (l.getD i cellReset)).map (· + n) := by
  induction l generalizing n with
  | nil => rfl
  | cons c r ih =>
    have hr : ((List.range r.length).map Nat.succ).filter (fun i => f ((c :: r).getD i cellReset)) =
        ((List.range r.length).filter fun i => f (r.getD i cellReset)).map Nat.succ := by
      rw [List.filter_map]; rfl
    rw [cellsWith, List.length_cons, List.range_succ_eq_map, List.filter_cons, ih, hr]
    by_cases h : f c = true
    · simp [h, Function.comp_def]; intro a _ _; omega
    · simp [h, Function.comp_def]; intro a _ _; omega

@[simp] theorem dueAtDelivery_frame (s : State) :
    (dueAtDelivery s).tim = s.tim ∧ (dueAtDelivery s).pins = s.pins ∧ (dueAtDelivery s).pending = s.pending := by
  unfold dueAtDelivery takeEvent; (try dsimp only); (repeat' split) <;> simp

@[simp] theorem deliver_frame (t : Time) (current : Int) (pack link : Nat) (s : State) :
    (deliver t current pack link s).tim = s.tim ∧ (deliver t current pack link s).pins = s.pins
    ∧ (deliver t current pack link s).pending = s.pending := by
  unfold deliver; (try dsimp only); (repeat' split) <;> simp

@[simp] theorem deadlineTaken_frame (target : Option Nat) (s : State) :
    (deadlineTaken target s).nvs = s.nvs ∧ (deadlineTaken target s).prof = s.prof ∧ (deadlineTaken target s).upd = s.upd
    ∧ (deadlineTaken target s).tmp = s.tmp ∧ (deadlineTaken target s).pins = s.pins
    ∧ (deadlineTaken target s).pending = s.pending := by
  unfold deadlineTaken; (try dsimp only); (repeat' split) <;> simp

@[simp] theorem wakePulseEnds_frame (s : State) :
    (wakePulseEnds s).sch = s.sch ∧ (wakePulseEnds s).chn = s.chn ∧ (wakePulseEnds s).ana = s.ana
    ∧ (wakePulseEnds s).aln = s.aln ∧ (wakePulseEnds s).cells = s.cells ∧ (wakePulseEnds s).lim = s.lim
    ∧ (wakePulseEnds s).cnd = s.cnd ∧ (wakePulseEnds s).kdr = s.kdr ∧ (wakePulseEnds s).seq = s.seq
    ∧ (wakePulseEnds s).ctr = s.ctr ∧ (wakePulseEnds s).log = s.log ∧ (wakePulseEnds s).nvs = s.nvs
    ∧ (wakePulseEnds s).prof = s.prof ∧ (wakePulseEnds s).upd = s.upd ∧ (wakePulseEnds s).tmp = s.tmp
    ∧ (wakePulseEnds s).pli = s.pli ∧ (wakePulseEnds s).pins = s.pins ∧ (wakePulseEnds s).pending = s.pending := by
  unfold wakePulseEnds; (try dsimp only); (repeat' split) <;> simp

@[simp] theorem commitDone_frame (x : AB) (g : BitVec 32) (s : State) :
    (commitDone x g s).tim = s.tim ∧ (commitDone x g s).sch = s.sch ∧ (commitDone x g s).chn = s.chn
    ∧ (commitDone x g s).ana = s.ana ∧ (commitDone x g s).aln = s.aln ∧ (commitDone x g s).cells = s.cells
    ∧ (commitDone x g s).lim = s.lim ∧ (commitDone x g s).kdr = s.kdr ∧ (commitDone x g s).seq = s.seq
    ∧ (commitDone x g s).ctr = s.ctr ∧ (commitDone x g s).pwr = s.pwr ∧ (commitDone x g s).nvs = s.nvs
    ∧ (commitDone x g s).prof = s.prof ∧ (commitDone x g s).tmp = s.tmp ∧ (commitDone x g s).pli = s.pli
    ∧ (commitDone x g s).pins = s.pins ∧ (commitDone x g s).pending = s.pending := by
  unfold commitDone; (try dsimp only); (repeat' split) <;> simp

@[simp] theorem clearDone_frame (void : Bool) (s : State) :
    (clearDone void s).tim = s.tim ∧ (clearDone void s).sch = s.sch ∧ (clearDone void s).chn = s.chn
    ∧ (clearDone void s).ana = s.ana ∧ (clearDone void s).aln = s.aln ∧ (clearDone void s).cells = s.cells
    ∧ (clearDone void s).lim = s.lim ∧ (clearDone void s).kdr = s.kdr ∧ (clearDone void s).seq = s.seq
    ∧ (clearDone void s).ctr = s.ctr ∧ (clearDone void s).log = s.log ∧ (clearDone void s).pwr = s.pwr
    ∧ (clearDone void s).nvs = s.nvs ∧ (clearDone void s).prof = s.prof ∧ (clearDone void s).upd = s.upd
    ∧ (clearDone void s).pli = s.pli ∧ (clearDone void s).pins = s.pins ∧ (clearDone void s).pending = s.pending := by
  unfold clearDone; (try dsimp only); (repeat' split) <;> simp

@[simp] theorem anchorDone_frame (st : NvStep) (s : State) :
    (anchorDone st s).tim = s.tim ∧ (anchorDone st s).sch = s.sch ∧ (anchorDone st s).chn = s.chn
    ∧ (anchorDone st s).ana = s.ana ∧ (anchorDone st s).aln = s.aln ∧ (anchorDone st s).cells = s.cells
    ∧ (anchorDone st s).lim = s.lim ∧ (anchorDone st s).cnd = s.cnd ∧ (anchorDone st s).kdr = s.kdr
    ∧ (anchorDone st s).seq = s.seq ∧ (anchorDone st s).ctr = s.ctr ∧ (anchorDone st s).log = s.log
    ∧ (anchorDone st s).pwr = s.pwr ∧ (anchorDone st s).prof = s.prof ∧ (anchorDone st s).upd = s.upd
    ∧ (anchorDone st s).tmp = s.tmp ∧ (anchorDone st s).pli = s.pli ∧ (anchorDone st s).pins = s.pins
    ∧ (anchorDone st s).pending = s.pending := by
  unfold anchorDone; (try dsimp only); (repeat' split) <;> simp

@[simp] theorem wearDone_frame (st : NvStep) (s : State) :
    (wearDone st s).tim = s.tim ∧ (wearDone st s).sch = s.sch ∧ (wearDone st s).chn = s.chn ∧ (wearDone st s).ana = s.ana
    ∧ (wearDone st s).aln = s.aln ∧ (wearDone st s).cells = s.cells ∧ (wearDone st s).lim = s.lim ∧ (wearDone st s).cnd = s.cnd
    ∧ (wearDone st s).seq = s.seq ∧ (wearDone st s).ctr = s.ctr ∧ (wearDone st s).log = s.log ∧ (wearDone st s).pwr = s.pwr
    ∧ (wearDone st s).prof = s.prof ∧ (wearDone st s).upd = s.upd ∧ (wearDone st s).tmp = s.tmp ∧ (wearDone st s).pli = s.pli
    ∧ (wearDone st s).pins = s.pins ∧ (wearDone st s).pending = s.pending := by
  unfold wearDone; (try dsimp only); (repeat' split) <;> simp

@[simp] theorem operationEnds_frame (f : NvFlight) (s : State) :
    (operationEnds f s).tim = s.tim ∧ (operationEnds f s).sch = s.sch ∧ (operationEnds f s).chn = s.chn
    ∧ (operationEnds f s).ana = s.ana ∧ (operationEnds f s).aln = s.aln ∧ (operationEnds f s).cells = s.cells
    ∧ (operationEnds f s).lim = s.lim ∧ (operationEnds f s).seq = s.seq ∧ (operationEnds f s).ctr = s.ctr
    ∧ (operationEnds f s).pwr = s.pwr ∧ (operationEnds f s).prof = s.prof ∧ (operationEnds f s).pli = s.pli
    ∧ (operationEnds f s).pins = s.pins ∧ (operationEnds f s).pending = s.pending := by
  unfold operationEnds; (try dsimp only); (repeat' split) <;> simp

@[simp] theorem nvStepTaken_frame (s : State) :
    (nvStepTaken s).sch = s.sch ∧ (nvStepTaken s).chn = s.chn ∧ (nvStepTaken s).ana = s.ana ∧ (nvStepTaken s).aln = s.aln
    ∧ (nvStepTaken s).cells = s.cells ∧ (nvStepTaken s).lim = s.lim ∧ (nvStepTaken s).seq = s.seq ∧ (nvStepTaken s).ctr = s.ctr
    ∧ (nvStepTaken s).pwr = s.pwr ∧ (nvStepTaken s).prof = s.prof ∧ (nvStepTaken s).pli = s.pli ∧ (nvStepTaken s).pins = s.pins
    ∧ (nvStepTaken s).pending = s.pending := by
  unfold nvStepTaken; (try dsimp only); (repeat' split) <;> simp

@[simp] theorem verified_frame (s : State) :
    (verified s).tim = s.tim ∧ (verified s).sch = s.sch ∧ (verified s).chn = s.chn ∧ (verified s).ana = s.ana
    ∧ (verified s).aln = s.aln ∧ (verified s).cells = s.cells ∧ (verified s).lim = s.lim ∧ (verified s).kdr = s.kdr
    ∧ (verified s).seq = s.seq ∧ (verified s).ctr = s.ctr ∧ (verified s).pwr = s.pwr ∧ (verified s).prof = s.prof
    ∧ (verified s).tmp = s.tmp ∧ (verified s).pli = s.pli ∧ (verified s).pins = s.pins ∧ (verified s).pending = s.pending := by
  unfold verified
  dsimp only
  (repeat' split) <;> first | (simp; done) | (rename_i h; simp [offerOp_frame _ _ _ h])

@[simp] theorem passTime_frame (s : State) :
    (passTime s).sch = s.sch ∧ (passTime s).chn = s.chn ∧ (passTime s).ana = s.ana ∧ (passTime s).aln = s.aln
    ∧ (passTime s).cells = s.cells ∧ (passTime s).lim = s.lim ∧ (passTime s).cnd = s.cnd ∧ (passTime s).kdr = s.kdr
    ∧ (passTime s).seq = s.seq ∧ (passTime s).ctr = s.ctr ∧ (passTime s).log = s.log ∧ (passTime s).pwr = s.pwr
    ∧ (passTime s).nvs = s.nvs ∧ (passTime s).prof = s.prof ∧ (passTime s).upd = s.upd ∧ (passTime s).tmp = s.tmp
    ∧ (passTime s).pli = s.pli ∧ (passTime s).pins = s.pins ∧ (passTime s).pending = s.pending := by
  unfold passTime; (try dsimp only); (repeat' split) <;> simp

end Sys2Proof.Machine
end

