-- ==== Sys2Proof/Laws/Memory.lean ====
section
/-! SUPPORT. The staging buffer's memory: every operation keeps its canonical form, and a read finds what was last written. -/
namespace Sys2Proof.Machine

/-- A lower bound on the addresses may be lowered. -/
theorem Memory.wfFrom_mono {lo lo' : Nat} (h : lo' ≤ lo) :
    ∀ {m : List (Nat × BitVec 8)}, Memory.wfFrom lo m = true → Memory.wfFrom lo' m = true
  | [], _ => rfl
  | (a, b) :: rest, hm => by
    simp only [Memory.wfFrom, Bool.and_eq_true, decide_eq_true_eq] at hm ⊢
    exact ⟨⟨le_trans h hm.1.1, hm.1.2⟩, hm.2⟩

/-- An address below every listed one reads 0. -/
theorem Memory.read_below {x : Nat} :
    ∀ {m : List (Nat × BitVec 8)} {lo : Nat}, Memory.wfFrom lo m = true → x < lo → Memory.read m x = 0
  | [], _, _, _ => rfl
  | (a, b) :: rest, lo, hm, hx => by
    simp only [Memory.wfFrom, Bool.and_eq_true, decide_eq_true_eq] at hm
    simp only [Memory.read, if_neg (show ¬ x = a by omega)]
    exact Memory.read_below hm.2 (by omega)

/-- A write keeps the canonical form, above every bound that holds of the memory and of the address. -/
theorem Memory.wfFrom_write (x : Nat) (v : BitVec 8) :
    ∀ {m : List (Nat × BitVec 8)} {lo : Nat}, Memory.wfFrom lo m = true → lo ≤ x → Memory.wfFrom lo (Memory.write m x v) = true
  | [], lo, _, hx => by
    unfold Memory.write
    split
    · rfl
    · rename_i hv
      simp only [Memory.wfFrom, Bool.and_eq_true, decide_eq_true_eq, bne_iff_ne, and_true]
      exact ⟨hx, hv⟩
  | (a, b) :: rest, lo, hm, hx => by
    simp only [Memory.wfFrom, Bool.and_eq_true, decide_eq_true_eq, bne_iff_ne] at hm
    obtain ⟨⟨h1, h2⟩, h3⟩ := hm
    unfold Memory.write
    split
    · rename_i hlt
      split
      · simp only [Memory.wfFrom, Bool.and_eq_true, decide_eq_true_eq, bne_iff_ne]
        exact ⟨⟨h1, h2⟩, h3⟩
      · rename_i hv
        simp only [Memory.wfFrom, Bool.and_eq_true, decide_eq_true_eq, bne_iff_ne]
        exact ⟨⟨hx, hv⟩, ⟨hlt, h2⟩, h3⟩
    · rename_i hlt
      split
      · rename_i he
        subst he
        split
        · exact Memory.wfFrom_mono (by omega) h3
        · rename_i hv
          simp only [Memory.wfFrom, Bool.and_eq_true, decide_eq_true_eq, bne_iff_ne]
          exact ⟨⟨hx, hv⟩, h3⟩
      · rename_i hne
        simp only [Memory.wfFrom, Bool.and_eq_true, decide_eq_true_eq, bne_iff_ne]
        exact ⟨⟨h1, h2⟩, Memory.wfFrom_write x v h3 (by omega)⟩

/-- A read after a write: the byte written at its address, the old byte elsewhere. -/
theorem Memory.read_write (x y : Nat) (v : BitVec 8) :
    ∀ {m : List (Nat × BitVec 8)} {lo : Nat}, Memory.wfFrom lo m = true →
      Memory.read (Memory.write m x v) y = if y = x then v else Memory.read m y
  | [], lo, _ => by
    unfold Memory.write
    split
    · rename_i hv
      subst hv
      simp [Memory.read]
    · simp [Memory.read]
  | (a, b) :: rest, lo, hm => by
    have hw := hm
    simp only [Memory.wfFrom, Bool.and_eq_true, decide_eq_true_eq] at hm
    obtain ⟨⟨h1, h2⟩, h3⟩ := hm
    unfold Memory.write
    split
    · rename_i hlt
      split
      · rename_i hv
        split
        · rename_i he
          subst he hv
          simp only [Memory.read, if_neg (show ¬ y = a by omega)]
          exact Memory.read_below h3 (by omega)
        · rfl
      · simp only [Memory.read]
    · rename_i hlt
      split
      · rename_i he
        subst he
        split
        · rename_i hv
          subst hv
          split
          · rename_i hy
            subst hy
            exact Memory.read_below h3 (by omega)
          · rename_i hy
            simp only [Memory.read, if_neg hy]
        · by_cases hy : y = x <;> simp [Memory.read, hy]
      · rename_i hne
        simp only [Memory.read]
        rw [Memory.read_write x y v h3]
        by_cases hy : y = a
        · subst hy
          simp [show ¬ y = x from fun e => hne e.symm]
        · simp [hy]

/-- A write keeps the canonical form. -/
theorem Memory.wf_write {m : List (Nat × BitVec 8)} (h : Memory.wf m = true) (x : Nat) (v : BitVec 8) :
    Memory.wf (Memory.write m x v) = true := Memory.wfFrom_write x v h (Nat.zero_le x)

/-- Writing a run of bytes keeps the canonical form. -/
theorem Memory.wf_writeBytes : ∀ (vs : List (BitVec 8)) {m : List (Nat × BitVec 8)} (x : Nat), Memory.wf m = true →
    Memory.wf (Memory.writeBytes m x vs) = true
  | [], _, _, h => h
  | v :: vs, _, x, h => Memory.wf_writeBytes vs (x + 1) (Memory.wf_write h x v)

/-- Writing a run of bytes leaves every address below it. -/
theorem Memory.read_writeBytes_below : ∀ (vs : List (BitVec 8)) {m : List (Nat × BitVec 8)} (x y : Nat), Memory.wf m = true →
    y < x → Memory.read (Memory.writeBytes m x vs) y = Memory.read m y
  | [], _, _, _, _, _ => rfl
  | v :: vs, _, x, y, h, hy => by
    rw [Memory.writeBytes, Memory.read_writeBytes_below vs (x + 1) y (Memory.wf_write h x v) (by omega),
      Memory.read_write x y v h, if_neg (by omega)]

/-- The staging buffer of the part after reset, and every empty one, has the canonical form. -/
theorem Memory.wf_reset : Memory.wf State.reset.upd.staging = true := rfl

end Sys2Proof.Machine
end

