-- ==== Sys2Proof/Laws/Tables.lean ====
section
/-! SUPPORT. What the shared operations over the tables do: one entry replaced, every other as it was; one condition set, cleared or
following its cause; an operation offered to the NV engine. -/
namespace Sys2Proof.Machine

/-- Cell i replaced, every other entry as it was. -/
theorem cell_setCell (s : State) (i j : Nat) (c : Cell) :
    (s.setCell i c).cell j = if j = i ∧ i < s.cells.length then c else s.cell j := by
  simp only [State.setCell, State.cell, State.setCells_cells, List.getD_eq_getElem?_getD, List.getElem?_set]
  by_cases h : i = j
  · subst h
    by_cases h2 : i < s.cells.length <;> simp [h2]
  · simp [h, show ¬ j = i from fun e => h e.symm]

/-- Channel i replaced, every other as it was. -/
theorem chan_setChan (s : State) (i j : Nat) (c : Chan) :
    (s.setChan i c).chan j = if j = i ∧ i < s.kdr.chans.length then c else s.chan j := by
  simp only [State.setChan, State.chan, State.setKdr_kdr, List.getD_eq_getElem?_getD, List.getElem?_set]
  by_cases h : i = j
  · subst h
    by_cases h2 : i < s.kdr.chans.length <;> simp [h2]
  · simp [h, show ¬ j = i from fun e => h e.symm]

/-- Position i of the module table replaced, every other as it was. -/
theorem modEntry_setMod (s : State) (i j : Nat) (m : ModEntry) :
    (s.setMod i m).modEntry j = if j = i ∧ i < s.chn.modules.length then m else s.modEntry j := by
  simp only [State.setMod, State.modEntry, State.setChn_chn, List.getD_eq_getElem?_getD, List.getElem?_set]
  by_cases h : i = j
  · subst h
    by_cases h2 : i < s.chn.modules.length <;> simp [h2]
  · simp [h, show ¬ j = i from fun e => h e.symm]

/-- The bits of the sets of one condition. -/
theorem getLsbD_bit (c d : Cond) : c.bit.getLsbD d.idx = (d == c) := by
  cases c <;> cases d <;> rfl

/-- Which conditions are set after one has taken the state its owner reports (R82). -/
theorem condSet_liveCond (c d : Cond) (holds : Bool) (s : State) :
    (liveCond c holds s).condSet d = if d = c then holds else s.condSet d := by
  have hi : ∀ c d : Cond, (~~~c.bit).getLsbD d.idx = (d != c) := by
    intro c d
    cases c <;> cases d <;> rfl
  cases holds
  · show (clearCond c s).condSet d = _
    by_cases h : d = c <;> simp [clearCond, State.condSet, hi, h]
  · show (setCond c s).condSet d = _
    unfold setCond
    split
    · rename_i h2
      by_cases h : d = c
      · subst h
        simpa using h2
      · simp [h]
    · by_cases h : d = c <;> simp [State.condSet, getLsbD_bit, h]

/-- What an offer to the NV engine comes to: it is merged, or it joins the queue, or it is refused for want of room (R171). -/
theorem offerOp_cases (op : NvOp) (s : State) :
    (offerOp op s = some s ∧ op ∈ s.nvs.queue)
    ∨ (offerOp op s = some (s.setNvs { s.nvs with queue := s.nvs.queue ++ [op] }) ∧ s.nvs.queue.length < op.room)
    ∨ (offerOp op s = none ∧ op.room ≤ s.nvs.queue.length) := by
  unfold offerOp
  split
  · rename_i h
    simp only [Bool.and_eq_true, List.contains_iff_mem] at h
    exact .inl ⟨rfl, h.2⟩
  · split
    · rename_i h
      exact .inr (.inl ⟨rfl, h⟩)
    · rename_i h
      exact .inr (.inr ⟨rfl, Nat.not_lt.1 h⟩)

/-- The operation that begins next is one of those that wait (R172). -/
theorem nextOp_mem {q : List NvOp} {op : NvOp} (h : nextOp q = some op) : op ∈ q := by
  unfold nextOp at h
  split at h
  · rename_i op' hf
    cases h
    exact List.mem_of_find?_eq_some hf
  · exact List.mem_of_mem_head? h

end Sys2Proof.Machine
end

