-- ==== Sys2Proof/Tests/Slice0.lean ====
section
/-! SUPPORT. Tests: the well-formedness checks, single commands on small states with the values of the manual's worked examples, and for
each obligation with hypotheses a witness that meets them. -/

open Sys2Proof Sys2Proof.Machine

namespace Sys2Proof.Tests

set_option maxRecDepth 40000

/-! ## Well-formedness: each check refuses an ill-formed command -/

theorem test_illFormed_slotExpiry : (Instr.slotExpiry 8).wellFormed = false := by decide
theorem test_illFormed_freshnessExpiry : (Instr.freshnessExpiry 192).wellFormed = false := by decide
theorem test_illFormed_referenceExpiry : (Instr.referenceExpiry 192).wellFormed = false := by decide
theorem test_illFormed_alignDeadline : (Instr.alignDeadline (some 192)).wellFormed = false := by decide
theorem test_illFormed_chainReplyComplete : (Instr.chainReplyComplete [0x5A, 0xB0, 0, 0]).wellFormed = false := by decide
theorem test_illFormed_feedbackAccepted : (Instr.feedbackAccepted 4).wellFormed = false := by decide
theorem test_illFormed_pullInEnd : (Instr.pullInEnd 4).wellFormed = false := by decide
theorem test_illFormed_makeMaxExpiry : (Instr.makeMaxExpiry 4).wellFormed = false := by decide
theorem test_illFormed_breakMaxExpiry : (Instr.breakMaxExpiry 4).wellFormed = false := by decide
theorem test_illFormed_settlingEnd : (Instr.settlingEnd 4).wellFormed = false := by decide
theorem test_illFormed_unknownRequest_code : (Instr.unknownRequest 0x23 0 []).wellFormed = false := by decide
theorem test_illFormed_unknownRequest_length : (Instr.unknownRequest 0x24 0 (List.replicate 241 0)).wellFormed = false := by decide
theorem test_illFormed_clearOverflow : (Instr.clearOverflow 0 (List.replicate 241 0)).wellFormed = false := by decide
theorem test_illFormed_updateChunk : (Instr.updateChunk 0 0 (List.replicate 239 0)).wellFormed = false := by decide
theorem test_wellFormed_lastSlot : (Instr.slotExpiry 7).wellFormed = true := by decide

/-- The table gives no row any bits. -/
theorem test_decodeTableWord_none : decodeTableWord 8 0x01 = none := by decide

/-! ## Small states -/

/-- The state after a command's meaning. -/
def after (c : Instr) (s : State) : State :=
  match exec c s with
  | .next t => t
  | .fault _ => s
  | .refused _ => s

/-- A part in RUN, quiet, the factory profile active, the chain IDLE, the receiver hunting. -/
def running : State :=
  (((blocksReset erasedMem pinsReset []).setPwr { pwrReset with mode := .run }).setChn { chnReset with st := .idle, powerUpEnd := none }).setPli
    { pliReset with rx := .hunting }

/-- The status of the reply that is being sent. -/
def replyStatus (s : State) : Option Status :=
  match s.pli.sending with
  | some (.reply _ _ r) => some r.status
  | some (.conditions _ _ _) | some (.woke _ _) | none => none

/-- The fields of the reply that is being sent. -/
def replyBody (s : State) : Option ReplyBody :=
  match s.pli.sending with
  | some (.reply _ _ r) => some r.body
  | some (.conditions _ _ _) | some (.woke _ _) | none => none

/-! ## Checks: the public check values of the two polynomials, over the nine bytes of the digits 1 to 9 -/

/-- The digits 1 to 9. -/
def nineDigits : List Byte := [0x31, 0x32, 0x33, 0x34, 0x35, 0x36, 0x37, 0x38, 0x39]

theorem test_crc16_check_value : crc16 nineDigits = 0x29B1 := by decide
theorem test_crc8_check_value : crc8 nineDigits ^^^ 0xFF = 0xDF := by decide

/-! ## Scheduler: "three claims on a busy link" (spec/01) -/

/-- Positions 0 to 9; slot 0 FULL, 50 ms, phase 0; slot 3 {4,5}, 10 ms, phase 2. -/
def busyProfile : Profile := { factoryProfile with
  moduleCount := 10
  cellCounts := [4, 4, 4, 4, 4, 4, 4, 4, 4, 4, 0, 0]
  slots := [{ factorySlot with enabled := true, period := 50 }, factorySlot, factorySlot,
    { enabled := true, full := false, mask := 0x030, period := 10, phase := 2, sleepEligible := false },
    factorySlot, factorySlot, factorySlot, factorySlot] }

/-- The part of the example; the chain master's tag stands at 7. -/
def busy : State := (running.setProf busyProfile).setChn { running.chn with sweepTag := 7 }

/-- The example with the schedule RUNNING and both countdowns at 0. -/
def busyDue : State := busy.setSch { schReset with
  running := true, countdowns := [some 0, none, none, some 0, none, none, none, none] }

/-- The example at time 1: tag 8 in flight. -/
def busyOne : State := after (.slotExpiry 0) busyDue

/-- The example at time 3: slot 3 pending behind tag 8. -/
def busyThree : State := after (.slotExpiry 3) busyOne

theorem test_scheduleStart_loads_countdowns :
    (after (.scheduleStart 1) busy).sch.countdowns = [some 1, none, none, some 3, none, none, none, none] := by decide
theorem test_scheduleStop_halts :
    (after (.scheduleStop 1) busyDue).sch.running = false
    ∧ (after (.scheduleStop 1) busyDue).sch.countdowns = List.replicate 8 none := by decide
theorem test_slotExpiry_granted :
    busyOne.sch.countdowns.getD 0 none = some 50 ∧ busyOne.sch.pendSlots.getD 0 none = none
    ∧ (busyOne.sch.sweep.map fun w => (w.tag, w.source, w.requested)) = some (8, .slot 0, 0x3FF) := by decide
theorem test_slotExpiry_waits_then_overruns :
    busyThree.sch.pendSlots.getD 3 none = some 0x030 ∧ busyThree.condSet .slotOverrun = false
    ∧ (after (.slotExpiry 3) (busyThree.setSch { busyThree.sch with countdowns := busyDue.sch.countdowns })).condSet
        .slotOverrun = true := by decide
theorem test_sampleNow_drops_unpopulated :
    (after (.sampleNow 5 0xC04) busyThree).sch.pendDemand = some 0x004
    ∧ replyStatus (after (.sampleNow 5 0xC04) busyThree) = some .accepted := by decide
theorem test_sampleNow_bad_argument : replyStatus (after (.sampleNow 5 0xFC00) busyThree) = some .badArgument := by decide
theorem test_readSweep : replyStatus (after (.readSweep 5) busyThree) = some .ok := by decide

/-- R24: the broadcast records its instant and begins READING. -/
theorem test_sampleBroadcastSent :
    ((after .sampleBroadcastSent busyOne).sch.sweep.map fun w => (w.tb, w.stage)) = some (some 0, .reading) := by decide

/-- R25, and "a late module at a short period" (spec/03): the window is 40 + 66 + 192 = 298 us. -/
theorem test_conversion_window : conversionWindow busyProfile = 298 := by decide

/-- R25: the window's end sends the READ of the lowest requested position. -/
theorem test_conversionWindowEnd_reads_position_0 :
    ((after .conversionWindowEnd (after .sampleBroadcastSent busyOne)).chn.wait) = .read 0 718 := by decide

/-! ## Chain: "a module that stops answering" (spec/02) -/

/-- Positions 0 to 4: 16 cells each, 12 the last. -/
def fiveProfile : Profile := { factoryProfile with moduleCount := 5, cellCounts := [16, 16, 16, 16, 12, 0, 0, 0, 0, 0, 0, 0] }

/-- Positions 0 to 4 present, no miss. -/
def fiveModules : List ModEntry :=
  List.replicate 5 { modReset with present := true, last := .good } ++ List.replicate 7 modReset

/-- Sweep 41 reading position 3, which has missed once; position 4 is still to be read. -/
def missing : State := ((running.setProf fiveProfile).setChn { running.chn with
    st := .sweeping, sweepTag := 41, wait := .read 3 400
    modules := fiveModules.set 3 { modReset with present := true, last := .noReply, misses := 1 } }).setSch { schReset with
  sweep := some { tag := 41, source := .slot 0, requested := 0x01F, received := 0x007, tb := some 0, unreported := false, stage := .reading } }

/-- A READ reply of a position: sixteen codes 37000, the status byte and the tag given, the check as R22 says. -/
def readReply (k status tag : Byte) : List Byte :=
  let body := [0xA0, k] ++ (List.replicate 16 (le16 37000)).flatten ++ [status, tag]
  0x5A :: body ++ [crc8 body]

theorem test_reply_of_an_old_sweep :
    (after (.chainReplyComplete (readReply 3 0x80 39)) missing).modEntry 3
      = { present := true, misses := 2, last := .tagMismatch, status := some 0x80, lost := false }
    ∧ (after (.chainReplyComplete (readReply 3 0x80 39)) missing).condSet .chainError = true
    ∧ (after (.chainReplyComplete (readReply 3 0x80 39)) missing).chn.wait = .read 4 420 := by decide
theorem test_third_miss_loses_the_module :
    let s := missing.setMod 3 { present := true, misses := 2, last := .tagMismatch, status := some 0x80, lost := false }
    (after .replyWindowEnd s).modEntry 3 = { present := true, misses := 3, last := .noReply, status := some 0x80, lost := true }
    ∧ (after .replyWindowEnd s).condSet .moduleLost = true := by decide
theorem test_good_reply_writes_the_cells :
    let t := after (.chainReplyComplete (readReply 3 0x80 41)) missing
    (t.cell 48).code = some 37000 ∧ (t.cell 63).tag = 41 ∧ (t.cell 64).code = none ∧ (t.cell 53).inst = some 118 := by decide

/-- The example's CHAIN_ENUMERATE reaches position 3, which does not answer. -/
theorem test_enumeration_stops :
    let s := (running.setProf fiveProfile).setChn { running.chn with st := .enumerating, wait := .ident 3 400, modules := fiveModules }
    let t := after .replyWindowEnd s
    t.modEntry 3 = { modReset with misses := 3, last := .noReply, lost := true }
    ∧ t.modEntry 4 = { modReset with misses := 3, last := .good, lost := true }
    ∧ t.modEntry 5 = modReset ∧ t.modEntry 2 = { modReset with present := true, last := .good }
    ∧ t.chn.st = .idle ∧ t.condSet .chainError = true := by decide
theorem test_chainEnumerate_sends_ident_0 :
    (after (.chainEnumerate 4) running).chn.st = .enumerating ∧ (after (.chainEnumerate 4) running).chn.wait = .ident 0 420 := by decide
theorem test_chainPowerUpDone : (after .chainPowerUpDone State.reset).chn.powerUpEnd = none := by decide
theorem test_readModules : replyStatus (after (.readModules 4) missing) = some .ok := by decide

/-! ## Analog channels: the worked examples of spec/03 -/

/-- A ring entry at a time with a current. -/
def entry (t : Time) (i : Int) : RingEntry := { time := t, current := i, pack := 7800, link := 0, saturated := false }

theorem test_cell_instant : cellInstant fiveProfile 1000000 3 5 = 1000118 := by decide
theorem test_interpolate_rising : interpolate (entry 1000050 1500) (entry 1000150 1807) 1000118 = 1709 := by decide
theorem test_interpolate_falling : interpolate (entry 1000050 1807) (entry 1000150 1500) 1000118 = 1598 := by decide
theorem test_interpolate_halves :
    interpolate (entry 0 1000) (entry 100 1005) 50 = 1003 ∧ interpolate (entry 0 1005) (entry 100 1000) 50 = 1002 := by decide
theorem test_interpolate_across_the_wrap : interpolate (entry 4294967250 (-800)) (entry 54 (-1100)) 4 = -950 := by decide

/-- "A cell that waits, and a fault": the newest entry at 3,000,200 with current 900; cell 0 waits until 3,000,430. -/
def waitingCell : State :=
  (((running.setTim { packTime := 3000400, nextTick := 3001000 }).setProf fiveProfile).setAna { anaReset with
    ring := [entry 3000200 900], nextInstant := 3000500, outstanding := some 3000400, lost := 1 }).setAln
    [{ target := some 0, instant := 3000230, deadline := 3000430 }]

theorem test_alignDeadline_holds :
    let t := after (.alignDeadline (some 0)) waitingCell
    (t.cell 0).current = some 900 ∧ (t.cell 0).mark = some .heldNew ∧ t.aln = [] ∧ t.condSet .alignHeld = true
    ∧ t.tim.packTime = 3000430 := by decide
theorem test_samplingInstant_second_loss :
    let t := after .samplingInstant waitingCell
    t.ana.lost = 2 ∧ t.ana.fault = true ∧ t.condSet .analogFault = true ∧ t.ana.outstanding = some 3000500 := by decide
/-- A new period, 50, takes effect at the next sampling instant, which keeps its time; a deadline set before it has twice the old one. -/
theorem test_new_period_at_the_next_sampling_instant :
    let s := waitingCell.setProf { fiveProfile with period := 50 }
    ((submitAlign none 3000350 s).aln.getLast?.map AlignItem.deadline) = some 3000550
    ∧ ((submitAlign none 3000550 (after .samplingInstant s)).aln.getLast?.map AlignItem.deadline) = some 3000650
    ∧ (after .samplingInstant s).ana.nextInstant = 3000550 := by decide
theorem test_conversionDelivered_ends_the_fault :
    let s := (setCond .analogFault waitingCell).setAna { waitingCell.ana with lost := 2, fault := true, outstanding := some 3000900 }
    let t := after (.conversionDelivered 3000900 950 7800 0) s
    t.ana.ring = [entry 3000900 950] ∧ t.ana.lost = 0 ∧ t.condSet .analogFault = false := by decide
theorem test_conversionDelivered_clamps :
    let s := waitingCell.setAna { waitingCell.ana with outstanding := some 3000900 }
    ((after (.conversionDelivered 3000900 20001 10001 3) s).ana.ring.getLast?)
      = some { time := 3000900, current := 20000, pack := 10000, link := 3, saturated := true } := by decide
theorem test_overCurrentRunComplete :
    let s := running.setAna { anaReset with active := true, run := 10, latestAbove := some true }
    (after .overCurrentRunComplete s).ana.overCurrent = true ∧ (after .overCurrentRunComplete s).condSet .overCurrent = true := by decide
theorem test_readAnalog : replyStatus (after (.readAnalog 4) waitingCell) = some .ok := by decide

/-! ## Resistance: "continuing the interpolated cell" (spec/04) -/

/-- The cell before the reading of tag 120. -/
def cell53 : Cell := { cellReset with
  code := some 38472, ref := some { v := 38210, i := 409, age := 50, expired := false }, rRaw := some 196, rFilt := some 190 }

/-- A reading's voltage, then its aligned current with its mark, by slot 0. -/
def reading (v : Nat) (i : Int) (m : AlignMark) (c : Cell) : Cell :=
  takeReading factoryProfile (.slot 0) { current := some i, mark := m } { c with code := some v }

/-- The cell after tags 120 to 123. -/
def cell120 : Cell := reading 38472 1709 .interpolated cell53
/-- As above. -/
def cell121 : Cell := reading 38480 1750 .interpolated cell120
/-- As above. -/
def cell122 : Cell := reading 38475 1733 .heldOld cell121
/-- As above. -/
def cell123 : Cell := reading 38150 (-1491) .exact cell122

theorem test_resistance_formed :
    cell120.rMark = .formed ∧ cell120.rRaw = some 202 ∧ cell120.rFilt = some 193
    ∧ cell120.ref = some { v := 38472, i := 1709, age := 0, expired := false } := by decide
theorem test_resistance_small_step_and_held :
    cell121.rMark = .smallStep ∧ cell121.ref = cell120.ref ∧ cell122.rMark = .held ∧ cell122.rFilt = some 193 := by decide
theorem test_resistance_reversed :
    cell123.rMark = .formed ∧ cell123.rRaw = some 101 ∧ cell123.rFilt = some 170 := by decide
theorem test_resistance_negative :
    (reading 38290 (-2100) .interpolated cell123).rMark = .negative
    ∧ (reading 38290 (-2100) .interpolated cell123).rFilt = some 170 := by decide
theorem test_filter_halves : filterStep 2 (some 193) 187 = 191 ∧ filterStep 2 (some 193) 192 = 193 := by decide
theorem test_resistance_clamped :
    let c := reading 37310 1800 .interpolated (reading 37000 300 .interpolated cellReset)
    (c.rMark, c.rRaw, c.rFilt) = (.formed, some 207, some 207)
    ∧ (reading 20000 1550 .interpolated c).rMark = .clamped ∧ (reading 20000 1550 .interpolated c).rFilt = some 16539 := by decide
theorem test_resetReferences_with_estimates :
    let s := (running.setProf fiveProfile).setCells (running.cells.set 53 cell120)
    ((after (.resetReferences 1 0) s).cell 53).ref = none ∧ ((after (.resetReferences 1 0) s).cell 53).rFilt = some 193
    ∧ ((after (.resetReferences 1 1) s).cell 53).rFilt = none := by decide
theorem test_referenceExpiry :
    let s := (running.setProf fiveProfile).setCells (running.cells.set 53 { cell120 with
      ref := some { v := 38290, i := -2100, age := 2001, expired := false } })
    ((after (.referenceExpiry 53) s).cell 53).ref = some { v := 38290, i := -2100, age := 2001, expired := true } := by decide
/-- "If the tick is taken first and sets the expired flag, the reading finds the reference expired" (R61): one older than 2000. -/
theorem test_reading_after_the_expiring_tick :
    let old (n : Nat) := { cell53 with ref := some { v := 38210, i := 409, age := n, expired := false } }
    (reading 38472 1709 .exact (old 2001)).rMark = .noReference ∧ (reading 38472 1709 .exact (old 2000)).rMark = .formed := by decide
theorem test_readCells_ends_at_the_last_cell :
    (match replyBody (after (.readCells 1 70 16) (running.setProf fiveProfile)) with
      | some (.cells vs) => vs.length
      | _ => 0) = 6 := by decide
theorem test_readResistance_beyond_the_population :
    replyStatus (after (.readResistance 1 76 1) (running.setProf fiveProfile)) = some .badArgument := by decide

/-! ## Limits and conditions: the worked examples of spec/05 -/

/-- OV limit 42000, UV limit 28000, hysteresis 500, debounce count 3. -/
def ovProfile : Profile := { fiveProfile with hysteresis := 500, debounce := 3 }

/-- The breach state and the count after readings, one after the other. -/
def breachAfter (readings : List Nat) : BreachState × Nat :=
  let c := readings.foldl (fun c v => moveBreach ovProfile { c with code := some v }) cellReset
  (c.breach, c.breachCount)

theorem test_breach_at_the_limit_breaks_the_run :
    breachAfter [41950, 42010, 42020] = (.ovPending, 2) ∧ breachAfter [41950, 42010, 42020, 42000] = (.normal, 0) := by decide
theorem test_breach_entry_and_exit :
    breachAfter [42030, 42050, 42040] = (.ov, 0) ∧ breachAfter [42030, 42050, 42040, 41700, 41480, 41400, 41600] = (.ov, 0)
    ∧ breachAfter [42030, 42050, 42040, 41300, 41200, 41100] = (.normal, 0) := by decide
theorem test_freshnessExpiry_is_stale :
    let s := (clearCond .cellStale (running.setProf fiveProfile)).setCells
      (running.cells.set 3 { cellReset with code := some 37000, fresh := true, age := 201, staleDue := true })
    ((after (.freshnessExpiry 3) s).cell 3).fresh = false ∧ (after (.freshnessExpiry 3) s).condSet .cellStale = true := by decide

/-- CELL_OV, SEQ_FAILED and LINK_ERROR set; CELL_OV, SEQ_FAILED, CONTACTOR_FAULT and LOG_FULL enabled. -/
def threeSet : State := running.setCnd { set := 0x084001, enables := 0x014041, noticePending := false }

theorem test_clearConditions_keeps_the_live_one :
    (after (.clearConditions 9 0x4001) threeSet).cnd.set = 0x080001
    ∧ replyBody (after (.clearConditions 9 0x4001) threeSet) = some (.condSet 0x080001) := by decide
theorem test_setAlertEnable_of_a_set_condition :
    let s := running.setCnd { set := 0x080000, enables := 0x014041, noticePending := false }
    s.alert = false ∧ (after (.setAlertEnable 9 0x094041) s).alert = true
    ∧ (after (.setAlertEnable 9 0x094041) s).cnd.noticePending = true := by decide
theorem test_setAlertEnable_bit_22 : replyStatus (after (.setAlertEnable 9 0x400000) threeSet) = some .badArgument := by decide
theorem test_readConditions : replyStatus (after (.readConditions 9) threeSet) = some .ok := by decide

/-! ## Contactors: the worked examples of spec/06 -/

/-- K0 MAIN_POS, K1 MAIN_NEG, K2 PRECHARGE, with the times of the examples; K3 UNUSED. -/
def kProfile : Profile := { fiveProfile with
  moduleCount := 0
  chans := [{ role := .mainPos, pullIn := 40, holdWidth := 96, makeMax := 60, breakMax := 30, polarity := .highClosed },
    { role := .mainNeg, pullIn := 40, holdWidth := 96, makeMax := 60, breakMax := 30, polarity := .highClosed },
    { role := .precharge, pullIn := 30, holdWidth := 96, makeMax := 40, breakMax := 20, polarity := .highClosed }, factoryChan]
  sequences := [[.close 1, .skipIf (.linkAtLeast 95), .close 2, .awaitLink 95 300, .close 0, .opn 2, .sweep, .endSeq],
    [.close 1, .close 0, .endSeq], [], [], [], []] }

/-- A part at a time with K0 as given. -/
def withK0 (t : Time) (c : Chan) : State :=
  ((running.setTim { packTime := t, nextTick := t + 1000 }).setProf kProfile).setChan 0 c

/-- K0 before the example: OPEN, 1204 closes, 3 hard breaks. -/
def k0 : Chan := { chanReset with closes := 1204, hardBreaks := 3 }

/-- K0 at 5,023,000, its third CLOSED sample found. -/
def k0Making : State := withK0 5023000 { k0 with
  st := .closing, coil := .pullIn, pullIn := some 18, superv := some 38, energizeAt := 5000300, debounce := 2, edge := 5021000,
  acceptDue := true }

theorem test_close_command :
    (closeCmd 0 (withK0 5000300 k0)).chan 0
      = { k0 with st := .closing, coil := .pullIn, pullIn := some 40, superv := some 60, energizeAt := 5000300 } := by decide
theorem test_feedbackAccepted_is_the_make :
    let c := (after (.feedbackAccepted 0) k0Making).chan 0
    c.st = .closed ∧ c.lastMake = some 22700 ∧ c.closes = 1205 ∧ c.coil = .pullIn ∧ c.pullIn = some 17 := by decide
theorem test_pullInEnd_holds :
    let c := (after (.pullInEnd 0) (withK0 5040000 { k0 with st := .closed, coil := .pullIn, pullIn := some 0, closedFb := true })).chan 0
    c.coil = .hold ∧ c.st = .closed := by decide
theorem test_open_command_under_load :
    let s := (withK0 9000450 { k0 with st := .closed, coil := .hold, closedFb := true }).setAna { anaReset with ring := [entry 9000400 (-3120)] }
    ((openCmd 0 s).chan 0).st = .opening ∧ ((openCmd 0 s).chan 0).hardBreaks = 4 ∧ ((openCmd 0 s).chan 0).underLoad = true
    ∧ ((openCmd 0 s).chan 0).superv = some 30 ∧ ((openCmd 0 s).chan 0).coil = .off := by decide
theorem test_feedbackAccepted_is_the_break :
    let s := withK0 9006000 { k0 with
      st := .opening, closedFb := true, releaseAt := 9000450, underLoad := true, superv := some 25, debounce := 2, edge := 9004000,
      acceptDue := true }
    let t := after (.feedbackAccepted 0) s
    (t.chan 0).st = .opened ∧ (t.chan 0).lastBreak = some 5550
    ∧ t.log.records.map (·.body) = [.contactor 0 .opening .opened 9006000 none (some 5550) true none] := by decide
theorem test_breakMaxExpiry_is_a_weld :
    let s := withK0 7035000 { k0 with st := .opening, closedFb := true, superv := some 0 }
    ((after (.breakMaxExpiry 0) s).chan 0).st = .weldSuspect ∧ (after (.breakMaxExpiry 0) s).condSet .contactorFault = true := by decide
theorem test_settlingEnd_is_a_weld :
    let s := withK0 30000 { k0 with closedFb := true, settling := some 0 }
    ((after (.settlingEnd 0) s).chan 0).st = .weldSuspect ∧ ((after (.settlingEnd 0) s).chan 0).settling = none := by decide
theorem test_clearContactorFault :
    let s := withK0 30000 { k0 with st := .weldSuspect }
    replyStatus (after (.clearContactorFault 3 0) s) = some .ok ∧ ((after (.clearContactorFault 3 0) s).chan 0).st = .opened
    ∧ replyStatus (after (.clearContactorFault 3 1) s) = some .badArgument := by decide
theorem test_readContactors : replyStatus (after (.readContactors 3) k0Making) = some .ok := by decide

/-- R95: the third differing sample in a row waits to be accepted; the pull-in and supervision countdowns then wait for it (log 19). -/
theorem test_tick_counts_down :
    let s := (withK0 5000300 (((closeCmd 0 (withK0 5000300 k0)).chan 0))).setTim { packTime := 5000300, nextTick := 5001000 }
    let c := (after (.tick 0 false) s).chan 0
    c.pullIn = some 39 ∧ c.superv = some 59 ∧ (after (.tick 0 false) s).tim = { packTime := 5001000, nextTick := 5002000 } := by decide
theorem test_tick_starts_a_run :
    let s := withK0 5020000 { k0 with st := .closing, coil := .pullIn, pullIn := some 20, superv := some 40, energizeAt := 5000300 }
    let c := (after (.tick 1 false) s).chan 0
    c.debounce = 1 ∧ c.edge = 5021000 ∧ c.pullIn = some 19 ∧ c.superv = some 39 := by decide

/-! ## Sequences: "a precharge" (spec/07) -/

theorem test_runSequence_starts_step_0 :
    let s := (running.setTim { packTime := 20000300, nextTick := 20001000 }).setProf kProfile
    let t := after (.runSequence 6 0) s
    replyStatus t = some .accepted ∧ (t.chan 1).st = .closing ∧ (t.chan 1).coil = .pullIn
    ∧ (t.seq.run.map fun r => (r.idx, r.start, r.awaited)) = some (0, 20000300, .contactor 1) := by decide
theorem test_runSequence_empty : replyStatus (after (.runSequence 6 2) (running.setProf kProfile)) = some .badArgument := by decide

/-- Sequence S0 awaiting the link, its timer as given. -/
def awaitingLink (timer : Nat) : State :=
  ((running.setTim { packTime := 20080000, nextTick := 20081000 }).setProf kProfile).setSeq
    { seqReset with run := some { id := 0, idx := 3, start := 20050000, timer := some timer, awaited := .arrival, eventReq := false, tested := true } }

theorem test_stepTimerExpiry_fails :
    (after .stepTimerExpiry (awaitingLink 0)).seq = { run := none, last := some (.failed 0 20080000 3 .linkTimeout []) }
    ∧ (after .stepTimerExpiry (awaitingLink 0)).condSet .seqFailed = true := by decide
theorem test_arrival_completes_the_step :
    let s := (awaitingLink 200).setAna { anaReset with outstanding := some 20079900 }
    let t := after (.conversionDelivered 20079900 100 7800 7410) s
    (t.seq.run.map Run.idx) = some 4 ∧ (t.chan 0).st = .closing := by decide
theorem test_openAll_aborts :
    (after (.openAll 6) (awaitingLink 200)).seq.last = some (.failed 0 20080000 3 .aborted []) := by decide
theorem test_readRunner : replyStatus (after (.readRunner 6) (awaitingLink 200)) = some .ok := by decide

/-! ## Counters and log: the worked examples of spec/08 -/

/-- C1 counts MODULE_MISS and stands at its greatest value, with the snapshot flag clear. -/
theorem test_counter_wraps :
    let s := running.setCtr { ctrReset with counters := ctrReset.counters.set 1 { counterReset with kind := .moduleMiss, value := 16777215 } }
    (occurrence .moduleMiss s).ctr.counters[1]? = some { counterReset with kind := .moduleMiss, value := 0 }
    ∧ (occurrence .moduleMiss s).ctr.overflow = 0x02 ∧ (occurrence .moduleMiss s).condSet .counterOverflow = true := by decide
theorem test_setCounter :
    (after (.setCounter 7 2 1 1 5 9) running).ctr.counters[2]?
      = some { kind := .sweepDone, value := 5, reload := 9, snap := true, armed := false }
    ∧ replyStatus (after (.setCounter 7 2 12 1 5 9) running) = some .badArgument := by decide
theorem test_clearOverflow :
    let s := setCond .counterOverflow (running.setCtr { ctrReset with overflow := 0x03 })
    (after (.clearOverflow 7 [1]) s).ctr.overflow = 0x01 ∧ (after (.clearOverflow 7 [1]) s).condSet .counterOverflow = true
    ∧ (after (.clearOverflow 7 [1, 0]) s).condSet .counterOverflow = false := by decide
theorem test_readCounters : replyStatus (after (.readCounters 7) running) = some .ok := by decide

/-- "A fault burst near the reserve": 58 records up to 1199, S1 at a CLOSE K0 that awaits K0 in CLOSING. -/
def burst : State :=
  (((withK0 800000 { k0 with st := .closing, coil := .pullIn, pullIn := some 5, superv := some 0 }).setSeq
    { seqReset with run := some { id := 1, idx := 1, start := 0, timer := none, awaited := .contactor 0, eventReq := false, tested := false } }).setLog
    { records := (List.range 58).map fun i => { number := BitVec.ofNat 16 (1142 + i), faultClass := false, body := .update .committed 1 none }
      nextNo := 1200, threshold := 48 })

theorem test_makeMaxExpiry_burst :
    let t := after (.makeMaxExpiry 0) burst
    t.log.records.length = 60 ∧ t.log.nextNo = 1202 ∧ (t.chan 0).st = .closeFailed ∧ (t.chan 0).coil = .off
    ∧ t.seq.last = some (.failed 1 800000 1 .closeFailed []) ∧ t.condSet .logFull = false := by decide
theorem test_log_reserve :
    let t := after (.makeMaxExpiry 0) burst
    (offerRecord false (.update .failed 1 none) t).log = t.log ∧ (offerRecord false (.update .failed 1 none) t).condSet .logFull = true
    ∧ (offerRecord true (.update .failed 1 none) t).log.nextNo = 1203 := by decide
theorem test_logRelease :
    let t := after (.logRelease 8 4) burst
    t.log.records.length = 54 ∧ (t.log.records.head?.map LogRecord.number) = some 1146 ∧ t.log.nextNo = 1200
    ∧ replyBody t = some (.released 4 54) := by decide
theorem test_logRead :
    (match replyBody (after (.logRead 8 4) burst) with
      | some (.log n next thr rs) => (n, next, thr, rs.map LogRecord.number)
      | _ => (0, 0, 0, [])) = (58, 1200, 48, [1142, 1143, 1144, 1145]) := by decide

/-! ## Power: "a month in the car park" (spec/09) -/

theorem test_powerOnReset :
    let t := after .powerOnReset (burst.setPending [.hostArrival])
    t.pwr.mode = .startup ∧ t.tim.nextTick = 1000 ∧ t.seq.run = none ∧ t.pending = [.hostArrival] ∧ t.nvs.active = none
    ∧ t.condSet .noProfile = true ∧ t.condSet .tamper = true := by decide
theorem test_sleep_accepted :
    let s := running.setSch { schReset with running := true, pendSlots := some 0x001 :: List.replicate 7 none }
    let t := after (.sleep 2) s
    t.pwr.keptRun = true ∧ t.sch.suspended = true ∧ t.sch.pendSlots = List.replicate 8 none
    ∧ (t.nvs.flight.map NvFlight.op) = some .wearSave := by decide
theorem test_sleep_while_closed : replyStatus (after (.sleep 2) k0Making) = some .live := by decide

/-- In SLEEP with the timer at a value. -/
def asleep (timer : Nat) : State :=
  ((running.setPwr { pwrReset with mode := .sleep, sleepTimer := some timer, divider := 999 }).setChn
    { running.chn with st := .poweredDown }).setAna { anaReset with sampling := false }

theorem test_tick_of_the_sleep_timer :
    (after (.tick 0 false) (asleep 3600)).pwr.sleepTimer = some 3599 ∧ (after (.tick 0 false) (asleep 3600)).pwr.divider = 0 := by decide
theorem test_sleepTimerExpiry :
    let t := after .sleepTimerExpiry (asleep 0)
    t.pwr.mode = .sleepSweep ∧ t.chn.st = .powering ∧ t.ana.sampling = true ∧ t.pwr.level2 = true := by decide
theorem test_hostArrival_wakes :
    let t := after .hostArrival (asleep 5)
    t.pwr.mode = .waking ∧ t.pwr.lastWake = some { host := true, tamper := false, breach := none } := by decide
theorem test_wakePulseEnd :
    (after .wakePulseEnd (running.setPwr { running.pwr with wakePulse := some 2000 })).pwr.wakePulse = none := by decide
theorem test_saveWear : replyStatus (after (.saveWear 2) running) = some .accepted
    ∧ ((after (.saveWear 2) running).nvs.flight.map NvFlight.op) = some .wearSave := by decide

/-! ## Updates and tamper: "an update interrupted by tamper" (spec/10) -/

/-- Floor 7, active generation 12, latch clear, count 3; slot B current. -/
def before : State :=
  (running.setNvs { running.nvs with
    sel := .ended, anchor := { seq := 40, floor := 7, activeGen := 12, latched := false, count := 3 }, curAnchor := .b
    active := some .a, statusA := .valid, statusB := .belowFloor }).setTmp { tmpReset with count := 3 }

/-- RECEIVING version 8, length 3000, with a count of bytes received. -/
def receiving (n : Nat) : State :=
  before.setUpd { updReset with st := .receiving, version := 8, length := 3000, received := n }

/-- The commit at 129 ms: body page 28 in flight, the eleventh ASSERTED sample found. -/
def committing : State :=
  ((before.setNvs { before.nvs with
      flight := some { op := .bankCommit .b 13, step := .body .b 27, ends := 132000, void := false }, statusB := .incomplete }).setUpd
    { updReset with st := .committing, version := 8, length := 3000, target := some (.b, 13) }).setTmp
    { tmpReset with count := 3, run := 10, acceptDue := true }

theorem test_updateBegin : replyStatus (after (.updateBegin 1 8 3000 0) before) = some .ok
    ∧ replyStatus (after (.updateBegin 1 7 3000 0) before) = some .rollback := by decide
theorem test_updateChunk_out_of_order :
    replyStatus (after (.updateChunk 1 1280 (List.replicate 128 1)) (receiving 1408)) = some .outOfOrder
    ∧ replyBody (after (.updateChunk 1 1280 (List.replicate 128 1)) (receiving 1408)) = some (.received 1408) := by decide
theorem test_updateChunk_last :
    replyStatus (after (.updateChunk 1 2944 (List.replicate 60 1)) (receiving 2944)) = some .badLength
    ∧ (after (.updateChunk 1 2944 (List.replicate 56 1)) (receiving 2944)).upd.received = 3000 := by decide
theorem test_updateCommit :
    (after (.updateCommit 1) (receiving 3000)).upd.st = .verifying
    ∧ replyStatus (after (.updateCommit 1) (receiving 2944)) = some .badLength := by decide
theorem test_updateAbort : (after (.updateAbort 1) (receiving 128)).upd.st = .idle := by decide
theorem test_commit_target_and_steps :
    commitTarget before = .b ∧ bodyPages (receiving 3000) = 47 ∧ formAnchor .anchorTamper committing
      = { seq := 41, floor := 7, activeGen := 12, latched := false, count := 3 } := by decide
theorem test_tamperAccepted_stops_the_commit :
    let t := after .tamperAccepted committing
    t.tmp.latch = true ∧ t.tmp.count = 4 ∧ t.upd.stop = true ∧ t.nvs.queue = [.anchorTamper] ∧ t.condSet .tamper = true
    ∧ t.log.records.map (·.body) = [.tamper 0 4 true false] := by decide
theorem test_nvStepComplete_stops :
    let t := after .nvStepComplete (after .tamperAccepted committing)
    t.upd.st = .idle ∧ t.condSet .updateFailed = true ∧ t.tim.packTime = 132000
    ∧ (t.nvs.flight.map fun f => (f.step, f.ends))
        = some (.anchor .a { seq := 41, floor := 7, activeGen := 12, latched := true, count := 4 }, 136000) := by decide
theorem test_tamperReleaseAccepted :
    let s := before.setTmp { tmpReset with asserted := true, latch := true, acceptDue := true, run := 10 }
    (after .tamperReleaseAccepted s).tmp.asserted = false ∧ (after .tamperReleaseAccepted s).tmp.latch = true := by decide
theorem test_tamperClear :
    let s := before.setTmp { tmpReset with latch := true, count := 4 }
    replyStatus (after (.tamperClear 1) (s.setTmp { s.tmp with asserted := true })) = some .notReady
    ∧ replyStatus (after (.tamperClear 1) s) = some .accepted ∧ (after (.tamperClear 1) s).tmp.clearSt = .inFlight := by decide
theorem test_activate :
    let s := before.setUpd { updReset with mark := some { bank := .b, version := 8, gen := 13 } }
    replyStatus (after (.activate 1) before) = some .noPending ∧ replyStatus (after (.activate 1) s) = some .accepted
    ∧ (after (.activate 1) s).upd.act = .writing := by decide
theorem test_readProfileInfo : replyStatus (after (.readProfileInfo 1) before) = some .ok := by decide
theorem test_pages_read_back :
    readGen (genPage 13) = some 13 ∧ readHeader (headerPage 8 3000 5) = some (8, 3000, 5) ∧ readGen erasedPage = none
    ∧ readAnchor (anchorPage before.nvs.anchor) = some before.nvs.anchor := by decide

/-! ## Link: "a pack processor that sends too fast" (spec/11) -/

/-- READ_CONTACTORS with tag 20 is in service and its reply being sent; the notice number stands at 13. -/
def sendingA : State :=
  (running.setPli { pliReset with
    rx := .hunting, holding := [requestFrame 20 .readContactors], noticeNo := 13
    sending := some (.reply 0x10 20 { status := .ok, body := .empty }) }).setCnd
    { set := 0x80, enables := 0x80, noticePending := true }

/-- B, C and the end of A's reply. -/
def sendingB : State := after .transmitFrameEnd (after (.logRead 22 1) (after (.readConditions 21) sendingA))

theorem test_third_request_is_lost :
    (after (.logRead 22 1) (after (.readConditions 21) sendingA)).pli.holding.map InFrame.tag = [20, 21]
    ∧ (after (.logRead 22 1) (after (.readConditions 21) sendingA)).condSet .linkOverrun = true := by decide
theorem test_transmitFrameEnd_serves_the_next :
    sendingB.pli.holding.map InFrame.tag = [21] ∧ (match sendingB.pli.sending with
      | some (.reply ty tag _) => (ty, tag)
      | _ => (0, 0)) = (0x0B, 21) := by decide
theorem test_transmitFrameEnd_then_the_notice :
    let t := after .transmitFrameEnd sendingB
    t.pli.holding = [] ∧ t.pli.sending = some (.conditions 13 0x100080 0x80) ∧ t.pli.noticeNo = 14 ∧ t.cnd.noticePending = false := by decide

/-- The bytes of a STATUS request with tag 7 after the sync byte: no payload, its check low byte first. -/
def statusBytes : List Byte := [0x21, 7, 0] ++ le16 (crc16 [0x21, 7, 0])

theorem test_frameComplete :
    let s := running.setPli { running.pli with rx := .assembling statusBytes 1000 }
    replyStatus (after .frameComplete s) = some .ok ∧ (after .frameComplete s).pli.holding.map InFrame.tag = [7] := by decide
theorem test_frameComplete_corrupted :
    let s := running.setPli { running.pli with rx := .assembling (statusBytes.set 1 6) 1000 }
    (after .frameComplete s).condSet .linkError = true ∧ (after .frameComplete s).pli.holding = [] := by decide
theorem test_linkByteReceived :
    (after (.linkByteReceived 0xA5) running).pli.rx = .assembling [] 1000
    ∧ (after (.linkByteReceived 0x5A) running).pli.rx = .hunting := by decide
theorem test_receiverIdleWaitEnd :
    (after .receiverIdleWaitEnd (running.setPli pliReset)).pli.rx = .hunting
    ∧ (after .receiverIdleWaitEnd (running.setPli pliReset)).tim.packTime = 1000 := by decide
theorem test_frameGapTimeout :
    let s := running.setPli { running.pli with rx := .assembling [0x21] 1000 }
    (after .frameGapTimeout s).pli.rx = .hunting ∧ (after .frameGapTimeout s).condSet .linkError = true := by decide
theorem test_unknownRequest : replyStatus (after (.unknownRequest 0x24 7 []) running) = some .unknownRequest := by decide
theorem test_status_in_startup : replyStatus (after (.status 7) State.reset) = some .ok
    ∧ replyStatus (after (.readSweep 7) State.reset) = some .busy := by decide
theorem test_identify : replyStatus (after (.identify 7) running) = some .ok := by decide
theorem test_resetPart :
    replyStatus (after (.resetPart 7) running) = some .ok ∧ (after .transmitFrameEnd (after (.resetPart 7) running)).pwr.mode = .startup
    ∧ replyStatus (after (.resetPart 7) k0Making) = some .live := by decide

/-- R190 lists bank A, bank B, factory; R186 lists ASSERTED, RELEASED. -/
theorem test_source_and_level_codes :
    sourceCode (some .b) = 1 ∧ sourceCode none = 2 ∧ levelCode true = 0 ∧ levelCode false = 1 := by
  decide

/-- A last outcome DONE has no step, reason or terms; GATE has all three (R115). -/
theorem test_outcome_presence :
    (SeqOutcome.done 3 7).bytes = [0, 3, 0, 7, 0, 0, 0, 0, 0, 0]
    ∧ (SeqOutcome.failed 3 7 2 .gate [.allFresh]).bytes.take 3 = [7, 3, 1]
    ∧ (SeqOutcome.failed 3 7 2 .aborted []).bytes = [3, 3, 1, 7, 0, 0, 0, 2, 9, 0] := by
  decide

/-- R202 and R198: the frames of a notice, its check as R191 says. -/
theorem test_conditions_notice_bytes :
    (OutFrame.conditions 13 0x100080 0x80).bytes.take 12
      = [0xA5, 0x40, 13, 8, 0x80, 0, 0x10, 0, 0x80, 0, 0, 0] := by decide

/-! ## The step -/

theorem test_step_takes_the_front :
    (match step (running.setPending [.hostArrival, .readSweep 1]) with
      | .next t => t.pending
      | _ => []) = [.readSweep 1] := by decide
theorem test_step_idles : (match step running with
      | .next t => t.tim.packTime
      | _ => 0) = 1 := by decide

/-! ## Witnesses: for each obligation with hypotheses, states and operands that meet them, clause by clause -/

theorem witness_StepTakesTheFrontCommand : (running.setPending [.hostArrival]).pending = [.hostArrival] := rfl

theorem witness_EndOfEventInRunTouchesEngineAndLink :
    (running.inRun ∧ (running.setUpd { updReset with act := .writing }).inRun)
    ∧ (running.setPwr { pwrReset with mode := .sleep }).pwr.mode = .sleep
    ∧ (running.setPwr { pwrReset with mode := .sleepSweep }).pwr.mode = .sleepSweep ∧ running.upd.act ≠ .owed := by
  unfold State.inRun
  decide

/-- A step that changes a coil: K0's DROPOUT. -/
def dropping : State := (withK0 5023000 { k0 with
  st := .closed, coil := .hold, closedFb := true, debounce := 2, acceptDue := true }).setPending [.feedbackAccepted 0]

theorem witness_CoilsStayRight :
    dropping.coilsRight ∧ (∃ c ∈ dropping.kdr.chans, c.coil = .hold) ∧ ∃ t, step dropping = .next t := by
  refine ⟨?_, by decide, _, rfl⟩
  unfold State.coilsRight Chan.coilRight
  decide

/-- A step that writes a record when the numbers are about to wrap. -/
def wrapping : State := (burst.setLog
  { records := [{ number := 65534, faultClass := true, body := .update .committed 1 none },
      { number := 65535, faultClass := false, body := .update .committed 1 none }]
    nextNo := 0, threshold := 48 }).setPending [.makeMaxExpiry 0]

theorem witness_LogStaysRight : wrapping.log.right ∧ ∃ t, step wrapping = .next t :=
  ⟨⟨by decide, by decide, rfl, rfl, trivial⟩, _, rfl⟩

theorem witness_SizesStayWithinBounds :
    let s := (sendingA.setUpd { updReset with staging := [(3, 7)] }).setPending [.readConditions 21]
    s.sized ∧ s.pli.holding.length = 1 ∧ ∃ t, step s = .next t := by
  refine ⟨?_, rfl, _, rfl⟩
  unfold State.sized
  decide

/-- A state with causes that hold: population 0, the latch set, no profile, an overflow. -/
def causes : State :=
  ((((blocksReset erasedMem pinsReset [.tamperAccepted]).setPwr { pwrReset with mode := .run }).setNvs { nvsReset erasedMem with sel := .ended }).setTmp
    { tmpReset with latch := true, acceptDue := true }).setCnd { set := 0x300, enables := 0, noticePending := false }

theorem witness_ConditionsKeepShowingTheirCauses : causes.conditionsShowCauses ∧ ∃ t, step causes = .next t := by
  refine ⟨?_, _, rfl⟩
  unfold State.conditionsShowCauses
  decide

theorem witness_RequestPayloadsReadBack :
    (∀ ns, Request.clearOverflow (List.replicate 8 1) = .clearOverflow ns → ns.length ≤ 8)
    ∧ (∀ o d, Request.updateChunk 5 (List.replicate 128 1) = .updateChunk o d → 1 ≤ d.length ∧ d.length ≤ 128)
    ∧ parseArgs 0x15 (List.replicate 8 1) = some (.clearOverflow (List.replicate 8 1))
    ∧ parseArgs 0x1B (5 :: 0 :: [9]) = some (.updateChunk 5 [9]) := by
  refine ⟨?_, ?_, by decide, by decide⟩
  · intro ns h
    cases h
    decide
  · intro o d h
    cases h
    decide

theorem witness_FramesAreJudgedByTheirCheck :
    ({ type := 0x21, tag := 7, payload := List.replicate 240 0 } : InFrame).payload.length ≤ 240
    ∧ (let check := crc16 [0x21, 7, 0]
       (statusBytes.getD 3 0 = check.setWidth 8 ∧ statusBytes.getD 4 0 = (check >>> (8 : Nat)).setWidth 8)
       ∧ ¬ ((0 : Byte) = check.setWidth 8 ∧ (0 : Byte) = (check >>> (8 : Nat)).setWidth 8)) := by decide

theorem witness_PagesReadBack :
    (65535 : Nat) < 65536 ∧ before.nvs.anchor.count < 65536
    ∧ (let w : Wear := { seq := 5, counts := [(4294967295, 0), (1, 2), (3, 4), (5, 6)] }
       w.counts.length = 4 ∧ ∀ c ∈ w.counts, c.1 < 4294967296 ∧ c.2 < 4294967296) := by decide

/-- A state of RUN with no frame in the holding; the witnesses below change single fields of it. -/
theorem witness_serving : running.serving ∧ before.serving ∧ busy.serving ∧ busyOne.serving ∧ burst.serving := by
  unfold State.serving
  decide

/-- As `running`, with the scheduler suspended. -/
def suspended : State := running.setSch { schReset with suspended := true }

theorem witness_ScheduleStartAndStop :
    suspended.serving ∧ suspended.sch.suspended = true ∧ busyDue.serving ∧ busyDue.sch.suspended = false ∧ busyDue.sch.running = true
    ∧ busy.serving ∧ busy.sch.suspended = false ∧ busy.sch.running = false := by
  unfold State.serving
  decide

/-- R14: while suspended SAMPLE_NOW is refused with BUSY, also when no populated position is left of its mask. -/
theorem test_sampleNow_suspended : replyStatus (after (.sampleNow 5 0xFC00) suspended) = some .busy := by decide

theorem witness_SampleNowAndChainEnumerate :
    suspended.serving ∧ suspended.sch.suspended = true
    ∧ busy.serving
    ∧ (0xFC00 : BitVec 16).setWidth 12 &&& popMask busy.prof = 0
    ∧ (0xC04 : BitVec 16).setWidth 12 &&& popMask busy.prof ≠ 0 ∧ busy.sch.suspended = false ∧ busy.sch.pendDemand = none
    ∧ (busy.setSch { schReset with pendDemand := some 1 }).serving
    ∧ (busy.setSch { schReset with pendDemand := some 1 }).sch.suspended = false
    ∧ busy.chn.st = .idle ∧ busy.inFlight = false
    ∧ busyOne.serving ∧ busyOne.chn.st ≠ .idle ∧ busyOne.inFlight = true := by
  unfold State.serving
  decide

theorem witness_ReportsOfSweepChainAnalogConditionsCounters : running.serving := witness_serving.1

theorem witness_ReportsOfContactorsRunnerProfile : before.serving := witness_serving.2.1

/-- `running` with the 76 cells of `fiveProfile`. -/
def five : State := running.setProf fiveProfile

theorem witness_ReadCellsAndResistanceRanges :
    five.serving ∧ population five.prof = 76 ∧ (0 : Byte).toNat = 0 ∧ 16 < (17 : Byte).toNat ∧ population five.prof ≤ (76 : Byte).toNat
    ∧ 0 < (1 : Byte).toNat ∧ (16 : Byte).toNat ≤ 16 ∧ (75 : Byte).toNat < population five.prof := by
  unfold State.serving
  decide

theorem witness_LogReadAndReleaseTheOldest :
    burst.serving ∧ (0 : Byte).toNat = 0 ∧ 4 < (5 : Byte).toNat ∧ 0 < (1 : Byte).toNat ∧ (4 : Byte).toNat ≤ 4
    ∧ burst.log.threshold ≤ (burst.log.records.drop 10).length ∧ (burst.log.records.drop 11).length < burst.log.threshold := by
  unfold State.serving
  decide

theorem witness_StatusAndIdentify :
    State.reset.pli.holding = [] ∧ State.reset.pwr.mode ≠ .sleep ∧ State.reset.pwr.mode ≠ .sleepSweep ∧ State.reset.pwr.mode ≠ .sleepEntry := by
  decide

theorem witness_ResetReferencesByScope : five.serving ∧ 1 < (2 : Byte).toNat := by
  unfold State.serving
  decide

theorem witness_ClearConditionsAndSetAlertEnable :
    threeSet.serving ∧ 2 ^ 22 ≤ (0x400000 : BitVec 32).toNat ∧ (0x3FFFFF : BitVec 32).toNat < 2 ^ 22 := by
  unfold State.serving
  decide

/-- `running` with operations waiting in the NV engine's queue. -/
def queued (q : List NvOp) : State := running.setNvs { running.nvs with queue := q }

theorem witness_SaveWearQueuesOnce :
    ((running.setKdr { kdrReset with wearSave := .queued }).serving ∧ (running.setKdr { kdrReset with wearSave := .queued }).kdr.wearSave = .queued)
    ∧ ((queued []).serving ∧ (queued []).kdr.wearSave ≠ .queued ∧ NvOp.wearSave ∉ (queued []).nvs.queue)
    ∧ ((queued (List.replicate 4 (.invalidate .a))).serving ∧ 4 ≤ (queued (List.replicate 4 (.invalidate .a))).nvs.queue.length
      ∧ NvOp.wearSave ∉ (queued (List.replicate 4 (.invalidate .a))).nvs.queue) := by
  unfold State.serving
  decide

/-- K0 in WELD_SUSPECT with a feedback. -/
def welded (fb : Bool) : State := withK0 30000 { k0 with st := .weldSuspect, closedFb := fb }

theorem witness_ClearContactorFaultChecks :
    burst.serving ∧ burst.seq.run.isSome = true
    ∧ (welded true).serving ∧ (welded true).seq.run = none ∧ 4 ≤ (4 : Byte).toNat ∧ ((welded true).chan 1).st = .opened
    ∧ ((welded true).chan 0).st = .weldSuspect ∧ ((welded true).chan 0).closedFb = true
    ∧ (welded false).serving ∧ ((welded false).chan 0).closedFb = false := by
  unfold State.serving
  decide

/-- The part of the precharge, with a mark of the closing gate failing or not. -/
def gated (oc : Bool) : State := (running.setProf kProfile).setAna { anaReset with overCurrent := oc }

theorem witness_RunSequenceChecks :
    burst.serving ∧ burst.seq.run.isSome = true
    ∧ (running.setUpd { updReset with act := .queued }).serving ∧ (running.setUpd { updReset with act := .queued }).upd.act ≠ .none
    ∧ (gated false).serving ∧ (gated false).seq.run = none ∧ (gated false).upd.act = .none ∧ 6 ≤ (6 : Byte).toNat
    ∧ (gated false).prof.sequences.getD 5 [] = [] ∧ SeqStep.close 1 ∈ (gated false).prof.sequences.getD 0 []
    ∧ failingTerms (gated true) ≠ [] ∧ (gated true).serving ∧ failingTerms (gated false) = [] := by
  unfold State.serving
  decide

theorem witness_OpenAllOpensOrAborts :
    burst.serving ∧ burst.seq.run.isSome = true ∧ k0Making.serving ∧ k0Making.seq.run = none := by
  unfold State.serving
  decide

theorem witness_SetCounterAndClearOverflow :
    running.serving ∧ 8 ≤ (8 : Byte).toNat ∧ 12 ≤ (12 : Byte).toNat ∧ (7 : Byte).toNat < 8 ∧ (11 : Byte).toNat < 12
    ∧ 8 < (List.replicate 9 (0 : Byte)).length ∧ (∃ n ∈ [(8 : Byte)], 8 ≤ n.toNat)
    ∧ (List.replicate 8 (7 : Byte)).length ≤ 8 ∧ ∀ n ∈ List.replicate 8 (7 : Byte), n.toNat < 8 := by
  unfold State.serving
  decide

/-- SLEEP_ENTRY at a stage. -/
def entryAt (n : Nat) : State := running.setPwr { running.pwr with mode := .sleepEntry, entryStage := n }

/-- Bank B pending, SLEEP_ENTRY at a stage, the activation as given. -/
def entryB (n : Nat) (act : ActState) : State :=
  (before.setPwr { running.pwr with mode := .sleepEntry, entryStage := n }).setUpd
    { updReset with mark := some { bank := .b, version := 8, gen := 13 }, act := act }

theorem witness_SleepChecksAndEntry :
    ((k0Making.serving ∧ ∃ c ∈ k0Making.kdr.chans, c.st ≠ .opened)
    ∧ (running.serving ∧ (∀ c ∈ running.kdr.chans, c.st = .opened) ∧ running.seq.run = none ∧ running.upd.act = .none
      ∧ running.nvs.flight = none ∧ running.nvs.queue = [] ∧ running.upd.st ≠ .receiving ∧ running.upd.st ≠ .verifying)
    ∧ ((queued [.wearSave]).serving ∧ (queued [.wearSave]).nvs.queue ≠ [])
    ∧ ((receiving 0).serving ∧ (receiving 0).upd.st = .receiving ∧ (receiving 0).nvs.flight = none ∧ (receiving 0).nvs.queue = []))
    ∧ ((entryAt 1).pwr.mode = .sleepEntry ∧ (entryAt 1).upd.act ≠ .owed ∧ (entryAt 1).pwr.entryStage = 1 ∧ (entryAt 1).inFlight = false
      ∧ (entryAt 1).chn.st ≠ .enumerating ∧ (entryAt 1).kdr.wearSave ≠ .queued ∧ NvOp.wearSave ∉ (entryAt 1).nvs.queue
      ∧ (entryAt 1).nvs.queue.length < 4)
    ∧ (let s := (entryAt 1).setKdr { kdrReset with wearSave := .queued }
       s.pwr.mode = .sleepEntry ∧ s.pwr.entryStage = 1 ∧ s.inFlight = false ∧ s.chn.st ≠ .enumerating ∧ s.kdr.wearSave = .queued)
    ∧ (let s := (entryAt 1).setChn { running.chn with st := .enumerating }
       s.pwr.mode = .sleepEntry ∧ s.pwr.entryStage = 1 ∧ s.chn.st = .enumerating)
    ∧ (let s := (entryAt 2).setKdr { kdrReset with wearSave := .writing }
       s.pwr.mode = .sleepEntry ∧ s.pwr.entryStage = 2 ∧ s.kdr.wearSave ≠ .idle)
    ∧ ((entryAt 2).pwr.entryStage = 2 ∧ (entryAt 2).kdr.wearSave = .idle ∧ (entryAt 2).upd.mark = none)
    ∧ ((entryB 2 .none).pwr.mode = .sleepEntry ∧ (entryB 2 .none).pwr.entryStage = 2 ∧ (entryB 2 .none).kdr.wearSave = .idle
      ∧ (entryB 2 .none).upd.mark = some { bank := .b, version := 8, gen := 13 } ∧ (entryB 2 .none).tmp.latch = false
      ∧ (entryB 2 .none).nvs.queue.length < 4)
    ∧ ((entryB 3 .queued).pwr.mode = .sleepEntry ∧ (entryB 3 .queued).pwr.entryStage = 3 ∧ (entryB 3 .queued).upd.act = .queued
      ∧ (entryB 3 .none).upd.act = .none ∧ (entryB 3 .owed).upd.act = .owed ∧ (∀ c ∈ (entryB 3 .owed).kdr.chans, c.st = .opened)
      ∧ (entryB 3 .owed).seq.run = none ∧ ∃ c ∈ ((entryB 3 .owed).setChan 0 { k0 with st := .opening }).kdr.chans, c.st ≠ .opened)
    ∧ ((entryAt 4).pwr.mode = .sleepEntry ∧ (entryAt 4).pwr.entryStage = 4 ∧ (entryAt 4).pli.holding = [] ∧ (entryAt 4).pli.sending = none
      ∧ (entryAt 4).pli.reply = none ∧ (entryAt 4).pwr.wokeFlag = false ∧ (entryAt 4).cnd.noticePending = false
      ∧ (∀ c ∈ (entryAt 4).kdr.chans, c.st = .opened) ∧ (entryAt 4).pwr.pendHost = false ∧ (entryAt 4).pwr.pendTamper = false)
    ∧ (let s := (entryAt 4).setPwr { (entryAt 4).pwr with pendTamper := true }
       s.pwr.mode = .sleepEntry ∧ s.pwr.entryStage = 4 ∧ s.pli.holding = [] ∧ s.pwr.wokeFlag = false ∧ s.pwr.pendTamper = true)
    ∧ (∃ c ∈ ((entryAt 4).setChan 3 { k0 with st := .dropout }).kdr.chans, c.st ≠ .opened)
    ∧ ((entryAt 4).setPli { pliReset with sending := some (.woke 1 none) }).pli.sending ≠ none := by
  unfold State.serving
  exact ⟨by decide, by decide, by decide, by decide, by decide, by decide, by decide, by decide, by decide, by decide, by decide, by decide⟩

theorem witness_UpdateBeginChecks :
    (before.setTmp { tmpReset with latch := true }).serving ∧ (before.setTmp { tmpReset with latch := true }).tmp.latch = true
    ∧ before.serving ∧ before.tmp.latch = false ∧ (7 : BitVec 32) ≤ before.nvs.anchor.floor ∧ before.nvs.anchor.floor < (8 : BitVec 32)
    ∧ (0 : BitVec 16).toNat = 0 ∧ 4096 < (4097 : BitVec 16).toNat ∧ (4096 : BitVec 16).toNat ≤ 4096 ∧ 0 < (1 : BitVec 16).toNat
    ∧ before.upd.st = .idle ∧ before.upd.act = .none ∧ (receiving 0).serving ∧ (receiving 0).upd.st ≠ .idle := by
  unfold State.serving
  decide

theorem witness_UpdateChunkCommitAbort :
    0 < (List.replicate 1 (7 : Byte)).length ∧ (List.replicate 128 (7 : Byte)).length ≤ 128
    ∧ before.serving ∧ before.upd.st = .idle ∧ committing.serving ∧ committing.upd.st = .committing
    ∧ (receiving 2944).serving ∧ (2943 : BitVec 16).toNat ≠ (receiving 2944).upd.received
    ∧ (2944 : BitVec 16).toNat = (receiving 2944).upd.received
    ∧ (receiving 2944).upd.length < (receiving 2944).upd.received + 57 ∧ (receiving 2944).upd.received + 56 ≤ (receiving 2944).upd.length
    ∧ Memory.wf (receiving 2944).upd.staging = true
    ∧ (receiving 3000).serving ∧ (receiving 3000).upd.received = (receiving 3000).upd.length
    ∧ (receiving 2944).upd.received ≠ (receiving 2944).upd.length
    ∧ (running.setUpd { updReset with st := .verifying }).upd.st = .verifying := by
  unfold State.serving
  decide

/-- `before` with bank B pending. -/
def pendingB : State := before.setUpd { updReset with mark := some { bank := .b, version := 8, gen := 13 } }

/-- Bank B owed, the scheduler held or not. -/
def owedB (holding : Bool) : State := pendingB.setUpd { pendingB.upd with act := .owed, holding := holding, actBank := pendingB.upd.mark }

theorem witness_ActivateChecks :
    ((before.setTmp { tmpReset with latch := true }).serving ∧ before.serving ∧ before.tmp.latch = false ∧ before.upd.mark = none
    ∧ pendingB.serving ∧ pendingB.upd.mark = some { bank := .b, version := 8, gen := 13 } ∧ pendingB.upd.st = .idle
    ∧ pendingB.upd.act = .none ∧ (∀ c ∈ pendingB.kdr.chans, c.st = .opened) ∧ pendingB.seq.run = none ∧ pendingB.nvs.queue.length < 4
    ∧ (pendingB.setUpd { pendingB.upd with act := .queued }).serving
    ∧ (∃ c ∈ (pendingB.setChan 0 { k0 with st := .opening }).kdr.chans, c.st ≠ .opened)
    ∧ (pendingB.setChan 0 { k0 with st := .opening }).serving
    ∧ 4 ≤ (pendingB.setNvs { pendingB.nvs with queue := List.replicate 4 .wearSave }).nvs.queue.length
    ∧ (pendingB.setNvs { pendingB.nvs with queue := List.replicate 4 .wearSave }).serving)
    ∧ (pendingB.pwr.mode = .run ∧ pendingB.upd.act ≠ .owed)
    ∧ (∀ h, (owedB h).pwr.mode = .run ∧ (owedB h).upd.act = .owed ∧ (owedB h).upd.holding = h
      ∧ (∀ c ∈ (owedB h).kdr.chans, c.st = .opened) ∧ (owedB h).seq.run = none ∧ (owedB h).inFlight = false
      ∧ (owedB h).chn.st ≠ .enumerating ∧ (owedB h).upd.actBank = some { bank := .b, version := 8, gen := 13 }
      ∧ (owedB h).kdr.chans.length = 4
      ∧ (∃ c ∈ ((owedB h).setChan 3 { k0 with st := .closed }).kdr.chans, c.st ≠ .opened)
      ∧ ((owedB h).setChn { before.chn with st := .enumerating }).chn.st = .enumerating)
    -- the erased bank spells no profile, so the parameters stay: the population is the same
    ∧ validImage ((owedB false).nvs.mem.bank .b).image = none
    -- an in-use OPEN channel with closed feedback is a weld, and one with open feedback is not
    ∧ (let s := ((owedB false).setProf kProfile).setChan 0 { k0 with closedFb := true }
       (s.prof.chans.getD 0 factoryChan).role ≠ .unused ∧ (s.chan 0).closedFb = true ∧ (s.chan 0).st = .opened)
    ∧ ∀ k, k < 4 → ((owedB false).chan k).closedFb = false := by
  unfold State.serving
  decide

/-- `before` with the latch set, the input released. -/
def latched : State := before.setTmp { tmpReset with latch := true, count := 4 }

theorem witness_TamperClearChecks :
    before.serving ∧ before.tmp.latch = false ∧ latched.serving ∧ latched.tmp.latch = true ∧ latched.tmp.asserted = false
    ∧ latched.tmp.run = 0 ∧ latched.tmp.clearReq = false ∧ NvOp.anchorClear ∉ latched.nvs.queue ∧ latched.nvs.queue.length < 4
    ∧ (latched.setTmp { latched.tmp with run := 1 }).serving ∧ 0 < (latched.setTmp { latched.tmp with run := 1 }).tmp.run
    ∧ (latched.setTmp { latched.tmp with clearReq := true }).serving
    ∧ (latched.setNvs { latched.nvs with queue := List.replicate 4 .wearSave }).serving
    ∧ NvOp.anchorClear ∉ (latched.setNvs { latched.nvs with queue := List.replicate 4 .wearSave }).nvs.queue := by
  unfold State.serving
  decide

theorem witness_ResetPartAfterItsReply :
    (k0Making.serving ∧ ∃ c ∈ k0Making.kdr.chans, c.st = .closing ∨ c.st = .closed)
    ∧ (running.serving ∧ (∀ c ∈ running.kdr.chans, c.st ≠ .closing ∧ c.st ≠ .closed) ∧ running.seq.run = none)
    ∧ ((after (.resetPart 7) running).pli.sending = some (.reply 0x23 7 { status := .ok, body := .empty })
      ∧ (after (.resetPart 7) running).pli.holding = [requestFrame 7 .resetPart]) := by
  unfold State.serving
  decide

/-- `running` in SLEEP_ENTRY. -/
def entering : State := running.setPwr { running.pwr with mode := .sleepEntry, entryStage := 1 }

/-- The receiver assembling. -/
def assembling (bs : List Byte) : State := running.setPli { running.pli with rx := .assembling bs 1000 }

/-- An IDENTIFY request's frame with one byte of payload, which its kind does not allow. -/
def longBytes : List Byte := [0x22, 7, 1, 0] ++ le16 (crc16 [0x22, 7, 1, 0])

theorem witness_ChecksCommonToEveryRequest :
    (running.pli.holding = [] ∧ running.pwr.mode ≠ .sleep ∧ running.pwr.mode ≠ .sleepSweep ∧ 0x23 < (0x24 : Byte).toNat
    ∧ State.reset.pli.holding = [] ∧ State.reset.pwr.mode = .startup ∧ Request.readSweep ≠ .status ∧ Request.readSweep ≠ .identify
    ∧ entering.pli.holding = [] ∧ entering.pwr.mode = .sleepEntry ∧ Request.identify ≠ .status
    ∧ running.serving ∧ (List.replicate 0 (7 : Byte)).length = 0 ∧ 128 < (List.replicate 129 (7 : Byte)).length)
    ∧ ((assembling longBytes).serving ∧ (assembling longBytes).pli.rx = .assembling longBytes 1000 ∧ frameWhole longBytes = true
      ∧ judgeFrame longBytes = some { type := 0x22, tag := 7, payload := [0] } ∧ lengthAllowed 0x22 1 = false)
    ∧ (lengthAllowed 0x1B 2 = false ∧ lengthAllowed 0x1B 3 = true ∧ lengthAllowed 0x1B 130 = true ∧ lengthAllowed 0x1B 131 = false
      ∧ lengthAllowed 0x15 8 = true ∧ lengthAllowed 0x15 9 = false ∧ parseArgs 0x21 [] = some .status)
    ∧ ¬ (1 ≤ (0 : Byte).toNat) := by
  unfold State.serving
  decide

theorem witness_RequestsWaitOrOverrun :
    sendingA.pwr.mode ≠ .sleep ∧ sendingA.pwr.mode ≠ .sleepSweep ∧ sendingA.pli.holding = [requestFrame 20 .readContactors]
    ∧ (after (.readConditions 21) sendingA).pwr.mode ≠ .sleep ∧ (after (.readConditions 21) sendingA).pwr.mode ≠ .sleepSweep
    ∧ 2 ≤ (after (.readConditions 21) sendingA).pli.holding.length ∧ (asleep 5).pwr.mode = .sleep := by
  decide

theorem witness_TickAdvancesEveryCount :
    (let s := busyDue.setSch { busyDue.sch with countdowns := [some 1, none, none, some 3, none, none, none, none] }
    s.inRun ∧ s.nothingDue ∧ s.kdr.suspended = false ∧ s.kdr.chans.length = 4 ∧ isEarlier s.tim.packTime s.tim.nextTick = true
    ∧ ∀ k, k < 4 → ¬ ((s.chan k).st = .opening ∧ (s.chan k).closedFb = false ∧ 0 < (s.chan k).debounce))
    ∧ ((asleep 5).setKdr { kdrReset with suspended := true }).kdr.suspended = true ∧ (asleep 5).nothingDue := by
  unfold State.inRun State.nothingDue
  exact ⟨by decide, by decide, by decide⟩

/-- What a tick takes first: a complete frame among it; `busyDue` has no frame to judge. The not-due hypotheses hold of `running`. -/
theorem witness_TickAdvancesEveryCount_due :
    ((assembling longBytes).pli.rx = .assembling longBytes 1000 ∧ frameWhole longBytes = true
      ∧ (∀ bs u, (dueWork (assembling longBytes)).pli.rx ≠ .assembling bs u)
      ∧ (∀ bs u, busyDue.pli.rx ≠ .assembling bs u) ∧ (dueWork busyDue).sch.countdowns[0]? = some (some 50))
    ∧ (running.sch.running = false ∧ (running.cell 0).staleDue = false ∧ (running.cell 0).ref = none ∧ running.ana.active = false
      ∧ (running.chan 0).acceptDue = false ∧ (running.chan 0).coil ≠ .pullIn ∧ (running.chan 0).st ≠ .closing
      ∧ (running.chan 0).st ≠ .opening ∧ (running.chan 0).settling ≠ some 0 ∧ running.seq.run = none ∧ running.pwr.mode ≠ .sleep
      ∧ running.tmp.acceptDue = false ∧ running.tmp.asserted = false ∧ (asleep 5).pwr.sleepTimer ≠ some 0)
    ∧ running.pending = [] ∧ (asleep 5).pwr.mode = .sleep
    ∧ (running.setTim { running.tim with packTime := 1000 }).tim.packTime = running.tim.nextTick
    ∧ (running.tim.packTime ≠ running.tim.nextTick ∧ running.tim.packTime ≠ running.ana.nextInstant ∧ running.aln = [] ∧ running.chn.wait = .nothing
      ∧ running.chn.powerUpEnd = none ∧ running.nvs.flight = none ∧ running.pwr.wakePulse = none ∧ running.pli.rx = .hunting) := by
  refine ⟨⟨rfl, by decide, ?_, ?_, by decide⟩, by decide, by decide⟩
  · intro bs u h
    cases h
  · intro bs u h
    cases h

theorem witness_ArbiterGrantsInOrder :
    busyOne.inFlight = true ∧ suspended.sch.suspended = true
    ∧ (running.setChn { running.chn with st := .enumerating }).chn.st = .enumerating
    ∧ busy.inFlight = false ∧ busy.chn.st ≠ .enumerating ∧ busy.sch.suspended = false
    ∧ busy.sch.pendEvent = none ∧ busy.sch.pendDemand = none ∧ (∀ x ∈ busy.sch.pendSlots, x = none)
    ∧ (let s := busy.setSch { schReset with pendEvent := some 1, pendDemand := some 2 }
       s.inFlight = false ∧ s.sch.suspended = false ∧ s.sch.pendEvent = some 1)
    ∧ (let s := busy.setSch { schReset with pendDemand := some 2 }
       s.inFlight = false ∧ s.sch.pendEvent = none ∧ s.sch.pendDemand = some 2)
    ∧ (let s := busy.setSch { schReset with pendSlots := List.replicate 7 none ++ [some 4] }
       s.inFlight = false ∧ s.sch.pendSlots[7]? = some (some 4) ∧ ∀ j, j < 7 → s.sch.pendSlots[j]? = some none) := by
  decide

theorem witness_SlotExpiryLaunchesOrOverruns :
    (0 < 8 ∧ 3 < 8) ∧ busyDue.sch.running = true ∧ busyDue.sch.countdowns[0]? = some (some 0) ∧ busyDue.sch.countdowns[3]? = some (some 0)
    ∧ effectiveMask busyDue.prof (busyDue.prof.slots.getD 0 factorySlot) ≠ 0 ∧ busyDue.sch.pendSlots.getD 0 none = none
    ∧ busyDue.sch.sweep = none
    ∧ (let s := busyDue.setProf { busyProfile with moduleCount := 4 }
       s.sch.running = true ∧ s.sch.countdowns[3]? = some (some 0)
       ∧ effectiveMask s.prof (s.prof.slots.getD 3 factorySlot) = 0)
    ∧ (let s := busyThree.setSch { busyThree.sch with countdowns := busyDue.sch.countdowns }
       s.sch.running = true ∧ s.sch.pendSlots.getD 3 none ≠ none
       ∧ (s.sch.sweep.map fun w => (w.source, decide (w.stage = .done))) = some (.slot 0, false)) := by
  decide

theorem witness_FreshnessAndReferenceExpire :
    ((five.setCell 75 { cellReset with fresh := true, staleDue := true }).cell 75).staleDue = true
    ∧ ((five.setCell 75 { cell53 with ref := some { v := 1, i := 2, age := 2001, expired := false } }).cell 75).ref
        = some { v := 1, i := 2, age := 2001, expired := false }
    ∧ five.prof.refMaxAge < 2001 := by
  decide

theorem witness_BroadcastAndConversionWindow :
    (∃ w, busyOne.sch.sweep = some w ∧ w.stage = .broadcasting)
    ∧ (∃ w, (after .sampleBroadcastSent busyOne).chn.wait = .window 298 ∧ (after .sampleBroadcastSent busyOne).sch.sweep = some w
      ∧ nextPosition w.requested 0 0)
    ∧ ((asleep 0).pwr.mode = .sleep ∧ running.pwr.mode ≠ .sleep ∧ (running.tim.packTime - (running.tim.packTime + 1)).toInt < 0
      -- later by half of the 32-bit range less one, and earlier by half of it
      ∧ (running.tim.packTime - (running.tim.packTime + 0x7FFFFFFF)).toInt < 0
      ∧ (running.tim.packTime - (running.tim.packTime + 0x80000000)).toInt < 0
      ∧ 0 ≤ (running.tim.packTime - running.tim.packTime).toInt ∧ 0 ≤ (running.tim.packTime - (running.tim.packTime + 0x80000001)).toInt) := by
  refine ⟨⟨_, rfl, rfl⟩, ⟨_, rfl, rfl, le_refl _, by decide, by decide, ?_⟩, by decide⟩
  intro i _ h
  omega

/-- The start-up enumeration of the example at position 3. -/
def enumerating : State :=
  five.setChn { five.chn with st := .enumerating, wait := .ident 3 400, modules := fiveModules }

theorem witness_BroadcastAndConversionWindow_frames :
    (∃ w, busyOne.sch.sweep = some w ∧ w.stage = .broadcasting) ∧ busyOne.chn.wait = .nothing ∧ missing.chn.wait = .read 3 400
    ∧ enumerating.chn.wait = .ident 3 400 ∧ (after .sampleBroadcastSent busyOne).chn.wait = .window 298
    ∧ running.chn.wait = .nothing ∧ running.sch.sweep = none :=
  ⟨⟨_, rfl, rfl⟩, by decide⟩

theorem witness_ReadReplyIsTakenByItsOutcome :
    (∃ w, missing.sch.sweep = some w ∧ w.tb = some 0 ∧ nextPosition w.requested (3 + 1) 4 ∧ missing.inRun
    ∧ missing.chn.wait = .read 3 400 ∧ 3 < missing.chn.modules.length ∧ (readReply 3 0x80 41).length = 38
    ∧ (readReply 3 0x80 41).getD 36 0 = missing.chn.sweepTag ∧ (readReply 3 0x80 39).getD 36 0 ≠ missing.chn.sweepTag
    ∧ crc8 (((readReply 3 0x80 41).take 37).drop 1) = (readReply 3 0x80 41).getD 37 0
    ∧ 15 < cellsAt missing.prof 3 ∧ cellBase missing.prof 3 + 15 < missing.cells.length)
    ∧ ((judgeRead 41 3 (readReply 3 0x80 41)).outcome = .good ∧ (judgeRead 41 3 (readReply 3 0x80 39)).outcome ≠ .good)
    -- a reply of another sweep, one without the sample-held flag, and one of another position
    ∧ ((judgeRead 41 3 (readReply 3 0x80 39)).outcome = .tagMismatch ∧ (judgeRead 41 3 (readReply 3 0 41)).outcome = .tagMismatch
      ∧ (judgeRead 41 3 (readReply 4 0x80 41)).outcome = .badCrc)
    ∧ ((missing.setCell 48 { cellReset with fresh := true, staleDue := true }).cell 48).staleDue = true
    ∧ (missing.cell 48).staleDue = false ∧ (missing.cell 48).inst = none
    ∧ ((missing.setCell 48 { cellReset with inst := some 7 }).cell 48).inst = some 7
    ∧ ∃ w, missing.sch.sweep = some w ∧ ∀ j, 5 ≤ j → j < 12 → w.requested.getLsbD j = false := by
  refine ⟨⟨_, rfl, rfl, ⟨le_refl _, by decide, by decide, ?_⟩, ?_⟩, by decide, by decide, by decide, by decide, by decide, by decide,
    _, rfl, ?_⟩
  · intro i h1 h2
    omega
  · unfold State.inRun
    decide
  · intro j h1 h2
    exact (by decide : ∀ j, j < 12 → 5 ≤ j → (0x01F : ModMask).getLsbD j = false) j h2 h1

theorem witness_ReplyWindowEndIsAMissOrEndsEnumeration :
    (∃ w, missing.sch.sweep = some w ∧ nextPosition w.requested (3 + 1) 4 ∧ missing.inRun ∧ missing.chn.wait = .read 3 400
      ∧ 3 < missing.chn.modules.length)
    ∧ (enumerating.inRun ∧ enumerating.chn.wait = .ident 3 400 ∧ enumerating.chn.modules.length = 12 ∧ 3 < enumerating.prof.moduleCount)
    ∧ (let s := enumerating.setChn { enumerating.chn with wait := .ident 5 400 }
       s.chn.wait = .ident 5 400 ∧ s.prof.moduleCount ≤ 5)
    ∧ State.reset.pwr.mode = .startup ∧ running.pwr.mode ≠ .startup ∧ running.pwr.mode ≠ .sleepSweep
    ∧ ({ chnReset with downWanted := true } : Chn).downWanted = true ∧ chnReset.downWanted = false ∧ chnReset.readyOwed = false
    ∧ ({ chnReset with readyOwed := true } : Chn).readyOwed = true := by
  refine ⟨⟨_, rfl, ⟨le_refl _, by decide, by decide, ?_⟩, ?_⟩, ?_, by decide⟩
  · intro i h1 h2
    omega
  · unfold State.inRun
    decide
  · unfold State.inRun
    decide

/-- An IDENT reply of a position with a status byte. -/
def identReply (k status : Byte) : List Byte := 0x5A :: [0xB0, k, status] ++ [crc8 [0xB0, k, status]]

theorem witness_IdentReplyAndChainPowerUp :
    (enumerating.inRun ∧ enumerating.chn.wait = .ident 3 400 ∧ 3 < 11 ∧ 3 < enumerating.chn.modules.length
      ∧ (identReply 3 0).length = 5 ∧ crc8 (((identReply 3 0).take 4).drop 1) = (identReply 3 0).getD 4 0
      ∧ (identReply 3 0).getD 1 0 = 0xB0 ∧ ((identReply 3 0).getD 2 0).toNat = 3)
    ∧ (let s := enumerating.setChn { enumerating.chn with wait := .ident 11 400 }
       s.chn.wait = .ident 11 400 ∧ (identReply 11 0).length = 5
       ∧ crc8 (((identReply 11 0).take 4).drop 1) = (identReply 11 0).getD 4 0 ∧ ((identReply 11 0).getD 2 0).toNat = 11
       ∧ ((identReply 10 0).getD 2 0).toNat ≠ 11)
    -- in WAKING, the lowest position and the highest below the last, with bytes after the reply; a reply that is not yet complete
    ∧ (let s := fun (k : Nat) =>
        (enumerating.setPwr { enumerating.pwr with mode := .waking }).setChn { enumerating.chn with wait := .ident k 400 }
       (s 0).chn.wait = .ident 0 400 ∧ (s 10).chn.wait = .ident 10 400 ∧ 5 ≤ (identReply 10 0 ++ [7]).length
       ∧ crc8 (((identReply 10 0 ++ [7]).take 4).drop 1) = (identReply 10 0 ++ [7]).getD 4 0
       ∧ ((identReply 10 0 ++ [7]).getD 2 0).toNat = 10 ∧ ((identReply 10 0).take 4).length < 5 ∧ running.chn.wait = .nothing)
    ∧ (State.reset.chn.st = .powering ∧ State.reset.chn.powerUpEnd = some 5000 ∧ State.reset.chn.downWanted = false
      ∧ State.reset.chn.readyOwed = false)
    ∧ (let s := running.setChn { chnReset with readyOwed := true }
       s.chn.st = .powering ∧ s.chn.powerUpEnd = some 5000 ∧ s.chn.downWanted = false ∧ s.chn.readyOwed = true ∧ s.pwr.mode ≠ .sleepSweep
       ∧ (s.setPwr { s.pwr with mode := .sleepSweep }).pwr.mode = .sleepSweep)
    ∧ (let s := running.setChn { chnReset with downWanted := true }
       s.chn.st = .powering ∧ s.chn.powerUpEnd = some 5000 ∧ s.chn.downWanted = true) := by
  unfold State.inRun
  decide

theorem witness_ConversionsAreStartedLostOrDelivered :
    (State.reset.ana.sampling = true ∧ State.reset.ana.outstanding = none)
    ∧ (let s := waitingCell.setAna { waitingCell.ana with lost := 0 }
       s.ana.sampling = true ∧ s.ana.outstanding.isSome = true ∧ s.ana.lost = 0)
    ∧ (waitingCell.ana.sampling = true ∧ waitingCell.ana.outstanding.isSome = true ∧ 0 < waitingCell.ana.lost
      ∧ waitingCell.ana.fault = false ∧ waitingCell.ana.readyOwed = none)
    ∧ (let s := waitingCell.setAna { waitingCell.ana with readyOwed := some 2 }
       s.ana.sampling = true ∧ s.ana.outstanding.isSome = true ∧ 0 < s.ana.lost ∧ s.ana.fault = false ∧ s.ana.readyOwed.isSome = true)
    ∧ (let s := waitingCell.setAna { waitingCell.ana with lost := 2, fault := true }
       s.ana.sampling = true ∧ s.ana.outstanding.isSome = true ∧ 0 < s.ana.lost ∧ s.ana.fault = true)
    ∧ running.pwr.mode ≠ .sleepSweep
    -- an arrival that is the second of two wanted, and one with no report owed
    ∧ (let s := running.setAna { running.ana with readyOwed := some 1 }
       (completeIfAligned (reclassify s.aln (countReady s))).ana.readyOwed = some 0)
    ∧ (completeIfAligned (reclassify running.aln running)).ana.readyOwed ≠ some 0
    ∧ waitingCell.ana.outstanding ≠ some 3000500 ∧ waitingCell.ana.outstanding = some 3000400
    ∧ (let s := waitingCell.setAna { waitingCell.ana with fault := true }
       s.ana.outstanding = some 3000400 ∧ s.ana.fault = true)
    -- of three entries, two equally close to the instant 150: the older of them
    ∧ (let dist := fun (x : RingEntry) => (timeDiff x.time 150).natAbs
       let s := waitingCell.setAna { waitingCell.ana with ring := [entry 0 1] ++ entry 100 2 :: [entry 200 3] }
       s.ana.fault = false ∧ (∀ x ∈ [entry 0 1], dist (entry 100 2) < dist x) ∧ ∀ x ∈ [entry 200 3], dist (entry 100 2) ≤ dist x)
    ∧ running.ana.ring = [] := by
  decide

/-- A state with the conversion of the instant 400 outstanding. -/
def converting (s : State) : State := s.setAna { s.ana with outstanding := some 400 }

/-- A complete over-current run. -/
def overRun (on trip : Bool) : State :=
  (running.setAna { anaReset with active := true, run := 10, overCurrent := on }).setProf { factoryProfile with tripOc := trip }

theorem witness_OverCurrentRunChangesTheCondition :
    (overRun true true).ana.active = true ∧ 0 < (overRun true true).prof.ocTime ∧ (overRun true true).prof.ocTime ≤ (overRun true true).ana.run
    ∧ (overRun true true).ana.overCurrent = true
    ∧ (overRun false false).ana.active = true ∧ (overRun false false).ana.overCurrent = false ∧ (overRun false false).prof.tripOc = false
    ∧ (overRun false true).ana.overCurrent = false ∧ (overRun false true).prof.tripOc = true ∧ (overRun false true).pwr.mode = .run := by
  decide

/-- "If the tick is taken first, the run completes, OVER_CURRENT changes state": an agreeing entry after the completing tick (R47). -/
theorem test_delivery_after_the_completing_tick :
    let t := after (.conversionDelivered 400 100 0 0) (converting (overRun false false))
    t.ana.overCurrent = true ∧ t.condSet .overCurrent = true ∧ t.ana.run = 0 ∧ t.ana.latestAbove = some false ∧ t.ana.ring.length = 1 := by
  decide

/-- `missing` with its sweep's source, received mask and stage as given. -/
def swept (src : SweepSource) (got : ModMask) (stage : SweepStage) (unreported : Bool) : State :=
  missing.setSch { missing.sch with
    sweep := some { tag := 41, source := src, requested := 0x01F, received := got, tb := some 0, unreported := unreported, stage := stage } }

/-- Sequence S0 at its SWEEP step, awaiting the sweep or not. -/
def awaitingSweep (awaited : Awaited) (req : Bool) : Run :=
  { id := 0, idx := 6, start := 0, timer := none, awaited := awaited, eventReq := req, tested := false }

theorem witness_DeadlineMakesHeldNew :
    waitingCell.aln.find? (fun x => x.target == some 0) = some { target := some 0, instant := 3000230, deadline := 3000430 }
    ∧ ((∃ w, (swept (.slot 0) 0x01F .aligning false).sch.sweep = some w ∧ w.stage = .aligning)
      ∧ (swept (.slot 0) 0x01F .aligning false).aln = []
      ∧ ((swept (.slot 0) 0x01F .aligning false).setAln waitingCell.aln).aln ≠ [] ∧ running.sch.sweep = none
      ∧ ∀ w, missing.sch.sweep = some w → w.stage ≠ .aligning)
    ∧ (SweepSource.slot 0 ≠ .sleep
      ∧ (∀ k, k < 12 → (popMask missing.prof).getLsbD k = true → (0x01F : ModMask).getLsbD k = true)
      ∧ ¬ ∀ k, k < 12 → (popMask missing.prof).getLsbD k = true → (0x00F : ModMask).getLsbD k = true)
    ∧ (maskCells missing.prof 0 = [] ∧ maskCells missing.prof 0x010 ≠ [])
    ∧ ((∃ w, (swept .event 0x01F .done false).sch.sweep = some w ∧ w.source = .event ∧ w.unreported = false)
      ∧ (∀ w, (swept .event 0x01F .done true).sch.sweep = some w → w.source ≠ .event ∨ w.unreported = true)
      ∧ running.seq.run = none
      ∧ (awaitingSweep .sweep true).awaited = .sweep ∧ (awaitingSweep .sweep true).eventReq = true ∧ (0x00F : ModMask) ≠ 0x01F
      ∧ (awaitingSweep .timer true).awaited ≠ .sweep ∧ (awaitingSweep .sweep false).eventReq = false) := by
  refine ⟨by decide, ⟨⟨_, rfl, rfl⟩, by decide, by decide, rfl, ?_⟩, by decide, by decide, ⟨_, rfl, rfl, rfl⟩, ?_, by decide⟩
  · intro w h
    cases h
    decide
  · intro w h
    cases h
    decide

/-- A ring of three entries, the second saturated. -/
def threeRing : State := waitingCell.setAna { waitingCell.ana with
  ring := [entry 100 10, { entry 200 20 with saturated := true }, entry 300 30] }

theorem witness_InterpolatedCurrentLiesBetween :
    (0 < timeDiff 4 (entry 4294967250 (-800)).time
    ∧ timeDiff 4 (entry 4294967250 (-800)).time < timeDiff (entry 54 (-1100)).time (entry 4294967250 (-800)).time
    ∧ (100 : Int) ≠ 0 ∧ 2 * ((250 : Int) - divAway 250 100 * 100).natAbs = (100 : Int).natAbs)
    ∧ ((waitingCell.setAna { waitingCell.ana with fault := true }).ana.fault = true ∧ running.ana.ring = []
      ∧ threeRing.ana.fault = false ∧ threeRing.ana.ring.head? = some (entry 100 10) ∧ threeRing.ana.ring.getLast? = some (entry 300 30))
    -- an instant before the oldest, past the newest, at the second, between the first and the second
    ∧ (isEarlier 99 100 = true ∧ isEarlier 100 100 = false ∧ isEarlier 300 301 = true ∧ isEarlier 300 300 = false
      ∧ (threeRing.ana.ring = [entry 100 10] ++ { entry 200 20 with saturated := true } :: [entry 300 30])
      ∧ (∀ x ∈ [entry 100 10], 0 < timeDiff 200 x.time) ∧ 0 < timeDiff 150 (entry 100 10).time ∧ isEarlier 150 200 = true)
    ∧ ((classify threeRing 200).isSome = true ∧ classify threeRing 301 = none)
    ∧ (3 < missing.cells.length ∧ missing.sch.sweep.isSome = true) := by
  decide

theorem witness_ResistanceOutcomes :
    SweepSource.slot 0 ≠ .sleep ∧ cell53.code = some 38472 ∧ cell53.ref = some { v := 38210, i := 409, age := 50, expired := false }
    ∧ cellReset.ref = none
    ∧ ((608 : Int) - 409).natAbs < factoryProfile.minStep ∧ factoryProfile.minStep ≤ ((609 : Int) - 409).natAbs
    ∧ divAway (1000 * ((38290 : Int) - 38150)) (-2100 - -1491) < 0 ∧ 0 ≤ divAway (1000 * ((38472 : Int) - 38210)) (1709 - 409)
    ∧ (50 ≤ factoryProfile.refMaxAge ∧ factoryProfile.refMaxAge < 2001)
    ∧ ({ v := 1, i := 2, age := 2001, expired := true } : Ref).expired = true := by
  decide

/-- A cell in a breach state with a code. -/
def inState (b : BreachState) (n v : Nat) : Cell := { cellReset with code := some v, breach := b, breachCount := n }

theorem witness_BreachMovesByDebounce :
    (((inState .ovPending 2 42001).code = some 42001 ∧ (inState .ovPending 2 42001).breach ≠ .ov ∧ (inState .ovPending 2 42001).breach ≠ .uv
      ∧ ovProfile.ovLimit < 42001)
    ∧ ((inState .normal 0 27999).range ≠ .outOfRange ∧ ¬ ovProfile.ovLimit < 27999 ∧ 27999 < ovProfile.uvLimit)
    ∧ ((inState .uvPending 1 28000).range ≠ .outOfRange ∧ ¬ ovProfile.ovLimit < 42000 ∧ ¬ 28000 < ovProfile.uvLimit)
    ∧ (inState .ov 0 41500).breach = .ov ∧ 41500 + ovProfile.hysteresis ≤ ovProfile.ovLimit
    ∧ (inState .uv 0 28500).breach = .uv ∧ ovProfile.uvLimit + ovProfile.hysteresis ≤ 28500)
    ∧ ([0, 3, 75].Nodup ∧ five.condSet .cellOv = false ∧ five.condSet .cellUv = false
      ∧ (liveCond .cellOv true five).condSet .cellOv = true
      ∧ ((five.setCells (five.cells.set 3 (inState .ov 0 43000))).populated.any fun c => c.breach == .ov) = true)
    ∧ (five.pwr.mode = .run ∧ five.seq.run = none ∧ burst.seq.run.isSome = true ∧ (asleep 5).pwr.mode ≠ .run) := by
  decide

/-- K0 in a state with an accepted feedback, a change of it found by the tick. -/
def changing (st : KState) (fb : Bool) : State := withK0 5023000 { k0 with st := st, closedFb := fb, debounce := 2, acceptDue := true }

theorem witness_AcceptedFeedbackMovesTheContactor :
    (∀ st fb, (changing st fb).inUse 0 = true ∧ (changing st fb).kdr.suspended = false ∧ ((changing st fb).chan 0).acceptDue = true
      ∧ ((changing st fb).chan 0).st = st ∧ ((changing st fb).chan 0).closedFb = fb ∧ ((changing st fb).chan 0).settling = none
      ∧ 0 < (changing st fb).kdr.chans.length)
    -- a channel that is not in use, and one that settles
    ∧ (let s := (running.setProf kProfile).setChan 3 { k0 with acceptDue := true }
       s.inUse 3 = false ∧ s.kdr.suspended = false ∧ (s.chan 3).acceptDue = true ∧ 3 < s.kdr.chans.length)
    ∧ ({ k0 with settling := some 5 } : Chan).settling.isSome = true
    -- a run toward CLOSED in OPENING, the tick's sample open
    ∧ (let s := withK0 5023000 { k0 with st := .opening, debounce := 2 }
       0 < s.kdr.chans.length ∧ (s.chan 0).st = .opening ∧ (s.chan 0).closedFb = false ∧ 0 < (s.chan 0).debounce
       ∧ (s.chanCfg 0).polarity = .highClosed ∧ s.pins.feedback.getLsbD 0 = false) := by
  refine ⟨?_, by decide, by decide, by decide⟩
  intro st fb
  refine ⟨rfl, rfl, rfl, rfl, rfl, rfl, ?_⟩
  show 0 < 4
  decide

/-- K0 with one countdown at its end. -/
def counted (c : Chan) : State := withK0 30000 c

theorem witness_ChannelCountdownsEnd :
    0 < (counted k0).kdr.chans.length
    ∧ ((counted { k0 with coil := .pullIn, pullIn := some 0 }).chan 0).coil = .pullIn
    ∧ ((counted { k0 with coil := .pullIn, pullIn := some 0 }).chan 0).pullIn = some 0
    ∧ ((counted { k0 with st := .closing, superv := some 0 }).chan 0).st = .closing
    ∧ ((counted { k0 with st := .opening, superv := some 0 }).chan 0).superv = some 0
    ∧ (counted { k0 with settling := some 0, closedFb := true }).inUse 0 = true
    ∧ ((counted { k0 with settling := some 0, closedFb := true }).chan 0).closedFb = true
    ∧ ((counted { k0 with settling := some 0, closedFb := false }).chan 0).settling = some 0
    ∧ ((counted { k0 with settling := some 0, closedFb := false }).chan 0).closedFb = false := by
  decide

/-- K0 CLOSED or CLOSING, its feedback and the newest entry's current as given. -/
def opening (st : KState) (fb : Bool) (i : Int) : State :=
  (withK0 9000450 { k0 with st := st, coil := .hold, closedFb := fb }).setAna { anaReset with ring := [entry 9000400 i] }

/-- `burst` with its event request outstanding. -/
def requesting : Run := { id := 1, idx := 1, start := 0, timer := none, awaited := .contactor 0, eventReq := true, tested := false }

theorem witness_EndingASequenceOpensTheContactors :
    (0 < 4 ∧ burst.kdr.chans.length = 4 ∧ burst.inUse 0 = true ∧ (burst.chan 0).st = .closing
    ∧ burst.seq.run
      = some { id := 1, idx := 1, start := 0, timer := none, awaited := .contactor 0, eventReq := false, tested := false })
    ∧ ((burst.setSeq { seqReset with run := some requesting }).seq.run = some requesting ∧ requesting.eventReq = true
      ∧ burst.sch.pendEvent = none ∧ burst.sch.sweep = none ∧ (burst.setSch { schReset with pendEvent := some 3 }).sch.pendEvent = some 3
      ∧ ((swept .event 0x007 .reading false).sch.sweep.map fun w => (w.source, decide (w.stage = .done))) = some (.event, false))
    ∧ ((withK0 5000300 k0).inUse 0 = true ∧ ((withK0 5000300 k0).chan 0).st = .opened ∧ (withK0 5000300 k0).inUse 3 = false)
    -- a hard break at the limit of 20000, with the feedback closed and open; no hard break below it and from CLOSING
    ∧ (∀ st fb i, (opening st fb i).inUse 0 = true ∧ 0 < (opening st fb i).kdr.chans.length ∧ ((opening st fb i).chan 0).st = st
      ∧ ((opening st fb i).chan 0).closedFb = fb ∧ ((opening st fb i).chan 0).debounce = 0
      ∧ (opening st fb i).ana.ring.getLast? = some (entry 9000400 i))
    ∧ kProfile.hardBreakLimit ≤ (-20000 : Int).natAbs ∧ ¬ kProfile.hardBreakLimit ≤ (0 : Int).natAbs := by
  refine ⟨by decide, by decide, by decide, fun st fb i => ⟨rfl, ?_, rfl, rfl, rfl, rfl⟩, by decide, by decide⟩
  show 0 < 4
  decide

/-- A run at a step of sequence 0 with its timer at 0. -/
def timedOut (sq : List SeqStep) : State :=
  ((running.setProf { kProfile with sequences := sq :: kProfile.sequences.tail }).setSeq
    { seqReset with run := some { id := 0, idx := 0, start := 0, timer := some 0, awaited := .timer, eventReq := false, tested := false } })

/-- A delivery that finds a complete run, and one that finds a timer at 0: what is taken first leaves the conversion outstanding. -/
theorem witness_ConversionsAreStartedLostOrDelivered_due :
    (let s := converting (overRun false false)
     let c := after .overCurrentRunComplete s
     (s.ana.active = true ∧ 0 < s.prof.ocTime ∧ s.prof.ocTime ≤ s.ana.run) ∧ exec .overCurrentRunComplete s = .next c
     ∧ c.seq.run = none ∧ c.ana.outstanding = some 400 ∧ c.ana.fault = false)
    ∧ (let s := converting (timedOut [.awaitLink 95 5, .endSeq])
       let d := after .stepTimerExpiry s
       s.ana.active = false ∧ (∃ r, s.seq.run = some r ∧ r.timer = some 0) ∧ exec .stepTimerExpiry s = .next d
       ∧ d.ana.outstanding = some 400 ∧ d.ana.fault = false ∧ d.seq.run = none) :=
  ⟨⟨by decide, rfl, by decide, by decide, by decide⟩, by decide, ⟨_, rfl, rfl⟩, rfl, by decide, by decide, by decide⟩

/-- Sequence S0 of the precharge with a step at its index 0, the newest entry's pack and link voltages as given. -/
def atStep (st : SeqStep) (pack link : Nat) : State :=
  ((((running.setProf { kProfile with sequences := [st, .endSeq] :: kProfile.sequences.tail }).setSeq
    { seqReset with run := some { id := 0, idx := 0, start := 0, timer := none, awaited := .arrival, eventReq := false, tested := false } })).setAna
    { anaReset with ring := [{ time := 0, current := 0, pack := pack, link := link, saturated := false }] })

theorem witness_StepTimerEndsTheStep :
    ((timedOut [.wait 5, .endSeq]).seq.run
      = some { id := 0, idx := 0, start := 0, timer := some 0, awaited := .timer, eventReq := false, tested := false }
    ∧ ((timedOut [.wait 5, .endSeq]).prof.sequences.getD 0 [])[0]? = some (.wait 5)
    ∧ ((timedOut [.awaitLink 95 5, .endSeq]).prof.sequences.getD 0 [])[0]? = some (.awaitLink 95 5)
    ∧ ((timedOut [.awaitDecay 5 5, .endSeq]).prof.sequences.getD 0 [])[0]? = some (.awaitDecay 5 5))
    -- every kind of step at the index, the newest entry's voltages at will, the gate passing and not
    ∧ (∀ st p l, ((atStep st p l).prof.sequences.getD 0 [])[0]? = some st ∧ ((atStep st p l).prof.sequences.getD 0 [])[2]? = none
      ∧ (atStep st p l).seq.run
        = some { id := 0, idx := 0, start := 0, timer := none, awaited := .arrival, eventReq := false, tested := false }
      ∧ (atStep st p l).ana.ring.getLast? = some { time := 0, current := 0, pack := p, link := l, saturated := false }
      ∧ (atStep st p l).ana.fault = false)
    ∧ (95 * 500 ≤ 100 * 475 ∧ ¬ 95 * 500 ≤ 100 * 474 ∧ 499 < 500)
    ∧ ((∀ c ∈ (atStep (.close 1) 0 0).populated, c.fresh = true) ∧ failingTerms (atStep (.close 1) 0 0) = []
      ∧ failingTerms (gated true) ≠ [])
    -- a channel in each state, also the one an OPEN step leaves at once
    ∧ (∀ st, (((atStep (.opn 0) 0 0).setChan 0 { k0 with st := st }).chan 0).st = st)
    ∧ ((openCmd 0 ((atStep (.opn 0) 0 0).setChan 0 { k0 with st := .closed })).chan 0).st = .opened
    ∧ ((openCmd 0 ((atStep (.opn 0) 0 0).setChan 0 { k0 with st := .closed, closedFb := true })).chan 0).st ≠ .opened
    -- the driver's report, to a run that awaits the channel and to one that does not, and to none
    ∧ (burst.seq.run.map Run.awaited = some (.contactor 0) ∧ (burst.prof.sequences.getD 1 [])[1]? = some (.close 0)
      ∧ Awaited.contactor 0 ≠ .contactor 1 ∧ running.seq.run = none) := by
  refine ⟨by decide, fun st p l => ⟨rfl, rfl, rfl, rfl, rfl⟩, by decide, by decide, fun st => rfl, by decide, by decide, by decide⟩

/-- SLEEP_SWEEP, the chain IDLE and the causes as given. -/
def sleepSweeping (host tamper chain : Bool) : State :=
  running.setPwr { running.pwr with
    mode := .sleepSweep, pendHost := host, pendTamper := tamper, gathered := { noBreaches with chain := chain } }

/-- WAKING at a stage, with level 1 of the resume record as given. -/
def waking (n : Nat) (level1 : Option (Bool × CondMask)) (tamper : Bool) : State :=
  running.setPwr { running.pwr with
    mode := .waking, wakeStage := n, level1 := level1, lastWake := some { host := true, tamper := tamper, breach := none } }

/-- R45, R163: a second lost conversion in a sleep sweep with nothing to read reports a fault, and the channels power down with no
conversion outstanding. -/
theorem test_fault_report_in_sleepSweep :
    let s := (sleepSweeping false false false).setAna { anaReset with outstanding := some 5, lost := 1, readyOwed := some 2 }
    let t := after .samplingInstant (s.setPwr { s.pwr with waitAna := true })
    t.pwr.mode = .sleep ∧ t.ana.outstanding = none ∧ t.ana.sampling = false := by decide

/-- R45, R165: the entry whose arrival ends a sleep sweep is no entry of the power-up that follows: two new ones are still owed. -/
theorem test_entry_that_ends_the_sleep_sweep :
    let s := (((swept .sleep 0 .aligning false).setPwr { running.pwr with mode := .sleepSweep }).setAna { anaReset with
      outstanding := some 3000400 }).setAln [{ target := none, instant := 3000400, deadline := 3000600 }]
    let t := after (.conversionDelivered 3000400 900 7800 0) s
    t.pwr.mode = .waking ∧ t.ana.readyOwed = some 2
    ∧ t.pwr.lastWake = some { host := false, tamper := false, breach := some { noBreaches with chain := true } } := by decide

theorem witness_SleepTimerHostArrivalWakePulse :
    ((asleep 0).pwr.mode = .sleep ∧ (asleep 0).pwr.sleepTimer = some 0 ∧ (asleep 0).chn.st = .poweredDown ∧ (asleep 0).ana.sampling = false
    ∧ (sleepSweeping true false true).chn.st = .idle ∧ (sleepSweeping true false true).ana.sampling = true
    ∧ (running.setPwr { running.pwr with mode := .sleepSweep }).pwr.mode = .sleepSweep
    ∧ running.pwr.mode ≠ .sleep ∧ running.pwr.mode ≠ .sleepSweep
    ∧ (running.setPwr { running.pwr with wakePulse := some 2000 }).pwr.wakePulse = some 2000)
    ∧ ((after .sleepTimerExpiry (asleep 0)).pwr.mode = .sleepSweep ∧ (after .sleepTimerExpiry (asleep 0)).pwr.waitChain = true
      ∧ (after .sleepTimerExpiry (asleep 0)).pwr.waitAna = true ∧ running.pwr.waitChain = false ∧ running.pwr.waitAna = false)
    ∧ (sleepMask factoryProfile = 0
      ∧ sleepMask { busyProfile with slots := busyProfile.slots.map fun c => { c with sleepEligible := true } } ≠ 0)
    ∧ (∀ h t c, (sleepSweeping h t c).pwr.mode = .sleepSweep ∧ (sleepSweeping h t c).pwr.pendHost = h
      ∧ (sleepSweeping h t c).pwr.pendTamper = t ∧ ((sleepSweeping h t c).pwr.gathered = noBreaches ↔ c = false)
      ∧ (sleepSweeping h t c).chn.st = .idle)
    ∧ (∀ n l t, (waking n l t).pwr.mode = .waking ∧ (waking n l t).pwr.wakeStage = n ∧ (waking n l t).pwr.level1 = l
      ∧ (waking n l t).upd.act ≠ .owed ∧ (waking n l t).chn.st = .idle ∧ (waking n l t).pwr.waitChain = false
      ∧ (waking n l t).pwr.waitAna = false
      ∧ (waking n l t).pwr.lastWake = some { host := true, tamper := t, breach := none }) := by
  refine ⟨by decide, by decide, by decide, ?_, ?_⟩
  · intro h t c
    exact ⟨rfl, rfl, rfl, by cases h <;> cases t <;> cases c <;> decide, rfl⟩
  · intro n l t
    exact ⟨rfl, rfl, rfl, by show updReset.act ≠ .owed; decide, rfl, rfl, rfl, rfl⟩

/-- A step of an operation in flight, an image of 3000 bytes staged. -/
def inFlightStep (op : NvOp) (st : NvStep) : State :=
  (receiving 3000).setNvs { before.nvs with flight := some { op := op, step := st, ends := 4000, void := false } }

theorem witness_NvStepEndWritesAndGoesOn :
    (∀ op st, (inFlightStep op st).nvs.flight = some { op := op, step := st, ends := 4000, void := false }
      ∧ (inFlightStep op st).upd.stop = false ∧ 0 < ((inFlightStep op st).upd.length + 63) / 64 ∧ (inFlightStep op st).nvs.queue.length < 6)
    ∧ (firstStep (.bankCommit .b 13) before = .erase .b
      ∧ firstStep (.anchorActivate .b 8 13) before = .anchor .a { seq := 41, floor := 8, activeGen := 13, latched := false, count := 3 }
      ∧ firstStep .anchorClear latched = .anchor .a { seq := 41, floor := 7, activeGen := 12, latched := false, count := 4 }
      ∧ firstStep (.invalidate .b) before = .wipeGen .b
      ∧ firstStep .wearSave before = .wear .a { seq := 1, counts := [(0, 0), (0, 0), (0, 0), (0, 0)] })
    ∧ (committing.nvs.flight = some { op := .bankCommit .b 13, step := .body .b 27, ends := 132000, void := false }
      ∧ (committing.setUpd { committing.upd with stop := true }).upd.stop = true)
    -- an urgent operation behind another, and an ordinary one at the front
    ∧ (let s := queued [.wearSave, .invalidate .a, .anchorTamper]
       s.nvs.flight = none ∧ s.pwr.mode ≠ .sleep ∧ s.nvs.queue = [.wearSave] ++ .invalidate .a :: [.anchorTamper]
       ∧ NvOp.wearSave ≠ .anchorTamper ∧ (∀ x, NvOp.wearSave ≠ .invalidate x))
    ∧ ((queued [.wearSave]).nvs.queue = [] ++ .wearSave :: [] ∧ (queued []).nvs.queue = [] ∧ (asleep 5).pwr.mode = .sleep)
    ∧ ((pendingB.upd.mark.map PendMark.bank) = some .b ∧ before.upd.mark = none) := by
  refine ⟨?_, by decide, by decide, ⟨rfl, by decide, rfl, by decide, fun x => by cases x <;> decide⟩, by decide, by decide⟩
  intro op st
  refine ⟨rfl, rfl, ?_, ?_⟩
  · show 0 < (3000 + 63) / 64
    decide
  · show ([] : List NvOp).length < 6
    decide

/-- The image of a profile of two modules of twelve cells, section by section as R205 lays it out; no sequence has a step. -/
def smallImage : List Byte :=
  [2, 12, 12] ++ List.replicate 10 0 ++ [1]
  ++ [1, 0, 0, 50, 0, 0, 0] ++ (List.replicate 7 [0, 0, 0, 1, 0, 0, 0]).flatten
  ++ [40, 6, 12] ++ le16 100 ++ le16 15000 ++ le16 10
  ++ le16 200 ++ le16 200 ++ le16 2000 ++ [2]
  ++ le16 42000 ++ le16 28000 ++ le16 300 ++ [2, 1, 1, 1]
  ++ (List.replicate 4 ([4, 10, 64] ++ le16 5 ++ le16 5 ++ [0])).flatten ++ le16 500
  ++ List.replicate 6 0 ++ (List.replicate 8 (List.replicate 8 0)).flatten
  ++ [48] ++ le32 0x3FFFFF ++ le16 3600 ++ le16 43000 ++ le16 27000 ++ le16 200

theorem test_smallImage_is_valid :
    ((validImage smallImage).map fun p => [p.moduleCount, p.period, p.ocLimit, p.sleepPeriod, p.selfDischarge, population p])
      = some [2, 100, 15000, 3600, 200, 24] := by decide
theorem test_truncated_image_is_not_valid : validImage (smallImage.take 200) = none := by decide

/-- VERIFYING a staged image with its declared tag and the NV engine's queue. -/
def verifying (img : List Byte) (tag : BitVec 128) (q : List NvOp) : State :=
  (before.setUpd { updReset with
    st := .verifying, tag := tag, length := img.length, staging := Memory.writeBytes [] 0 img }).setNvs { before.nvs with queue := q }

/-- The image that the verification of `smallImage` reads. -/
theorem readBytes_smallImage (tag : BitVec 128) (q : List NvOp) :
    Memory.readBytes (verifying smallImage tag q).upd.staging 0 (verifying smallImage tag q).upd.length = smallImage := by
  show Memory.readBytes (Memory.writeBytes [] 0 smallImage) 0 smallImage.length = smallImage
  decide

theorem witness_VerificationEndsOrCommits :
    (∀ img tag q, (verifying img tag q).upd.st = .verifying)
    ∧ (∀ q, Config.profileTag (Memory.readBytes (verifying smallImage (Config.profileTag smallImage) q).upd.staging 0
        (verifying smallImage (Config.profileTag smallImage) q).upd.length) = (verifying smallImage (Config.profileTag smallImage) q).upd.tag)
    ∧ validImage smallImage ≠ none
    ∧ ¬ Config.profileTag smallImage = (verifying smallImage (Config.profileTag smallImage + 1) []).upd.tag
    ∧ 4 ≤ (verifying smallImage 0 (List.replicate 4 .wearSave)).nvs.queue.length ∧ (verifying smallImage 0 []).nvs.queue.length < 4
    ∧ Memory.readBytes (verifying [] 0 []).upd.staging 0 (verifying [] 0 []).upd.length = [] ∧ validImage [] = none
    ∧ (before.nvs.active = some .a ∧ running.nvs.active = none ∧ running.upd.mark = none
      ∧ (running.setUpd { updReset with mark := pendingB.upd.mark }).upd.mark = some { bank := .b, version := 8, gen := 13 })
    ∧ (before.nvs.anchor.activeGen.toNat < 2 ^ 32 - 1 ∧ (0xFFFFFFFF : BitVec 32).toNat = 2 ^ 32 - 1)
    ∧ (running.upd.st ≠ .verifying ∧ decodeImage [] = none)
    ∧ (decodeImage smallImage).isSome = true ∧ (decodeImage (smallImage.set 0 13)).isSome = true ∧ validImage (smallImage.set 0 13) = none := by
  refine ⟨fun _ _ _ => rfl, fun q => ?_, by decide, ?_, by decide, by decide, by decide, by decide, by decide, by decide, by decide, by decide, by decide, by decide⟩
  · rw [readBytes_smallImage]
    rfl
  · intro h
    have h1 : Config.profileTag smallImage = Config.profileTag smallImage + 1 := h
    generalize Config.profileTag smallImage = x at h1
    revert h1
    simp

/-- `latched` with a clear requested, its write in flight or not. -/
def clearing (flight : Option NvFlight) : State :=
  (latched.setNvs { latched.nvs with flight := flight }).setTmp { latched.tmp with clearReq := true }

theorem witness_TamperLatchesAndCancels :
    (committing.inRun ∧ committing.tmp.acceptDue = true ∧ committing.tmp.asserted = false ∧ committing.nvs.sel ≠ .unread)
    ∧ (let s := (receiving 5).setTmp committing.tmp
       s.inRun ∧ s.tmp.acceptDue = true ∧ s.tmp.asserted = false ∧ s.nvs.sel ≠ .unread ∧ s.upd.st = .receiving)
    ∧ (let s := before.setTmp { tmpReset with asserted := true, acceptDue := true }
       s.tmp.acceptDue = true ∧ s.tmp.asserted = true)
    ∧ (running.nvs.sel = .unread)
    ∧ (NvOp.anchorTamper ∈ (queued [.anchorTamper]).nvs.queue ∧ NvOp.anchorTamper ∉ before.nvs.queue ∧ before.nvs.queue.length < 6)
    ∧ (let f : NvFlight := { op := .anchorClear, step := .anchor .a before.nvs.anchor, ends := 4000, void := false }
       before.tmp.clearReq = false ∧ (clearing (some f)).tmp.clearReq = true ∧ (clearing (some f)).nvs.flight = some f
       ∧ f.op = .anchorClear ∧ (clearing none).tmp.clearReq = true ∧ (clearing none).nvs.flight = none)
    ∧ (before.upd.st = .idle ∧ committing.upd.st = .committing ∧ committing.nvs.queue = []
      ∧ NvOp.bankCommit .b 13 ∈ (queued [.bankCommit .b 13]).nvs.queue)
    ∧ (before.upd.mark = none ∧ pendingB.upd.mark.isSome = true ∧ pendingB.nvs.queue.length < 6)
    ∧ ((pendingB.setUpd { pendingB.upd with act := .queued }).upd.act = .queued ∧ pendingB.upd.act ≠ .queued)
    ∧ (running.pwr.mode = .run ∧ entering.pwr.mode = .sleepEntry ∧ (asleep 5).pwr.mode = .sleep) := by
  unfold State.inRun
  exact ⟨by decide, by decide, by decide, by decide, by decide, by decide, by decide, by decide, by decide, by decide⟩

theorem witness_ReceiverAssemblesFrames :
    (running.setPli pliReset).pli.rx = .idleWait 1000
    ∧ (assembling []).pli.rx = .assembling [] 1000 ∧ frameWhole [] = false ∧ frameWhole [0x21, 7, 241] = false
    ∧ (assembling statusBytes).pli.rx = .assembling statusBytes 1000 ∧ frameWhole statusBytes = true
    ∧ judgeFrame statusBytes = some { type := 0x21, tag := 7, payload := [] } ∧ judgeFrame (statusBytes.set 1 6) = none
    ∧ running.pwr.mode ≠ .sleep ∧ running.pwr.mode ≠ .sleepSweep ∧ running.pli.rx = .hunting ∧ (0x5A : Byte) ≠ 0xA5
    ∧ isEarlier (running.tim.packTime - 10#32) 1000 = true
    ∧ (asleep 0).pwr.mode = .sleep ∧ (running.setPwr { running.pwr with mode := .sleepSweep }).pwr.mode = .sleepSweep
    -- the byte's start at the end of the wait or the gap itself
    ∧ (let s := (running.setTim { running.tim with packTime := 1010 }).setPli pliReset
       s.pli.rx = .idleWait 1000 ∧ s.pwr.mode ≠ .sleep ∧ s.pwr.mode ≠ .sleepSweep ∧ isEarlier (s.tim.packTime - 10#32) 1000 = false)
    ∧ (let s := (assembling [0x21]).setTim { running.tim with packTime := 1010 }
       s.pli.rx = .assembling [0x21] 1000 ∧ frameWhole [0x21] = false ∧ s.pwr.mode ≠ .sleep ∧ s.pwr.mode ≠ .sleepSweep
       ∧ isEarlier (s.tim.packTime - 10#32) 1000 = false) := by
  decide

theorem witness_TransmitEndServesTheNextFrame :
    (sendingA.pli.sending = some (.reply 0x10 20 { status := .ok, body := .empty }) ∧ (0x10 : Byte) ≠ 0x23 ∧ sendingA.pli.holding.length ≤ 1
    ∧ (after (.readConditions 21) sendingA).pli.sending = some (.reply 0x10 20 { status := .ok, body := .empty })
    ∧ (after (.readConditions 21) sendingA).pli.holding = [requestFrame 20 .readContactors, requestFrame 21 .readConditions]
    ∧ (running.setPli { running.pli with sending := some (.conditions 13 1 1) }).pli.sending = some (.conditions 13 1 1)
    ∧ (running.setPli { running.pli with sending := some (.woke 13 none) }).pli.sending = some (.woke 13 none))
    ∧ (sendingA.pli.sending.isSome = true ∧ (asleep 5).pwr.mode = .sleep)
    ∧ (running.pli.sending = none ∧ running.pwr.mode ≠ .sleep ∧ running.pwr.mode ≠ .sleepSweep ∧ running.pwr.mode ≠ .startup
      ∧ running.pli.reply = none ∧ running.pwr.wokeFlag = false ∧ running.cnd.noticePending = false)
    ∧ ((running.setPwr { running.pwr with wokeFlag := true }).pwr.wokeFlag = true
      ∧ (running.setCnd { running.cnd with noticePending := true }).cnd.noticePending = true
      ∧ (replied 7 .status .ok .empty running).pli.reply = some (.reply 0x21 7 { status := .ok, body := .empty })) := by
  exact ⟨by decide, by decide, by decide, by decide⟩

/-- A log of n records. -/
def logOf (n : Nat) : State := running.setLog
  { records := (List.range n).map fun i => { number := BitVec.ofNat 16 i, faultClass := decide (60 ≤ i), body := .update .committed 1 none }
    nextNo := BitVec.ofNat 16 n, threshold := 48 }

theorem witness_RecordsAreAdmittedByClass :
    (logOf 59).log.records.length < 60 ∧ 60 ≤ (logOf 60).log.records.length ∧ (logOf 63).log.records.length < 64
    ∧ 64 ≤ (logOf 64).log.records.length := by
  decide

/-- C7 counts MODULE_MISS and stands at its greatest value, armed or not; a sweep of one cell has been summed up. -/
def full (armed : Bool) : State :=
  (running.setCtr { ctrReset with
    counters := ctrReset.counters.set 7 { counterReset with kind := .moduleMiss, value := 16777215, armed := armed } }).setSch { schReset with
    summary := some { tag := 1, source := .demand, tb := some 0, requested := 1, received := 1, minCell := some (0, 5), maxCell := some (0, 5),
                      sum := 5, aligned := none } }

theorem witness_OccurrencesCountAndWrap :
    (EventKind.moduleMiss ≠ .none ∧ 7 < 8
      ∧ (full false).ctr.counters[7]? = some { counterReset with kind := .moduleMiss, value := 16777215, armed := false }
      ∧ (full false).ctr.counters[0]? = some counterReset ∧ counterReset.kind ≠ .moduleMiss ∧ (16777215 : BitVec 24) = BitVec.allOnes 24)
    ∧ (∀ c ∈ (full false).ctr.counters, c.armed = false)
    ∧ ((∃ c ∈ (full true).ctr.counters, c.armed = true) ∧ (full true).sch.summary.isSome = true) := by
  exact ⟨by decide, by decide, by decide⟩

/-- A list of bytes that an n-byte number spells, low byte first, spells it back. -/
theorem leNat_leBytes : ∀ n x, x < 256 ^ n → leNat (leBytes n x) = x
  | 0, x, h => by
    simp only [Nat.pow_zero, Nat.lt_one_iff] at h
    subst h
    rfl
  | n + 1, x, h => by
    have h1 : x / 256 < 256 ^ n := by
      rw [Nat.pow_succ] at h
      omega
    simp only [leBytes, leNat, leNat_leBytes n (x / 256) h1, BitVec.toNat_ofNat]
    omega

/-- The header page of an image of 213 bytes reads back whatever its tag. -/
theorem readHeader_anyTag (tag : BitVec 128) : readHeader (headerPage 8 213 tag) = some (8, 213, tag) := by
  have h : (headerPage 8 213 tag).contents 22 = some (le32 8 ++ leBytes 2 213 ++ leBytes 16 tag.toNat) := if_pos rfl
  have h2 : natAt (le32 8 ++ leBytes 2 213 ++ leBytes 16 tag.toNat) 6 16 = leNat (leBytes 16 tag.toNat) := rfl
  have h3 := leNat_leBytes 16 tag.toNat tag.isLt
  simp only [readHeader, h, Option.map_some, h2, h3, BitVec.ofNat_toNat, BitVec.setWidth_eq]
  rfl

/-- A bank with a header, a generation and the pages of `smallImage`. -/
def bankOf (tag : BitVec 128) (g : BitVec 32) : BankMem :=
  { header := headerPage 8 213 tag
    body := (List.range 4).map (fun i => .data (((smallImage ++ List.replicate 64 0xFF).drop (64 * i)).take 64)) ++ List.replicate 60 erasedPage
    gen := genPage g }

/-- `before` with two VALID banks of given generations; the active generation is 12. -/
def leftState (latch : Bool) (a b : BitVec 32) : State :=
  (before.setNvs { before.nvs with
    mem := { erasedMem with bankA := bankOf 5 a, bankB := bankOf 5 b }, statusA := .valid, statusB := .valid }).setTmp
    { before.tmp with latch := latch }

theorem witness_PowerOnResetLeavesResetValues :
    (before.nvs.flight = none ∧ (∀ st, ∃ f, (inFlightStep .wearSave st).nvs.flight = some f ∧ f.step = st)
      ∧ (∀ x, ((inFlightStep .wearSave (.erase .a)).nvs.mem.bank x).body.length = 64))
    ∧ ((5 : BitVec 32) ≠ 9 + 1 ∧ (9 : BitVec 32) ≠ 5 + 1)
    ∧ (let page := fun (n : BitVec 32) => anchorPage { before.nvs.anchor with seq := n }
       let cur := fun (m : NvMem) => currentOf ((readAnchor m.anchorA).map Anchor.seq) ((readAnchor m.anchorB).map Anchor.seq)
       cur { erasedMem with anchorA := page 41, anchorB := page 40 } = some .a
       ∧ cur { erasedMem with anchorA := page 0xFFFFFFFF, anchorB := page 0 } = some .b ∧ cur erasedMem = none)
    ∧ (let page := fun (n : BitVec 32) => wearPage { seq := n, counts := [(1, 2), (3, 4), (5, 6), (7, 8)] }
       let cur := fun (m : NvMem) => currentOf ((readWear m.wearA).map Wear.seq) ((readWear m.wearB).map Wear.seq)
       cur { erasedMem with wearA := page 3 } = some .a ∧ cur { erasedMem with wearB := page 3 } = some .b ∧ cur erasedMem = none)
    ∧ (readGen erasedBank.gen = none ∧ (bankOf 5 13).bodyBytes.take 213 = smallImage ∧ validImage smallImage ≠ none
      ∧ readGen (bankOf 5 13).gen = some 13 ∧ validImage (erasedBank.bodyBytes.take 213) = none)
    ∧ readHeader (bankOf (Config.profileTag smallImage) 13).header = some (8, 213, Config.profileTag smallImage)
    ∧ ((8 : BitVec 32) < 9 ∧ (8 : BitVec 32) ≤ 8)
    ∧ (before.tmp.held = false ∧ (before.setTmp { before.tmp with held := true }).tmp.held = true)
    ∧ (∀ l, (leftState l 13 14).nvs.queue.length < 4 ∧ (leftState l 13 14).tmp.latch = l
      ∧ (leftState l 13 14).bankStatus .a = .valid ∧ (leftState l 13 14).bankStatus .b = .valid
      ∧ (leftState l 13 14).nvs.anchor.activeGen = 12)
    -- a held tamper's anchor write waits before the selection's operations
    ∧ (let s := leftState true 13 14
       (s.setNvs { s.nvs with queue := [.anchorTamper] }).nvs.queue.length < 4)
    ∧ (∀ x, (readGen ((leftState false 13 14).nvs.mem.bank x).gen) = some (if x = .a then 13 else 14)
      ∧ (readGen ((leftState false 14 13).nvs.mem.bank x).gen) = some (if x = .a then 14 else 13)
      ∧ (readGen ((leftState false 12 12).nvs.mem.bank x).gen) = some 12
      ∧ (readGen ((leftState false 12 13).nvs.mem.bank x).gen) = some (if x = .a then 12 else 13)
      ∧ (readGen ((leftState false 13 12).nvs.mem.bank x).gen) = some (if x = .a then 13 else 12)
      ∧ (readGen ((leftState false 11 11).nvs.mem.bank x).gen) = some 11)
    ∧ (State.reset.pwr.mode = .startup ∧ State.reset.nvs.sel = .unread ∧ State.reset.upd.act ≠ .owed)
    ∧ (let s := State.reset.setNvs { State.reset.nvs with sel := .waiting }
       s.nvs.sel = .waiting ∧ s.selectionBusy = false
       ∧ (s.setNvs { s.nvs with queue := [.invalidate .a] }).selectionBusy = true)
    ∧ (let s := (State.reset.setNvs { State.reset.nvs with sel := .ended }).setChn { chnReset with st := .idle }
       let e := s.setPwr { s.pwr with wearEnded := true, enumEnded := true, settleEnded := true }
       s.pwr.mode = .startup ∧ s.nvs.sel = .ended ∧ s.pwr.enumEnded = false ∧ s.chn.st = .idle ∧ (∀ c ∈ s.kdr.chans, c.settling = none)
       ∧ (∃ c ∈ (s.setChan 0 { k0 with settling := some 5 }).kdr.chans, c.settling ≠ none)
       ∧ e.pwr.wearEnded = true ∧ e.pwr.settleEnded = true ∧ e.prof.autostart = false
       ∧ (e.setProf { factoryProfile with autostart := true }).prof.autostart = true) :=
  ⟨⟨rfl, fun _ => ⟨_, rfl, rfl⟩, fun x => by cases x <;> decide⟩,
    by decide, by decide, by decide, by decide, readHeader_anyTag _, by decide, by decide,
    fun _ => ⟨by show 0 < 4; decide, rfl, rfl, rfl, rfl⟩, by show 1 < 4; decide, fun x => by cases x <;> decide, by decide, by decide, by decide⟩

end Sys2Proof.Tests
end

section
/-! SUPPORT. Events and requests as the claims speak of them: how an instant carries pack time, what ends an event in RUN, and what a
request comes to in a part that serves it at once. -/
namespace Sys2Proof.Machine

/-! ## Pack time (R38, R39) -/

/-- In SLEEP the tick alone moves pack time (R38). -/
theorem advanceTo_of_sleep {s : State} (h : s.pwr.mode = .sleep) (t : Time) : advanceTo t s = s := if_pos h

/-- Pack time runs on to a later instant. -/
theorem advanceTo_of_later {s : State} {t : Time} (h : s.pwr.mode ≠ .sleep) (hlt : (s.tim.packTime - t).toInt < 0) :
    advanceTo t s = s.setTim { s.tim with packTime := t } := by
  have hearly : isEarlier s.now t = true := decide_eq_true hlt
  rw [advanceTo, if_neg h, if_pos hearly]

/-- Pack time does not go back. -/
theorem advanceTo_of_not_later {s : State} {t : Time} (h : s.pwr.mode ≠ .sleep) (hle : 0 ≤ (s.tim.packTime - t).toInt) :
    advanceTo t s = s := by
  have hearly : ¬ isEarlier s.now t = true := by simpa [isEarlier, timeDiff, State.now] using hle
  rw [advanceTo, if_neg h, if_neg hearly]

/-! ## The end of an event in RUN (R155, R172, R184, R196) -/

theorem pursue_of_not_owed {s : State} (h : s.upd.act ≠ .owed) : pursue s = s := by simp [pursue, h]

/-- Outside SLEEP_ENTRY no stage of sleep entry goes on (R155). -/
theorem atEntry_of_mode {s : State} (h : s.pwr.mode ≠ .sleepEntry) (n : Nat) : s.atEntry n = false := by
  simp [State.atEntry, h]

theorem entryOne_of_mode {s : State} (h : s.pwr.mode ≠ .sleepEntry) : entryOne s = s := by simp [entryOne, atEntry_of_mode h]

theorem entryTwo_of_mode {s : State} (h : s.pwr.mode ≠ .sleepEntry) : entryTwo s = s := by simp [entryTwo, atEntry_of_mode h]

theorem entryThree_of_mode {s : State} (h : s.pwr.mode ≠ .sleepEntry) : entryThree s = s := by simp [entryThree, atEntry_of_mode h]

theorem entryFour_of_mode {s : State} (h : s.pwr.mode ≠ .sleepEntry) : entryFour s = s := by simp [entryFour, atEntry_of_mode h]

theorem startupProgress_of_mode {s : State} (h : s.pwr.mode ≠ .startup) : startupProgress s = s := by simp [startupProgress, h]

theorem wakeProgress_of_mode {s : State} (h : s.pwr.mode ≠ .waking) : wakeProgress s = s := by simp [wakeProgress, h]

/-- Beginning a frame leaves the mode (R196). -/
@[simp] theorem linkPump_mode (s : State) : (linkPump s).pwr.mode = s.pwr.mode := by
  unfold linkPump beginWoke beginConditions
  dsimp only
  (repeat' split) <;> simp

/-- The beginning of a frame sets and clears no condition (R87, R196). -/
@[simp] theorem linkPump_condSet (s : State) : (linkPump s).cnd.set = s.cnd.set := by
  unfold linkPump beginWoke beginConditions
  dsimp only
  (repeat' split) <;> simp

/-- The transmit path begins nothing, or it has a frame to send (R196). -/
theorem linkPump_cases (s : State) : linkPump s = s ∨ (linkPump s).pli.sending.isSome = true := by
  unfold linkPump
  split
  · exact .inl rfl
  · split
    · exact .inr rfl
    · split
      · exact .inr rfl
      · split
        · exact .inr rfl
        · exact .inl rfl

/-- The path that has begun a frame is taken, and one that found none finds none again (R196). -/
theorem linkPump_linkPump (s : State) : linkPump (linkPump s) = linkPump s := by
  rcases linkPump_cases s with h | h
  · rw [h, h]
  · exact if_pos (by simp [h])

/-- Of what the beginning of an operation changes, the channels, the tamper debounce and latch, and the memory are no part (R172). -/
theorem nvBegin_keeps (s : State) :
    (nvBegin s).kdr.chans = s.kdr.chans ∧ (nvBegin s).nvs.mem = s.nvs.mem
    ∧ (nvBegin s).tmp.run = s.tmp.run ∧ (nvBegin s).tmp.acceptDue = s.tmp.acceptDue
    ∧ (nvBegin s).tmp.asserted = s.tmp.asserted ∧ (nvBegin s).tmp.latch = s.tmp.latch := by
  unfold nvBegin beginEffects setBankStatus
  dsimp only
  (repeat' split) <;> simp

/-- The beginning of an operation makes no switch owed (R184). -/
theorem nvBegin_not_owed {s : State} (h : s.upd.act ≠ .owed) : (nvBegin s).upd.act ≠ .owed := by
  unfold nvBegin beginEffects setBankStatus
  dsimp only
  (repeat' split) <;> simp [h]

/-- In RUN with no switch owed an event ends with the NV engine and the transmit path (R172, R196). -/
theorem finish_of_inRun {s : State} (h : s.inRun) : finish s = linkPump (nvBegin s) := by
  obtain ⟨hmode, hact⟩ := h
  dsimp only [finish]
  rw [pursue_of_not_owed (nvBegin_not_owed hact), entryOne_of_mode (by simp [hmode]), entryTwo_of_mode (by simp [hmode]),
    entryThree_of_mode (by simp [hmode]), startupProgress_of_mode (by simp [hmode]), wakeProgress_of_mode (by simp [hmode]),
    entryFour_of_mode (by simp [hmode]), linkPump_linkPump]

/-- What the end of an event in RUN leaves alone. -/
theorem finish_inRun_keeps {s : State} (h : s.inRun) :
    (finish s).sch = s.sch ∧ (finish s).chn = s.chn ∧ (finish s).ana = s.ana ∧ (finish s).cells = s.cells
    ∧ (finish s).kdr.chans = s.kdr.chans ∧ (finish s).ctr = s.ctr ∧ (finish s).log = s.log ∧ (finish s).prof = s.prof
    ∧ (finish s).cnd.set = s.cnd.set ∧ (finish s).nvs.mem = s.nvs.mem
    ∧ (finish s).tmp.run = s.tmp.run ∧ (finish s).tmp.acceptDue = s.tmp.acceptDue
    ∧ (finish s).tmp.asserted = s.tmp.asserted ∧ (finish s).tmp.latch = s.tmp.latch := by
  rw [finish_of_inRun h]
  simp [nvBegin_keeps]

/-! ## Requests that are served at once (R151, R191, R194, R195) -/

/-- The receive holding alone takes a frame that enters service. -/
@[simp] theorem held_frame (tag : Byte) (r : Request) (s : State) :
    (held tag r s).tim = s.tim ∧ (held tag r s).sch = s.sch ∧ (held tag r s).chn = s.chn ∧ (held tag r s).ana = s.ana
    ∧ (held tag r s).aln = s.aln ∧ (held tag r s).cells = s.cells ∧ (held tag r s).lim = s.lim ∧ (held tag r s).cnd = s.cnd
    ∧ (held tag r s).kdr = s.kdr ∧ (held tag r s).seq = s.seq ∧ (held tag r s).ctr = s.ctr ∧ (held tag r s).log = s.log
    ∧ (held tag r s).pwr = s.pwr ∧ (held tag r s).nvs = s.nvs ∧ (held tag r s).prof = s.prof ∧ (held tag r s).upd = s.upd
    ∧ (held tag r s).tmp = s.tmp ∧ (held tag r s).pins = s.pins ∧ (held tag r s).pending = s.pending := by
  simp [held]

theorem isRequestCode_code (r : Request) : isRequestCode r.code = true := by cases r <;> rfl

/-- A request whose payload reads back, in a part that serves it at once: its owning block's rule answers it, and the event ends with the
reply formed. -/
theorem request_of_serving {s t : State} {tag : Byte} {r : Request} {st : Status} {body : ReplyBody} (hs : s.serving)
    (hp : parseArgs r.code.toNat r.payload = some r) (ho : own r (held tag r s) = (t, { status := st, body := body })) :
    request tag r s = .next (finish (replied tag r st body t)) := by
  obtain ⟨hmode, hhold⟩ := hs
  have hans : answer (requestFrame tag r) (held tag r s) = (t, { status := st, body := body }) := by
    simp [answer, requestFrame, isRequestCode_code, hmode, Mode.serves, hp, ho]
  have hserve : serve (requestFrame tag r) (held tag r s) = replied tag r st body t := by
    simp only [serve, hans]
    rfl
  have harr : requestArrives tag r s = serve (requestFrame tag r) (held tag r s) := by
    simp only [requestArrives, frameArrives, hmode, Mode.deaf, offerFrame, hhold]
    rfl
  rw [request, harr, hserve]

end Sys2Proof.Machine
end

section
/-! SUPPORT. The sampling scheduler: what its requests answer, what the arbiter chooses, what an expiry of a slot comes to. -/
namespace Sys2Proof.Machine

/-! ## Requests of the scheduler and the chain master -/

/-- The two bytes of a 16-bit number read back as the number (R202). -/
theorem word16_leBytes (x : BitVec 16) : word16 (BitVec.ofNat 8 x.toNat) (BitVec.ofNat 8 (x.toNat / 256)) = x := by
  apply BitVec.eq_of_toNat_eq
  have hx := x.isLt
  simp only [word16, leNat, BitVec.toNat_ofNat]
  omega

theorem parseArgs_sampleNow (mask : BitVec 16) :
    parseArgs (Request.sampleNow mask).code.toNat (Request.sampleNow mask).payload = some (.sampleNow mask) := by
  show some (Request.sampleNow (word16 _ _)) = _
  rw [word16_leBytes]

/-- Settles O11: each state of the scheduler takes its own branch of the two rules. -/
theorem scheduleStartAndStop : Obligations.ScheduleStartAndStop := by
  intro s tag hs
  refine ⟨fun hsus => ⟨?_, ?_⟩, fun hsus hrun => ?_, fun hsus hrun => ?_, fun hsus => ?_⟩
  · exact request_of_serving (r := .scheduleStart) hs rfl (if_pos hsus)
  · exact request_of_serving (r := .scheduleStop) hs rfl (if_pos hsus)
  · exact request_of_serving (r := .scheduleStart) hs rfl (by simp [own, ownScheduleStart, hsus, hrun, refuse, plain])
  · exact request_of_serving (r := .scheduleStart) hs rfl
      (by simp [own, ownScheduleStart, hsus, hrun, runSchedule, startCountdowns, plain])
  · exact request_of_serving (r := .scheduleStop) hs rfl
      (by simp [own, ownScheduleStop, hsus, haltedCountdowns, plain])

/-- Settles O12: the checks of the two rules, in their order. -/
theorem sampleNowAndChainEnumerate : Obligations.SampleNowAndChainEnumerate := by
  refine ⟨fun s tag mask hs => ?_, fun s tag hs => ⟨fun hst hfl hsus => ?_, fun hno => ?_⟩⟩
  · have hparse := parseArgs_sampleNow mask
    refine ⟨fun hsus => ?_, fun hsus hm => ?_, fun hsus hm hpend => ?_, fun hsus hm hpend => ?_⟩ <;>
      refine request_of_serving hs hparse ?_
    · exact if_pos hsus
    · simp only [own, ownSampleNow, held_frame, hsus, hm, if_true, Bool.false_eq_true, if_false]
      rfl
    · simp only [own, ownSampleNow, held_frame, hsus, if_neg hm, hpend, if_true, Bool.false_eq_true, if_false]
      rfl
    · simp only [own, ownSampleNow, held_frame, hsus, if_neg hm, hpend, Option.isSome_none, Bool.false_eq_true, if_false]
      rfl
  · have hgo : s.chn.st == .idle && s.linkQuiet && !s.sch.suspended := by simp [State.linkQuiet, hst, hfl, hsus]
    exact request_of_serving (r := .chainEnumerate) hs rfl (if_pos hgo)
  · have hstop : ¬ (s.chn.st == .idle && s.linkQuiet && !s.sch.suspended) = true := by
      rcases hno with h | h | h <;> simp [State.linkQuiet, h]
    exact request_of_serving (r := .chainEnumerate) hs rfl (if_neg hstop)

/-! ## The arbiter -/

/-- A launch is pending in slot n and in none below it: it is the lowest (R9). -/
theorem lowestPending_of_first {l : List (Option ModMask)} {n : Nat} {m : ModMask} (hn : l[n]? = some (some m))
    (hlow : ∀ j, j < n → l[j]? = some none) (i : Nat) : lowestPending i l = some (i + n, m) := by
  induction l generalizing n i with
  | nil => simp at hn
  | cons x rest ih =>
    cases n with
    | zero =>
      obtain rfl : x = some m := by simpa using hn
      rfl
    | succ n =>
      obtain rfl : x = none := by simpa using hlow 0 (Nat.succ_pos n)
      have hrest := ih (n := n) (by simpa using hn) (fun j hj => by simpa using hlow (j + 1) (Nat.succ_lt_succ hj)) (i + 1)
      rw [lowestPending, hrest, Nat.add_right_comm, Nat.add_assoc]

theorem lowestPending_of_none {l : List (Option ModMask)} (h : ∀ x ∈ l, x = none) (i : Nat) : lowestPending i l = none := by
  induction l generalizing i with
  | nil => rfl
  | cons x rest ih =>
    obtain rfl := h x List.mem_cons_self
    exact ih (fun y hy => h y (List.mem_cons_of_mem _ hy)) (i + 1)

/-- Settles O35: the arbiter's guard, then the three sources in their order, then the grant. -/
theorem arbiterGrantsInOrder : Obligations.ArbiterGrantsInOrder := by
  refine ⟨fun s hbusy => if_neg ?_, fun s hfl hst hsus => ?_, fun src m s => rfl⟩
  · rcases hbusy with h | h | h <;> simp [State.linkQuiet, h]
  · have hfree : s.linkQuiet && !s.sch.suspended := by simp [State.linkQuiet, hfl, hst, hsus]
    refine ⟨fun m he => ?_, fun m he hd => ?_, fun n m he hd hn hlow => ?_, fun he hd hnone => ?_⟩
    · simp [arbiter, hfree, he]
    · simp [arbiter, hfree, he, hd]
    · simp [arbiter, hfree, he, hd, lowestPending_of_first hn hlow]
    · simp [arbiter, hfree, he, hd, lowestPending_of_none hnone]

/-! ## The expiry of a slot -/

/-- Whether the sweep in flight is slot i's own, as a property of the record that stands (R5). -/
theorem slotInFlight_iff (s : State) (i : Nat) :
    s.slotInFlight i = true ↔ ∃ w, s.sch.sweep = some w ∧ w.stage ≠ .done ∧ w.source = .slot i := by
  unfold State.slotInFlight State.inFlight
  cases s.sch.sweep <;> simp

/-- Settles O36: the expiry is due, and the three cases are the branches of its rule. -/
theorem slotExpiryLaunchesOrOverruns : Obligations.SlotExpiryLaunchesOrOverruns := by
  intro s i _ hrun hzero
  have hdue : s.slotDue i = true := by simp [State.slotDue, hrun, List.getD_eq_getElem?_getD, hzero]
  have hexec : exec (.slotExpiry i) s = .next (finish (slotExpire i s)) := by
    show Host.Outcome.next (finish (slotTaken i s)) = _
    rw [slotTaken, if_pos hdue]
  dsimp only
  rw [hexec, ← slotInFlight_iff]
  refine ⟨fun hm => ?_, fun hm hpend hown => ?_, fun hm hor => ?_⟩
  · exact congrArg (fun t => Host.Outcome.next (finish t)) (if_pos hm)
  · have hgo : (s.sch.pendSlots.getD i none).isNone && !s.slotInFlight i := by
      rw [hpend, Bool.eq_false_iff.2 hown]
      rfl
    simp only [slotExpire, effectiveMask, if_neg hm, hgo, if_true, State.setSch_sch]
  · have hstop : ¬ ((s.sch.pendSlots.getD i none).isNone && !s.slotInFlight i) = true := by
      simp only [Bool.and_eq_true, Option.isNone_iff_eq_none, Bool.not_eq_true', not_and, Bool.not_eq_false]
      exact fun h => hor.resolve_left (not_not_intro h)
    simp only [slotExpire, effectiveMask, if_neg hm, if_neg hstop]

end Sys2Proof.Machine
end

section
/-! SUPPORT. The reports of the blocks and the cell table's ranges, their bytes, and the expiries of freshness and of references. -/
namespace Sys2Proof.Machine

/-! ## Reports -/

/-- A request that changes nothing and is answered with fields. -/
theorem report_of_serving {s : State} {tag : Byte} {r : Request} {body : ReplyBody} (hs : s.serving)
    (hp : parseArgs r.code.toNat r.payload = some r) (ho : own r (held tag r s) = okWith body (held tag r s)) :
    request tag r s = .next (finish (replied tag r .ok body (held tag r s))) := request_of_serving hs hp ho

/-- Settles O13: each rule of the five is an OK with fields of the part as it stands. -/
theorem reportsOfSweepChainAnalogConditionsCounters : Obligations.ReportsOfSweepChainAnalogConditionsCounters := by
  intro s tag hs
  exact ⟨report_of_serving (r := .readSweep) hs rfl rfl, report_of_serving (r := .readModules) hs rfl rfl,
    report_of_serving (r := .readAnalog) hs rfl rfl, report_of_serving (r := .readConditions) hs rfl rfl,
    report_of_serving (r := .readCounters) hs rfl rfl⟩

/-! ## Ranges of cells -/

theorem cellRange_of_refused {p : Profile} {first count : Nat} (h : count = 0 ∨ 16 < count ∨ population p ≤ first) :
    cellRange p first count = none := if_pos h

theorem cellRange_of_granted {p : Profile} {first count : Nat} (h0 : 0 < count) (h16 : count ≤ 16) (hp : first < population p) :
    cellRange p first count = some ((List.range (min count (population p - first))).map fun i => first + i) :=
  if_neg (by omega)

/-! ## Bytes of the two replies (R202) -/

/-- A number's bytes, low byte first, are its digits to base 256. -/
theorem leBytes_eq_map (n x : Nat) : leBytes n x = (List.range n).map fun j => BitVec.ofNat 8 (x / 256 ^ j) := by
  induction n generalizing x with
  | zero => rfl
  | succ n ih =>
    rw [leBytes, ih, List.range_succ_eq_map, List.map_cons, List.map_map]
    simp [Function.comp_def, Nat.pow_succ', Nat.div_div_eq_div_mul]

/-- A current's bytes: two's complement in 16 bits, zeros for an absent one. -/
theorem currentBytes_eq (i : Option Int) :
    currentBytes i = (List.range 2).map fun j => BitVec.ofNat 8 (((i.getD 0) % 65536).toNat / 256 ^ j) := by
  rw [currentBytes, le16, leBytes_eq_map, BitVec.toNat_ofInt]
  rfl

/-- One byte of a number is the number modulo 256. -/
theorem leBytes_one (x : Nat) : ((List.range 1).map fun j => BitVec.ofNat 8 (x / 256 ^ j)) = [BitVec.ofNat 8 x] := by
  simp

theorem flagByte_three (a b c : Bool) :
    flagByte [a, b, c]
      = BitVec.ofNat 8 ((if a then 1 else 0) + (if b then 2 else 0) + (if c then 4 else 0)) := by
  cases a <;> cases b <;> cases c <;> rfl

theorem flagByte_four (a b c d : Bool) :
    flagByte [a, b, c, d]
      = BitVec.ofNat 8 ((if a then 1 else 0) + (if b then 2 else 0) + (if c then 4 else 0) + (if d then 8 else 0)) := by
  cases a <;> cases b <;> cases c <;> cases d <;> rfl

theorem AlignMark.code_eq_idxOf (m : AlignMark) :
    m.code = BitVec.ofNat 8 ([AlignMark.exact, .interpolated, .heldOld, .heldNew, .saturated].idxOf m) := by cases m <;> rfl

theorem BreachState.code_eq_idxOf (b : BreachState) :
    b.code = BitVec.ofNat 8 ([BreachState.normal, .ovPending, .ov, .uvPending, .uv].idxOf b) := by cases b <;> rfl

theorem ResMark.code_eq_idxOf (m : ResMark) :
    m.code = BitVec.ofNat 8 ([ResMark.none, .noReference, .smallStep, .formed, .clamped, .negative, .held].idxOf m) := by
  cases m <;> rfl

theorem RangeMark.code_eq_ite (m : RangeMark) : m.code = if m = .normal then 0 else 1 := by cases m <;> rfl

/-- Settles O15: the range as the shared rule of the two requests grants or refuses it, then the bytes, field by field. -/
theorem readCellsAndResistanceRanges : Obligations.ReadCellsAndResistanceRanges := by
  refine ⟨fun s tag first count hs => ⟨fun hno => ?_, fun h0 h16 hfirst => ?_⟩, fun cells estimates => ⟨?_, ?_⟩⟩
  · have hr := cellRange_of_refused hno
    constructor
    · exact request_of_serving (r := .readCells first count) hs rfl (by simp [own, ownReadCells, hr, refuse, plain])
    · exact request_of_serving (r := .readResistance first count) hs rfl (by simp [own, ownReadResistance, hr, refuse, plain])
  · have hr := cellRange_of_granted h0 h16 hfirst
    constructor
    · refine report_of_serving (r := .readCells first count) hs rfl ?_
      simp only [own, ownReadCells, held_frame, hr, List.map_map]
      rfl
    · refine report_of_serving (r := .readResistance first count) hs rfl ?_
      simp only [own, ownReadResistance, held_frame, hr, List.map_map]
      rfl
  · refine congrArg (BitVec.ofNat 8 cells.length :: ·) (congrArg (List.flatMap · cells) (funext fun c => ?_))
    cases hmark : c.mark <;>
      simp only [CellView.bytes, natBytes, timeBytes, le32, leBytes_eq_map, currentBytes_eq, leBytes_one, flagByte_three, hmark,
        RangeMark.code_eq_ite, BreachState.code_eq_idxOf, AlignMark.code_eq_idxOf, Option.map_none, Option.map_some,
        Option.getD_none, Option.getD_some, List.append_assoc, List.cons_append, List.nil_append]
  · refine congrArg (BitVec.ofNat 8 estimates.length :: ·) (congrArg (List.flatMap · estimates) (funext fun c => ?_))
    cases href : c.ref <;>
      simp [ResView.bytes, natBytes, leBytes_eq_map, currentBytes_eq, flagByte_four, href, ResMark.code_eq_idxOf]

/-! ## Expiries -/

/-- Settles O37: the expiry is due, and its rule's branch is taken. -/
theorem freshnessAndReferenceExpire : Obligations.FreshnessAndReferenceExpire := by
  refine ⟨fun s i hstale => ?_, fun s i r href hexp hage => ?_⟩
  · exact congrArg (fun t => Host.Outcome.next (finish t)) (if_pos hstale)
  · have hdue : refDue s.prof (s.cell i) = true := by simp [refDue, href, Ref.overdue, hexp, hage]
    show Host.Outcome.next (finish (referenceTaken i s)) = _
    rw [referenceTaken, if_pos hdue, href]
    rfl

end Sys2Proof.Machine
end

section
/-! SUPPORT. The life of a sweep on the chain: the broadcast, the READs from one position to the next, what a reply is judged to be and
what its outcome does to the module table, the cell table and the sweep record. -/
namespace Sys2Proof.Machine

/-! ## The next READ -/

/-- Of the positions of a mask at or above one, the lowest is the next one (R25). -/
theorem find_maskPositions {m : ModMask} {k j : Nat} (h : nextPosition m k j) :
    (maskPositions m).find? (fun i => decide (k ≤ i)) = some j := by
  obtain ⟨hkj, hj, hset, hlow⟩ := h
  rw [maskPositions, List.find?_filter, List.find?_range_eq_some]
  refine ⟨by simp [hset, hkj], List.mem_range.2 hj, fun i hi => ?_⟩
  by_cases hki : k ≤ i
  · simp [hlow i hki hi]
  · simp [hki]

theorem find_maskPositions_none {m : ModMask} {k : Nat} (h : ∀ j, k ≤ j → j < 12 → m.getLsbD j = false) :
    (maskPositions m).find? (fun i => decide (k ≤ i)) = none := by
  rw [maskPositions, List.find?_filter, List.find?_eq_none]
  intro i hi
  by_cases hki : k ≤ i
  · simp [h i hki (List.mem_range.1 hi)]
  · simp [hki]

/-- The next READ goes to the lowest requested position left (R25). -/
theorem readFrom_of_next {s : State} {w : SweepRec} {k j : Nat} (hw : s.sch.sweep = some w) (h : nextPosition w.requested k j) :
    readFrom k s = sendRead j s := by simp [readFrom, hw, find_maskPositions h]

/-- With no requested position left READING ends (R11, R25). -/
theorem readFrom_of_last {s : State} {w : SweepRec} {k : Nat} (hw : s.sch.sweep = some w)
    (h : ∀ j, k ≤ j → j < 12 → w.requested.getLsbD j = false) : readFrom k s = readingEnds s := by
  simp [readFrom, hw, find_maskPositions_none h]

/-- Settles O38: the broadcast, the window's end, the carrying of pack time, and the frame by what the chain master waits for. -/
theorem broadcastAndConversionWindow : Obligations.BroadcastAndConversionWindow := by
  refine ⟨fun s w hw hst => ?_, fun s w u j hwait hw hnext => ?_, fun s t => ?_, fun s => ?_⟩
  · show Host.Outcome.next (finish (broadcastSent s)) = _
    simp only [broadcastSent, hw, if_pos hst]
    rfl
  · show Host.Outcome.next (finish (windowEnds s)) = _
    have hw' : (advanceTo u s).sch.sweep = some w := by simpa using hw
    simp only [windowEnds, hwait, readFrom_of_next hw' hnext, sendRead, advanceTo_frame]
    rfl
  · exact ⟨fun x y => rfl, fun hm => advanceTo_of_sleep hm t, advanceTo_of_later, advanceTo_of_not_later⟩
  · refine ⟨fun k u h => ?_, fun k u h => ?_, fun w h hw hst => ?_, fun u h => ?_, fun h hno => ?_⟩
    · simp only [State.chainFrame, h]
      rfl
    · simp only [State.chainFrame, h]
      rfl
    · simp only [State.chainFrame, h, hw, if_pos hst]
      rfl
    · simp only [State.chainFrame, h]
    · simp only [State.chainFrame, h]
      cases hw : s.sch.sweep with
      | none => rfl
      | some w => exact if_neg (hno w hw)

/-! ## The judgement of a READ reply (R26) -/

/-- A reply holds: its check, its kind and its position. -/
theorem replyHolds_iff (kind : Byte) (k : Nat) (bs : List Byte) :
    replyHolds 38 kind k bs = true
      ↔ crc8 ((bs.take 37).drop 1) = bs.getD 37 0 ∧ bs.getD 1 0 = kind ∧ (bs.getD 2 0).toNat = k := by
  simp [replyHolds, and_assoc]

section
variable {tag : Byte} {k : Nat} {bs : List Byte}

theorem judgeRead_of_good (hh : replyHolds 38 0xA0 k bs = true)
    (ho : bs.getD 36 0 = tag ∧ (bs.getD 35 0).getLsbD 7 = true) :
    judgeRead tag k bs =
      { outcome := .good, status := some (bs.getD 35 0), codes := (List.range 16).map fun c => natAt bs (3 + 2 * c) 2 } := by
  simp only [judgeRead, hh, if_pos ho, if_true]

theorem judgeRead_of_mismatch (hh : replyHolds 38 0xA0 k bs = true)
    (ho : ¬ (bs.getD 36 0 = tag ∧ (bs.getD 35 0).getLsbD 7 = true)) :
    judgeRead tag k bs = { outcome := .tagMismatch, status := some (bs.getD 35 0), codes := [] } := by
  simp only [judgeRead, hh, if_neg ho, if_true]

theorem judgeRead_of_bad (hh : ¬ replyHolds 38 0xA0 k bs = true) :
    judgeRead tag k bs = { outcome := .badCrc, status := none, codes := [] } := if_neg hh

end

/-! ## The outcome of a READ -/

theorem readEntry_of_good {o : MonitorReply} (h : o.outcome = .good) (k : Nat) (s : State) :
    readEntry k o s = judgeModuleLost (s.setMod k (goodEntry o (s.modEntry k))) := if_pos h

theorem readEntry_of_miss {o : MonitorReply} (h : o.outcome ≠ .good) (k : Nat) (s : State) :
    readEntry k o s = judgeModuleLost (setCond .chainError (occurrence .moduleMiss (s.setMod k (missEntry o (s.modEntry k))))) :=
  if_neg h

/-- The module table after a READ: position k takes its new entry, and the chain master is otherwise as it was (R29, R30). -/
theorem readEntry_chn (k : Nat) (o : MonitorReply) (s : State) :
    (readEntry k o s).chn
      = (s.setMod k (if o.outcome = .good then goodEntry o (s.modEntry k) else missEntry o (s.modEntry k))).chn := by
  by_cases h : o.outcome = .good
  · simp [readEntry_of_good h, h]
  · simp [readEntry_of_miss h, h]

/-- A READ in a sweep whose record stands: the cell table takes a GOOD one's codes, and the next READ follows (R11, R25). -/
theorem readDone_eq {s : State} {w : SweepRec} (hw : s.sch.sweep = some w) (k : Nat) (o : MonitorReply) :
    readDone k o s
      = readFrom (k + 1) (if o.outcome = .good then takeCodes k o.codes w (readEntry k o s) else readEntry k o s) := by
  simp [readDone, hw]

/-- A complete reply to a READ (R26). -/
theorem exec_chainReply_of_read {s : State} {w : SweepRec} {k : Nat} {u : Time} {bs : List Byte} (hwait : s.chn.wait = .read k u)
    (hw : s.sch.sweep = some w) (hlen : 38 ≤ bs.length) :
    exec (.chainReplyComplete bs) s = .next (finish (readFrom (k + 1)
      (if (judgeRead s.chn.sweepTag k bs).outcome = .good
        then takeCodes k (judgeRead s.chn.sweepTag k bs).codes w (readEntry k (judgeRead s.chn.sweepTag k bs) s)
        else readEntry k (judgeRead s.chn.sweepTag k bs) s))) := by
  show Host.Outcome.next (finish (chainReply bs s)) = _
  simp only [chainReply, hwait, if_pos hlen, readDone_eq hw]

/-! ## What a READ writes of a cell -/

/-- What a READ writes of a cell and no alignment of it changes: code, range mark, instant, tag, age and fresh flag (R19, R56). -/
def Cell.reading (c : Cell) : Option Nat × RangeMark × Option Time × Byte × Nat × Bool :=
  (c.code, c.range, c.inst, c.tag, c.age, c.fresh)

/-- The resistance unit leaves what the READ wrote (R62 to R68). -/
theorem takeReading_reading (p : Profile) (source : SweepSource) (al : Aligned) (c : Cell) :
    (takeReading p source al c).reading = c.reading := by
  unfold takeReading estimate storeRef keepEstimate
  dsimp only
  (repeat' split) <;> rfl

theorem cell_reading_setCell {s : State} {i : Nat} {c : Cell} (h : c.reading = (s.cell i).reading) (j : Nat) :
    ((s.setCell i c).cell j).reading = (s.cell j).reading := by
  rw [cell_setCell]
  split
  · rename_i hj
    rw [hj.1, h]
  · rfl

/-- An alignment leaves of every cell what the READ wrote (R56, R57). -/
theorem makeAlignment_reading (target : Option Nat) (al : Aligned) (s : State) (j : Nat) :
    ((makeAlignment target al s).cell j).reading = (s.cell j).reading := by
  cases target with
  | none => rfl
  | some i =>
    have hmark : ((s.setCell i { s.cell i with current := al.current, mark := some al.mark }).cell j).reading = (s.cell j).reading :=
      cell_reading_setCell (by rfl) j
    simp only [makeAlignment]
    rw [cell_reading_setCell (takeReading_reading _ _ _ _)]
    split
    · simpa [State.cell] using hmark
    · exact hmark

/-- The alignment of a cell is no matter of the scheduler's (R56). -/
theorem makeAlignment_cell_sch (i : Nat) (al : Aligned) (s : State) : (makeAlignment (some i) al s).sch = s.sch := by
  simp only [makeAlignment]
  split <;> simp

theorem submitAlign_reading (target : Option Nat) (t : Time) (s : State) (j : Nat) :
    ((submitAlign target t s).cell j).reading = (s.cell j).reading := by
  unfold submitAlign
  split
  · exact makeAlignment_reading _ _ _ _
  · rfl

theorem submitAlign_cell_sch (i : Nat) (t : Time) (s : State) : (submitAlign (some i) t s).sch = s.sch := by
  unfold submitAlign
  split
  · exact makeAlignment_cell_sch _ _ _
  · rfl

theorem submitCells_reading (l : List Nat) (s : State) (j : Nat) : ((submitCells l s).cell j).reading = (s.cell j).reading := by
  induction l generalizing s with
  | nil => rfl
  | cons i rest ih =>
    rw [submitCells]
    split
    · rw [ih, submitAlign_reading]
    · exact ih s

theorem submitCells_sch (l : List Nat) (s : State) : (submitCells l s).sch = s.sch := by
  induction l generalizing s with
  | nil => rfl
  | cons i rest ih =>
    rw [submitCells]
    split
    · rw [ih, submitAlign_cell_sch]
    · exact ih s

@[simp] theorem setCell_length (s : State) (i : Nat) (c : Cell) : (s.setCell i c).cells.length = s.cells.length := List.length_set

theorem takeStale_length (l : List Nat) (s : State) : (takeStale l s).cells.length = s.cells.length := by
  induction l generalizing s with
  | nil => rfl
  | cons i rest ih =>
    rw [takeStale, ih, freshnessTaken]
    split <;> simp

/-- Writing the channels from one on leaves the cells below it (R27). -/
theorem cell_writeChannels_below {tag : Byte} {tb : Time} {k c : Nat} {l : List Nat} {s : State} {j : Nat}
    (h : j < cellBase s.prof k + c) : (writeChannels tag tb k c l s).cell j = s.cell j := by
  induction l generalizing c s with
  | nil => rfl
  | cons code rest ih =>
    rw [writeChannels, ih (by simp only [setCell_frame]; omega), cell_setCell, if_neg (by omega)]

/-- Writing the channels from c on: the n-th code is the cell of channel c + n (R19, R27, R50). -/
theorem cell_writeChannels {tag : Byte} {tb : Time} {k c : Nat} {l : List Nat} {s : State} {n code : Nat}
    (hn : l[n]? = some code) (hlen : cellBase s.prof k + (c + n) < s.cells.length) :
    ((writeChannels tag tb k c l s).cell (cellBase s.prof k + (c + n))).reading
      = (some (min 50000 code), if 50000 < code then .outOfRange else .normal, some (cellInstant s.prof tb k (c + n)), tag, 0, true) := by
  induction l generalizing c s n with
  | nil => simp at hn
  | cons x rest ih =>
    cases n with
    | zero =>
      obtain rfl : x = code := by simpa using hn
      rw [writeChannels, cell_writeChannels_below (by simp only [setCell_frame]; omega), cell_setCell, if_pos ⟨rfl, by omega⟩]
      rfl
    | succ n =>
      have hc : c + (n + 1) = c + 1 + n := by omega
      rw [hc] at hlen ⊢
      rw [writeChannels]
      exact ih (s := s.setCell _ _) (by simpa using hn) (by simpa using hlen)

/-- The sweep record takes the position as received, and the scheduler is otherwise as it was (R11). -/
theorem takeCodes_sch (k : Nat) (codes : List Nat) (w : SweepRec) (s : State) :
    (takeCodes k codes w s).sch
      = { s.sch with sweep := some { w with received := w.received ||| BitVec.twoPow 12 k } } := by
  simp [takeCodes, submitCells_sch]

/-- Channel c of a GOOD READ of position k: its cell holds the code, the instant and the tag of the READ, fresh (R19, R27, R50). -/
theorem takeCodes_reading {k c code : Nat} {codes : List Nat} {w : SweepRec} {tb : Time} {s : State} (hc : c < cellsAt s.prof k)
    (hcode : codes[c]? = some code) (hlen : cellBase s.prof k + c < s.cells.length) (htb : w.tb = some tb) :
    ((takeCodes k codes w s).cell (cellBase s.prof k + c)).reading
      = (some (min 50000 code), if 50000 < code then .outOfRange else .normal, some (cellInstant s.prof tb k c), w.tag, 0, true) := by
  have hwrite := cell_writeChannels (tag := w.tag) (tb := tb) (k := k) (c := 0) (n := c) (l := codes.take (cellsAt s.prof k))
    (s := takeStale (moduleCells s.prof k) s) (code := code) (by rw [List.getElem?_take_of_lt hc, hcode])
    (by simpa [takeStale_length] using hlen)
  rw [takeCodes, submitCells_reading]
  simpa [State.cell, htb] using hwrite

/-! ## A reply in RUN -/

/-- A complete reply to a READ in RUN with another position left: what the event leaves is what the outcome did, the chain master
awaiting the next reply. -/
theorem exec_chainReply_inRun {s x : State} {w : SweepRec} {k j : Nat} {u : Time} {bs : List Byte} (hrun : s.inRun)
    (hwait : s.chn.wait = .read k u) (hw : s.sch.sweep = some w) (hnext : nextPosition w.requested (k + 1) j) (hlen : bs.length = 38)
    (hx : x = let o := judgeRead s.chn.sweepTag k bs
      if o.outcome = .good then takeCodes k o.codes w (readEntry k o s) else readEntry k o s) :
    ∃ t, exec (.chainReplyComplete bs) s = .next t ∧ t.tim = s.tim
      ∧ t.chn = { (readEntry k (judgeRead s.chn.sweepTag k bs) s).chn with wait := .read j (s.tim.packTime + 420#32) }
      ∧ t.sch = x.sch ∧ t.cells = x.cells ∧ t.cnd.set = x.cnd.set := by
  have hexec := exec_chainReply_of_read hwait hw hlen.ge
  rw [← hx] at hexec
  have hxs : x.inRun ∧ x.tim = s.tim ∧ x.chn = (readEntry k (judgeRead s.chn.sweepTag k bs) s).chn
      ∧ ∃ w', x.sch.sweep = some w' ∧ w'.requested = w.requested := by
    subst hx
    dsimp only
    split
    · exact ⟨by simpa [State.inRun] using hrun, by simp, by simp,
        { w with received := w.received ||| BitVec.twoPow 12 k }, by rw [takeCodes_sch], rfl⟩
    · exact ⟨by simpa [State.inRun] using hrun, by simp, rfl, w, by simpa using hw, rfl⟩
  obtain ⟨hxrun, hxtim, hxchn, w', hw', hreq⟩ := hxs
  rw [readFrom_of_next hw' (hreq ▸ hnext)] at hexec
  obtain ⟨hsch, hchn, _, hcells, _, _, _, _, hset, _⟩ := finish_inRun_keeps (s := sendRead j x) hxrun
  refine ⟨_, hexec, by simp [hxtim], ?_, by rw [hsch]; simp, by rw [hcells]; simp, by rw [hset]; simp⟩
  rw [hchn, ← hxchn, ← hxtim]
  rfl

/-- The table's entry of a position depends on the chain master alone. -/
theorem modEntry_of_chn {s t : State} (h : s.chn.modules = t.chn.modules) (i : Nat) : s.modEntry i = t.modEntry i := by
  simp only [State.modEntry, h]

/-- The module table after a READ of a position that it has (R29, R30). -/
theorem modEntry_readEntry {s : State} {k : Nat} (hk : k < s.chn.modules.length) (o : MonitorReply) (i : Nat) :
    (readEntry k o s).modEntry i
      = if i = k then (if o.outcome = .good then goodEntry o (s.modEntry k) else missEntry o (s.modEntry k)) else s.modEntry i := by
  rw [modEntry_of_chn (congrArg Chn.modules (readEntry_chn k o s)), modEntry_setMod]
  simp [hk]

/-- A READ whose outcome is not GOOD sets CHAIN_ERROR (R31). -/
theorem readEntry_chainError {o : MonitorReply} (h : o.outcome ≠ .good) (k : Nat) (s : State) :
    (readEntry k o s).condSet .chainError = true := by
  rw [readEntry_of_miss h, judgeModuleLost, condSet_liveCond, if_neg (by decide)]
  exact condSet_liveCond .chainError .chainError true _

/-- Settles O39, clause by clause: the reply in RUN from the outcome's own lemmas, the others from the definitions' cases. -/
theorem readReplyIsTakenByItsOutcome : Obligations.ReadReplyIsTakenByItsOutcome := by
  refine ⟨?_, fun s k u w bs hwait hw hlen => ?_, fun tag k bs => ?_, fun s k o => ?_, fun s k codes w => ?_, fun s i l => ?_,
    fun tag tb k c code l s => ⟨rfl, rfl⟩, fun s i l => ?_, fun s k w hw => ?_⟩
  · intro s k j u tb w bs hrun hwait hw htb hk hnext hlen holds good m n
    obtain ⟨t, hexec, htim, hchn, hsch, hcells, hset⟩ := exec_chainReply_inRun hrun hwait hw hnext hlen rfl
    have hmod : ∀ i, t.modEntry i = (readEntry k (judgeRead s.chn.sweepTag k bs) s).modEntry i := fun i =>
      modEntry_of_chn (by rw [hchn]) i
    have hiff : holds ↔ replyHolds 38 0xA0 k bs = true := (replyHolds_iff 0xA0 k bs).symm
    refine ⟨t, hexec, by rw [hchn], htim, fun i hi => ?_, fun hg => ?_, fun hg => ?_⟩
    · rw [hmod, modEntry_readEntry hk, if_neg hi]
    · have hjudge := judgeRead_of_good (hiff.1 hg.1) hg.2
      have hgood : (judgeRead s.chn.sweepTag k bs).outcome = .good := by rw [hjudge]
      simp only [if_pos hgood] at hsch hcells
      refine ⟨by rw [hsch, takeCodes_sch], ?_, fun c hc h16 hc' => ?_⟩
      · rw [hmod, modEntry_readEntry hk, if_pos rfl, if_pos hgood, goodEntry, hjudge]
      · have hcode : (judgeRead s.chn.sweepTag k bs).codes[c]? = some (natAt bs (3 + 2 * c) 2) := by simp [hjudge, h16]
        have hcell := takeCodes_reading (s := readEntry k (judgeRead s.chn.sweepTag k bs) s) (by simpa using hc) hcode
          (by simpa using hc') htb
        simp only [readEntry_frame, Cell.reading, Prod.mk.injEq] at hcell
        obtain ⟨hcode, hrange, hinst, htag, hage, hfresh⟩ := hcell
        simp only [State.cell, hcells]
        exact ⟨hcode, htag, hage, hfresh, hrange, hinst⟩
    · have hbad : (judgeRead s.chn.sweepTag k bs).outcome = (if holds then .tagMismatch else .badCrc)
          ∧ (judgeRead s.chn.sweepTag k bs).status = (if holds then some (bs.getD 35 0) else none) := by
        by_cases hh : holds
        · simp only [judgeRead_of_mismatch (hiff.1 hh) (fun h => hg ⟨hh, h⟩), if_pos hh, and_self]
        · simp only [judgeRead_of_bad (fun h => hh (hiff.2 h)), if_neg hh, and_self]
      have hmiss : (judgeRead s.chn.sweepTag k bs).outcome ≠ .good := by
        rw [hbad.1]
        split <;> decide
      simp only [if_neg hmiss] at hsch hcells hset
      refine ⟨by simpa using hsch, by simpa using hcells, ?_, ?_⟩
      · rw [State.condSet, hset]
        exact readEntry_chainError hmiss k s
      · rw [hmod, modEntry_readEntry hk, if_pos rfl, if_neg hmiss, missEntry, hbad.1, hbad.2]
        by_cases hh : holds <;> simp [hh, m, n]
  · intro o
    have h := exec_chainReply_of_read hwait hw hlen
    exact ⟨fun hg => by rw [h, if_pos hg], fun hg => by rw [h, if_neg hg]⟩
  · intro status holds ours
    have hiff : holds ↔ replyHolds 38 0xA0 k bs = true := (replyHolds_iff 0xA0 k bs).symm
    exact ⟨fun hh ho => judgeRead_of_good (hiff.1 hh) ho, fun hh ho => judgeRead_of_mismatch (hiff.1 hh) ho,
      fun hh => judgeRead_of_bad (fun h => hh (hiff.2 h))⟩
  · exact ⟨fun hg => readEntry_of_good hg k s, fun hg => readEntry_of_miss hg k s⟩
  · simp only [takeCodes, takeStale_frame, writeChannels_frame, judgeStale_frame, State.setSch_prof, State.now]
    rfl
  · refine ⟨rfl, fun h => ?_, fun h => ?_⟩
    · simp [takeStale, freshnessTaken, h]
    · rw [takeStale, freshnessTaken, if_pos h]
      rfl
  · refine ⟨rfl, fun h => ?_, fun t h => ?_⟩
    · simp only [submitCells, h]
    · simp only [submitCells, h]
  · refine ⟨fun j hnext => readFrom_of_next hw hnext, fun hlast => ?_⟩
    rw [readFrom_of_last hw hlast]
    simp [readingEnds, hw]

end Sys2Proof.Machine
end

section
/-! SUPPORT. The tick: what is due before it, its work block by block, and the passing of time while no command waits. -/
namespace Sys2Proof.Machine

/-! ## What is due (log 2) -/

/-- An event of the part's own that is not due leaves the part as it is. -/
theorem takeEvent_of_not_due {due : Bool} (h : due = false) (f : State → State) (s : State) : takeEvent due f s = s := by
  simp [takeEvent, h]

theorem takeEach_of_not_due {f : Nat → State → State} {l : List Nat} {s : State} (h : ∀ i ∈ l, f i s = s) : takeEach f l s = s := by
  induction l with
  | nil => rfl
  | cons i rest ih =>
    rw [takeEach, h i List.mem_cons_self]
    exact ih fun j hj => h j (List.mem_cons_of_mem _ hj)

theorem cellsWith_of_none {f : Cell → Bool} {l : List Cell} (h : ∀ c ∈ l, f c = false) (n : Nat) : cellsWith f n l = [] := by
  induction l generalizing n with
  | nil => rfl
  | cons c rest ih =>
    simp [cellsWith, h c List.mem_cons_self, ih fun d hd => h d (List.mem_cons_of_mem _ hd)]

/-- An event for each cell with a property, in rising order (log 2). -/
theorem takeEach_cellsWith (f : Nat → State → State) (g : Cell → Bool) (s : State) :
    takeEach f (cellsWith g 0 s.cells) s
      = ((List.range s.cells.length).filter fun i => g (s.cell i)).foldl (fun x i => f i x) s := by
  rw [takeEach_eq_foldl, cellsWith_eq_filter]
  simp [State.cell]

/-- An event for each of the first n numbers, none of them due. -/
theorem takeEach_range_of_not_due (due : Nat → State → Bool) (f : Nat → State → State) {n : Nat} {s : State}
    (h : ∀ i, i < n → due i s = false) : takeEach (fun i s => takeEvent (due i s) (f i) s) (List.range n) s = s :=
  takeEach_of_not_due fun i hi => takeEvent_of_not_due (h i (List.mem_range.1 hi)) _ _

theorem refDue_eq_any (p : Profile) (c : Cell) : refDue p c = c.ref.any fun r => decide (p.refMaxAge < r.age) && !r.expired := by
  unfold refDue
  cases c.ref <;> rfl

theorem timerDue_eq_any (s : State) : s.timerDue = s.seq.run.any fun r => r.timer == some 0 := by
  unfold State.timerDue
  cases s.seq.run <;> rfl

/-- With nothing due the part has no work of its own. -/
theorem dueWork_of_nothingDue {s : State} (h : s.nothingDue) : dueWork s = s := by
  obtain ⟨hread, hslot, hcell, hoc, hchan, htimer, hsleep, htamper, hframe⟩ := h
  have hread' : (s.pwr.mode == .startup && s.nvs.sel == .unread) = false := by simpa using hread
  have hslots := takeEach_range_of_not_due (fun i s => s.slotDue i) slotTaken hslot
  have hstale := cellsWith_of_none (fun c hc => (hcell c hc).1) 0
  have hrefs := cellsWith_of_none (fun c hc => (hcell c hc).2) 0
  have channels : ∀ (due : Nat → State → Bool) (f : Nat → State → State), (∀ k, k < 4 → due k s = false) →
      takeEach (fun k s => takeEvent (due k s) (f k) s) (List.range 4) s = s := fun due f => takeEach_range_of_not_due due f
  have haccept := channels (fun k s => (s.chan k).acceptDue) feedbackTaken fun k hk => (hchan k hk).1
  have hpullIn := channels (fun k s => (s.chan k).pullIn == some 0) pullInTaken fun k hk => by
    obtain ⟨-, hp, -⟩ := hchan k hk
    simp [hp]
  have hmake := channels (fun k s => (s.chan k).st == .closing && (s.chan k).superv == some 0) makeMaxTaken fun k hk => by
    obtain ⟨-, -, hv, -⟩ := hchan k hk
    simp [hv]
  have hbreak := channels (fun k s => (s.chan k).st == .opening && (s.chan k).superv == some 0) breakMaxTaken fun k hk => by
    obtain ⟨-, -, hv, -⟩ := hchan k hk
    simp [hv]
  have hsettle := channels (fun k s => (s.chan k).settling == some 0) settlingTaken fun k hk => by
    obtain ⟨-, -, -, hd⟩ := hchan k hk
    simp [hd]
  simp only [dueWork, takeEvent_of_not_due hread', hslots, hstale, hrefs, takeEach, takeEvent_of_not_due hoc, haccept, hpullIn,
    hmake, hbreak, hsettle, takeEvent_of_not_due htimer, takeEvent_of_not_due hsleep, takeEvent_of_not_due htamper,
    takeEvent_of_not_due hframe]

/-! ## The blocks' parts of a tick -/

theorem tickDown_eq_map (x : Option Nat) : tickDown x = x.map (· - 1) := by cases x <;> rfl

/-- A tick of the step timer (R119). -/
theorem tickRunner_eq (s : State) :
    tickRunner s = s.setSeq { s.seq with run := s.seq.run.map fun r => { r with timer := r.timer.map (· - 1) } } := by
  unfold tickRunner
  cases h : s.seq.run with
  | none =>
    show s = s.setSeq { s.seq with run := none }
    rw [← h]
    rfl
  | some r => simp [State.setRun, tickDown_eq_map]

/-- A tick of the slots' countdowns (R5). -/
theorem tickSlots_eq (s : State) :
    tickSlots s = s.setSch { s.sch with
      countdowns := if s.sch.running then s.sch.countdowns.map (Option.map (· - 1)) else s.sch.countdowns } := by
  have hdown : tickDown = Option.map (· - 1) := funext tickDown_eq_map
  by_cases h : s.sch.running = true
  · rw [tickSlots, if_pos h, if_pos h, hdown]
  · rw [tickSlots, if_neg h, if_neg h]
    rfl

/-- A tick of the over-current run (R47). -/
theorem tickOverCurrent_eq (s : State) :
    tickOverCurrent s = s.setAna (if s.ana.active = true ∧ s.ana.fault = false ∧ s.ana.latestAbove = some (!s.ana.overCurrent)
      then { s.ana with run := min (s.ana.run + 1) s.prof.ocTime } else s.ana) := by
  unfold tickOverCurrent
  simp only [Bool.and_eq_true, Bool.not_eq_true', beq_iff_eq, and_assoc]
  split <;> rfl

/-- A tick of the tamper debounce (R186). -/
theorem tickTamper_eq (s : State) :
    tickTamper s = s.setTmp (if s.pins.tamper = s.tmp.asserted then { s.tmp with run := 0, acceptDue := false }
      else if s.tmp.run < 10 then { s.tmp with run := s.tmp.run + 1 } else { s.tmp with acceptDue := true }) := by
  unfold tickTamper
  (repeat' split) <;> rfl

/-- A tick of the sleep timer's divider (R158). -/
theorem tickSleep_eq (s : State) :
    tickSleep s = s.setPwr (if s.pwr.mode ≠ .sleep then s.pwr
      else if 999 ≤ s.pwr.divider then { s.pwr with divider := 0, sleepTimer := s.pwr.sleepTimer.map (· - 1) }
      else { s.pwr with divider := s.pwr.divider + 1 }) := by
  unfold tickSleep
  rw [ite_not, tickDown_eq_map]
  (repeat' split) <;> rfl

/-! ## A tick of the contactor drivers (R95) -/

/-- A channel after a tick that finds no run toward CLOSED abandoned in OPENING: the sample, then the countdowns unless a change is
accepted. -/
def Chan.ticked (level : Bool) (t : Time) (c : Chan) : Chan :=
  if (c.sample level t).acceptDue then c.sample level t else (c.sample level t).countDown

/-- Channel k after the tick of the inputs and the pack time that stand. -/
def State.tickedChan (s : State) (k : Nat) : Chan :=
  (s.chan k).ticked (readFeedback (s.chanCfg k).polarity (s.pins.feedback.getLsbD k)) s.now

/-- No closing change in debounce in OPENING, which a tick could find abandoned (R101). -/
def State.keepsClosing (s : State) (k : Nat) : Prop :=
  ¬ ((s.chan k).st = .opening ∧ (s.chan k).closedFb = false ∧ 0 < (s.chan k).debounce)

theorem setChan_setChan (s : State) (k : Nat) (c d : Chan) : (s.setChan k c).setChan k d = s.setChan k d := by
  simp [State.setChan]

/-- A channel that the table does not hold is written nowhere. -/
theorem setChan_of_length_le {s : State} {k : Nat} (h : s.kdr.chans.length ≤ k) (c : Chan) : s.setChan k c = s := by
  rw [State.setChan, List.set_eq_of_length_le h]
  rfl

/-- The tick of a channel without an abandoned run. -/
theorem tickChan_eq {s : State} {k : Nat} (h : s.keepsClosing k) : tickChan k s = s.setChan k (s.tickedChan k) := by
  have hno : ∀ d : Nat, ¬ ((s.chan k).st = .opening ∧ (s.chan k).closingChange = true ∧ d = 0) := by
    rintro d ⟨hst, hch, -⟩
    exact h ⟨hst, by simpa [Chan.closingChange] using hch⟩
  simp only [tickChan, if_neg (hno _), State.tickedChan, Chan.ticked]
  split
  · rfl
  · by_cases hk : k < s.kdr.chans.length
    · rw [setChan_setChan, chan_setChan, if_pos ⟨rfl, hk⟩]
    · simp only [setChan_of_length_le (Nat.le_of_not_lt hk)]

section
variable {s : State} {j k : Nat} (hjk : j ≠ k) (c : Chan)
include hjk

theorem chan_setChan_of_ne : (s.setChan k c).chan j = s.chan j := by simp [chan_setChan, hjk]

theorem tickedChan_setChan_of_ne : (s.setChan k c).tickedChan j = s.tickedChan j := by
  simp only [State.tickedChan, chan_setChan_of_ne hjk]
  rfl

theorem keepsClosing_setChan_of_ne : (s.setChan k c).keepsClosing j ↔ s.keepsClosing j := by
  simp only [State.keepsClosing, chan_setChan_of_ne hjk]

end

/-- The tick of the drivers, channel by channel, each as the part before the tick has it. -/
theorem tickDrivers_eq {s : State} (hs : s.kdr.suspended = false) (h : ∀ k, k < 4 → s.keepsClosing k) :
    tickDrivers s = (((s.setChan 0 (s.tickedChan 0)).setChan 1 (s.tickedChan 1)).setChan 2 (s.tickedChan 2)).setChan 3
      (s.tickedChan 3) := by
  simp only [tickDrivers, hs, Bool.false_eq_true, if_false]
  rw [tickChan_eq (h 0 (by decide)), tickChan_eq (k := 1), tickChan_eq (k := 2), tickChan_eq (k := 3)]
  · simp [tickedChan_setChan_of_ne]
  all_goals simp [keepsClosing_setChan_of_ne, h]

/-! ## The work of a tick -/

/-- The drivers change the channels alone at a tick, while supervision is suspended or no run toward CLOSED is abandoned (R95, R101). -/
theorem tickDrivers_chans {s : State} (h : s.kdr.suspended = true ∨ ∀ k, k < 4 → s.keepsClosing k) :
    tickDrivers s = s.setKdr { s.kdr with chans := (tickDrivers s).kdr.chans } := by
  by_cases hs : s.kdr.suspended = true
  · have he : tickDrivers s = s := if_pos hs
    rw [he]
    rfl
  · rw [tickDrivers_eq (by simpa using hs) (h.resolve_left hs)]
    rfl

/-- The part as the drivers find it at a tick: the inputs sampled, the tick's instant reached, the step timer moved on (R38, R40, R119). -/
def tickStart (fb : BitVec 4) (tm : Bool) (s : State) : State :=
  ((s.setPins { feedback := fb, tamper := tm }).setTim {
      packTime := if isEarlier s.tim.packTime s.tim.nextTick then s.tim.nextTick else s.tim.packTime
      nextTick := s.tim.nextTick + 1000 }).setSeq
    { s.seq with run := s.seq.run.map fun r => { r with timer := r.timer.map (· - 1) } }

/-- The part after a tick whose drivers leave these channels and nothing else: the cells, the countdowns, the over-current run, the tamper
debounce and the sleep timer moved on (R5, R20, R47, R61, R158, R186). -/
def ticked (fb : BitVec 4) (tm : Bool) (cs : List Chan) (s : State) : State :=
  ((((((tickStart fb tm s).setKdr { s.kdr with chans := cs }).setCells (s.cells.map (tickCell s.prof))).setSch
    { s.sch with countdowns := if s.sch.running then s.sch.countdowns.map (Option.map (· - 1)) else s.sch.countdowns }).setAna
    (if s.ana.active = true ∧ s.ana.fault = false ∧ s.ana.latestAbove = some (!s.ana.overCurrent)
      then { s.ana with run := min (s.ana.run + 1) s.prof.ocTime } else s.ana)).setTmp
    (if tm = s.tmp.asserted then { s.tmp with run := 0, acceptDue := false }
      else if s.tmp.run < 10 then { s.tmp with run := s.tmp.run + 1 } else { s.tmp with acceptDue := true })).setPwr
    (if s.pwr.mode ≠ .sleep then s.pwr
      else if 999 ≤ s.pwr.divider then { s.pwr with divider := 0, sleepTimer := s.pwr.sleepTimer.map (· - 1) }
      else { s.pwr with divider := s.pwr.divider + 1 })

/-- The work of a tick, with the drivers' part as the drivers leave it. -/
theorem tickWork_eq_drivers (fb : BitVec 4) (tm : Bool) (s : State) :
    tickWork fb tm s = tickSleep (tickTamper (tickOverCurrent (tickSlots ((tickDrivers (tickStart fb tm s)).setCells
      ((tickDrivers (tickStart fb tm s)).cells.map (tickCell (tickDrivers (tickStart fb tm s)).prof)))))) := by
  have hstart : tickRunner (tickTime (s.setPins { feedback := fb, tamper := tm })) = tickStart fb tm s := tickRunner_eq _
  simp only [tickWork, hstart]

/-- The drivers' part of the tick is the tick's: no later block of it touches them (R95). -/
theorem tickWork_kdr (fb : BitVec 4) (tm : Bool) (s : State) : (tickWork fb tm s).kdr = (tickDrivers (tickStart fb tm s)).kdr := by
  simp [tickWork_eq_drivers]

/-- A tick without an abandoned run changes what `ticked` lists and nothing else. -/
theorem tickWork_eq {s : State} (h : s.kdr.suspended = true ∨ ∀ k, k < 4 → s.keepsClosing k) (fb : BitVec 4) (tm : Bool) :
    tickWork fb tm s = ticked fb tm (tickWork fb tm s).kdr.chans s := by
  have hd := tickDrivers_chans (s := tickStart fb tm s) h
  rw [tickWork_kdr, tickWork_eq_drivers, hd, tickSlots_eq, tickOverCurrent_eq, tickTamper_eq, tickSleep_eq]
  rfl

/-- In RUN the work of a tick without an abandoned run leaves the mode and the switch as they are. -/
theorem tickWork_inRun {s : State} (hrun : s.inRun) (h : s.kdr.suspended = true ∨ ∀ k, k < 4 → s.keepsClosing k) (fb : BitVec 4)
    (tm : Bool) : (tickWork fb tm s).inRun := by
  obtain ⟨hmode, hact⟩ := hrun
  rw [tickWork_eq h]
  exact ⟨by simp [ticked, hmode], hact⟩

/-! ## A channel's tick, by its sample (R95) -/

theorem Chan.countDown_eq (c : Chan) :
    c.countDown = { c with pullIn := c.pullIn.map (· - 1), superv := c.superv.map (· - 1), settling := c.settling.map (· - 1) } := by
  simp only [Chan.countDown, tickDown_eq_map]

section
variable {c : Chan} {level : Bool} {t : Time}

theorem Chan.ticked_of_same (h : level = c.closedFb) (ha : c.acceptDue = false) :
    c.ticked level t = { c.countDown with debounce := 0 } := by
  simp [Chan.ticked, Chan.sample, h, ha, Chan.countDown]

theorem Chan.ticked_of_first (h : level ≠ c.closedFb) (hd : c.debounce = 0) (ha : c.acceptDue = false) :
    c.ticked level t = { c.countDown with debounce := 1, edge := t } := by
  simp [Chan.ticked, Chan.sample, h, hd, ha, Chan.countDown]

theorem Chan.ticked_of_second (h : level ≠ c.closedFb) (hd : c.debounce = 1) (ha : c.acceptDue = false) :
    c.ticked level t = { c.countDown with debounce := 2 } := by
  simp [Chan.ticked, Chan.sample, h, hd, ha, Chan.countDown]

theorem Chan.ticked_of_accepted (h : level ≠ c.closedFb) (hd : 2 ≤ c.debounce) : c.ticked level t = { c with acceptDue := true } := by
  obtain ⟨n, hn⟩ := Nat.exists_eq_add_of_le' hd
  simp [Chan.ticked, Chan.sample, h, hn]

end

theorem chan_of_chans {s t : State} (h : s.kdr.chans = t.kdr.chans) (k : Nat) : s.chan k = t.chan k := by
  simp only [State.chan, h]

/-- Each of the four channels after the tick of the drivers. -/
theorem chan_tickDrivers {s : State} {k : Nat} (hs : s.kdr.suspended = false) (h : ∀ k, k < 4 → s.keepsClosing k)
    (hlen : s.kdr.chans.length = 4) (hk : k < 4) : (tickDrivers s).chan k = s.tickedChan k := by
  rw [tickDrivers_eq hs h]
  have hset : ∀ (s : State) (i : Nat) (c : Chan), (s.setChan i c).kdr.chans.length = s.kdr.chans.length := fun _ _ _ => List.length_set
  interval_cases k <;> simp [chan_setChan, hset, hlen]

/-! ## The passing of time (log 3) -/

/-- The end of what the chain master waits for. -/
def ChainWait.ends : ChainWait → Option Time
  | .nothing => none
  | .window t | .read _ t | .ident _ t => some t

/-- The end of the receiver's idle wait or gap. -/
def Rx.ends : Rx → Option Time
  | .off | .hunting => none
  | .idleWait t | .assembling _ t => some t

theorem ChainWait.ends_eq_some_iff (w : ChainWait) (t : Time) :
    w.ends = some t ↔ w = .window t ∨ ∃ k, w = .read k t ∨ w = .ident k t := by
  cases w <;> simp [ChainWait.ends]

theorem Rx.ends_eq_some_iff (r : Rx) (t : Time) : r.ends = some t ↔ r = .idleWait t ∨ ∃ bs, r = .assembling bs t := by
  cases r <;> simp [Rx.ends]

theorem State.instants_eq (s : State) :
    s.instants = [s.tim.nextTick] ++ (if s.ana.sampling then [s.ana.nextInstant] else []) ++ s.aln.map AlignItem.deadline
      ++ s.chn.wait.ends.toList ++ s.chn.powerUpEnd.toList ++ (s.nvs.flight.map NvFlight.ends).toList ++ s.pwr.wakePulse.toList
      ++ s.pli.rx.ends.toList := by
  unfold State.instants
  cases s.chn.wait <;> cases s.pli.rx <;> rfl

/-- An instant at which an event falls is one of those listed (log 3). -/
theorem instants_contains_iff (s : State) (now : Time) :
    s.instants.contains now = true ↔
      now = s.tim.nextTick ∨ (s.ana.sampling = true ∧ now = s.ana.nextInstant) ∨ (∃ it ∈ s.aln, now = it.deadline)
      ∨ s.chn.wait = .window now ∨ (∃ k, s.chn.wait = .read k now ∨ s.chn.wait = .ident k now) ∨ s.chn.powerUpEnd = some now
      ∨ (∃ f, s.nvs.flight = some f ∧ f.ends = now) ∨ s.pwr.wakePulse = some now ∨ s.pli.rx = .idleWait now
      ∨ ∃ bs, s.pli.rx = .assembling bs now := by
  have hana : now ∈ (if s.ana.sampling then [s.ana.nextInstant] else []) ↔ s.ana.sampling = true ∧ now = s.ana.nextInstant := by
    split <;> simp [*]
  simp only [State.instants_eq, List.contains_iff_mem, List.mem_append, List.mem_singleton, hana, List.mem_map, Option.mem_toList,
    ChainWait.ends_eq_some_iff, Rx.ends_eq_some_iff, Option.map_eq_some_iff, or_assoc, eq_comm (b := now)]

/-! ## Events that are not due have no effect of their own (log 2) -/

/-- An event without an effect of its own is the end of an event. -/
theorem event_of_unchanged {f : State → State} {s : State} (h : f s = s) : event f s = .next (finish s) := by rw [event, h]

section
variable {s : State}

theorem slotTaken_of_not_due {i : Nat} (h : s.sch.running = false ∨ s.sch.countdowns.getD i none ≠ some 0) : slotTaken i s = s := by
  refine if_neg ?_
  rcases h with h | h
  · simp [State.slotDue, h]
  · simp only [State.slotDue, beq_eq_false_iff_ne.2 h, Bool.and_false, Bool.false_eq_true, not_false_eq_true]

theorem freshnessTaken_of_not_due {i : Nat} (h : (s.cell i).staleDue = false) : freshnessTaken i s = s := by
  simp [freshnessTaken, h]

theorem referenceTaken_of_not_due {i : Nat} (h : ∀ r, (s.cell i).ref = some r → r.age ≤ s.prof.refMaxAge ∨ r.expired = true) :
    referenceTaken i s = s := by
  refine if_neg ?_
  rw [refDue_eq_any]
  cases href : (s.cell i).ref with
  | none => simp
  | some r => rcases h r href with h | h <;> simp [h]

theorem overCurrentTaken_of_not_due (h : s.ana.active = false ∨ s.prof.ocTime = 0 ∨ s.ana.run < s.prof.ocTime) :
    overCurrentTaken s = s := by
  refine if_neg ?_
  rcases h with h | h | h <;> simp [State.ocDue, h]

theorem feedbackTaken_of_not_due {k : Nat} (h : (s.chan k).acceptDue = false ∨ s.kdr.suspended = true) : feedbackTaken k s = s := by
  rcases h with h | h <;> simp [feedbackTaken, h]

theorem pullInTaken_of_not_due {k : Nat} (h : (s.chan k).coil ≠ .pullIn ∨ (s.chan k).pullIn ≠ some 0) : pullInTaken k s = s := by
  rcases h with h | h <;> simp [pullInTaken, h]

theorem makeMaxTaken_of_not_due {k : Nat} (h : (s.chan k).st ≠ .closing ∨ (s.chan k).superv ≠ some 0) : makeMaxTaken k s = s := by
  rcases h with h | h <;> simp [makeMaxTaken, h]

theorem breakMaxTaken_of_not_due {k : Nat} (h : (s.chan k).st ≠ .opening ∨ (s.chan k).superv ≠ some 0) : breakMaxTaken k s = s := by
  rcases h with h | h <;> simp [breakMaxTaken, h]

theorem settlingTaken_of_not_due {k : Nat} (h : (s.chan k).settling ≠ some 0) : settlingTaken k s = s := by
  simp [settlingTaken, h]

theorem stepTimerTaken_of_not_due (h : ∀ r, s.seq.run = some r → r.timer ≠ some 0) : stepTimerTaken s = s := by
  refine if_neg ?_
  rw [timerDue_eq_any]
  cases hrun : s.seq.run with
  | none => simp
  | some r => simp [h r hrun]

theorem sleepTimerTaken_of_not_due (h : s.pwr.mode ≠ .sleep ∨ s.pwr.sleepTimer ≠ some 0) : sleepTimerTaken s = s := by
  rcases h with h | h <;> simp [sleepTimerTaken, State.sleepDue, h]

theorem tamperTaken_of_not_due (h : s.tmp.acceptDue = false ∨ s.tmp.asserted = true) : tamperTaken s = s := by
  rcases h with h | h <;> simp [tamperTaken, h]

theorem tamperReleaseTaken_of_not_due (h : s.tmp.acceptDue = false ∨ s.tmp.asserted = false) : tamperReleaseTaken s = s := by
  rcases h with h | h <;> simp [tamperReleaseTaken, h]

end

/-! ## The claim -/

/-- A channel's tick at the tick's start, in terms of the part before it: the level sampled, read through the polarity (R95). -/
theorem tickedChan_tickStart {s : State} (hearly : isEarlier s.tim.packTime s.tim.nextTick = true) (fb : BitVec 4) (tm : Bool)
    (k : Nat) : (tickStart fb tm s).tickedChan k = (s.chan k).ticked
      (if (s.chanCfg k).polarity = .highClosed then fb.getLsbD k else !fb.getLsbD k) s.tim.nextTick := by
  have hnow : (tickStart fb tm s).now = s.tim.nextTick := if_pos hearly
  have hlevel : readFeedback (s.chanCfg k).polarity (fb.getLsbD k)
      = if (s.chanCfg k).polarity = .highClosed then fb.getLsbD k else !fb.getLsbD k := by
    cases (s.chanCfg k).polarity <;> rfl
  rw [← hnow, ← hlevel]
  rfl

/-- The tamper debounce of a tick leaves the accepted level and the latch (R186). -/
theorem ticked_tmp_keeps (fb : BitVec 4) (tm : Bool) (cs : List Chan) (s : State) :
    (ticked fb tm cs s).tmp.asserted = s.tmp.asserted ∧ (ticked fb tm cs s).tmp.latch = s.tmp.latch := by
  simp only [ticked, State.setPwr_tmp, State.setTmp_tmp]
  (repeat' split) <;> exact ⟨rfl, rfl⟩

/-- A complete frame waits to be judged (R192, R193). -/
theorem frameDue_iff (s : State) : s.frameDue = true ↔ ∃ bs u, s.pli.rx = .assembling bs u ∧ frameWhole bs = true := by
  unfold State.frameDue
  cases s.pli.rx <;> simp

/-- With nothing due a tick is its work and the end of the event (log 2). -/
theorem exec_tick_of_nothingDue {s : State} (h : s.nothingDue) (fb : BitVec 4) (tm : Bool) :
    exec (.tick fb tm) s = .next (finish (tickWork fb tm s)) := by
  show Host.Outcome.next (finish (tickWork fb tm (dueWork s))) = _
  rw [dueWork_of_nothingDue h]

/-- Settles O34: the tick in RUN from `tickWork_eq` and the end of an event in RUN; what is due, step by step, as the commands take it;
what is not due; and the passing of time. -/
theorem tickAdvancesEveryCount : Obligations.TickAdvancesEveryCount := by
  refine ⟨?_, fun s fb tm h => exec_tick_of_nothingDue h fb tm, fun s fb tm => ?_, fun s fb tm => rfl,
    fun s h => dueWork_of_nothingDue h, fun s => ?_, fun s => ?_, fun s => ?_⟩
  · intro s fb tm hrun hdue hsus hlen hearly hno
    have hkeep : s.kdr.suspended = true ∨ ∀ k, k < 4 → s.keepsClosing k := .inr hno
    have hexec := exec_tick_of_nothingDue hdue fb tm
    obtain ⟨-, -, hcell, -, hchan, -, -, htamper, -⟩ := hdue
    obtain ⟨hsch, hchn, hana, hcells, hchans, hctr, hlog, hprof, hset, hmem, htrun, htacc, htass, htlatch⟩ :=
      finish_inRun_keeps (tickWork_inRun hrun hkeep fb tm)
    obtain ⟨htim, haln, hlim, hseq, hpins, -⟩ := finish_frame (tickWork fb tm s)
    have hch : ∀ k, k < 4 → (finish (tickWork fb tm s)).chan k = (tickStart fb tm s).tickedChan k := fun k hk => by
      rw [chan_of_chans (hchans.trans (congrArg Kdr.chans (tickWork_kdr fb tm s)))]
      exact chan_tickDrivers (s := tickStart fb tm s) hsus hno hlen hk
    refine ⟨_, hexec, ?_⟩
    generalize finish (tickWork fb tm s) = t at *
    rw [tickWork_eq hkeep] at hsch hchn hana hcells hctr hlog hprof hset hmem htrun htacc htass htlatch htim haln hlim hseq hpins
    refine ⟨?_, hpins, hsch, ?_, fun k hk => ?_, hseq, hana, fun h => ?_, fun h hlt => ?_, fun h hle => ?_, ?_, ?_, hchn, haln, hlim, hset,
      hctr, hlog, hprof, hmem⟩
    · rw [htim]
      simp [ticked, tickStart, hearly]
    · rw [hcells]
      refine List.map_congr_left fun c hc => ?_
      simp [tickCell, (hcell c hc).1]
    · intro c closed down d
      obtain ⟨hacc, -⟩ := hchan k hk
      have hticked : t.chan k = c.ticked closed s.tim.nextTick := (hch k hk).trans (tickedChan_tickStart hearly fb tm k)
      rw [hticked]
      refine ⟨fun h => ?_, fun h hd => ?_, fun h hd => ?_, fun h hd => ?_⟩
      · rw [Chan.ticked_of_same h hacc, Chan.countDown_eq]
      · rw [Chan.ticked_of_first h hd hacc, Chan.countDown_eq]
      · rw [Chan.ticked_of_second h hd hacc, Chan.countDown_eq]
      · exact Chan.ticked_of_accepted h hd
    · rw [htrun, htacc]
      simp [ticked, h]
    · rw [htrun, htacc]
      simp [ticked, h, hlt, htamper]
    · rw [htrun, htacc]
      simp [ticked, h, hle.not_gt]
    · rw [htass, (ticked_tmp_keeps _ _ _ _).1]
    · rw [htlatch, (ticked_tmp_keeps _ _ _ _).2]
  · intro now down u t
    refine ⟨fun hsus => ?_, fun hsus => ?_, fun h => ?_⟩
    · rw [tickWork_kdr]
      have hoff : tickDrivers (tickStart fb tm s) = tickStart fb tm s := if_pos hsus
      rw [hoff]
      rfl
    · rw [tickWork_kdr]
      exact congrArg State.kdr (if_neg (ne_true_of_eq_false hsus))
    · have ht : t = ticked fb tm t.kdr.chans s := tickWork_eq h fb tm
      generalize t = t' at *
      rw [ht]
      and_intros <;> rfl
  · intro run each stale old channels s0 s1 s2 s3 s4 s5 s6 s7 s8 s9 s10 s11 s12
    have h0 : takeEvent (s.pwr.mode == .startup && s.nvs.sel == .unread) id s = s0 := by
      simp only [takeEvent, Bool.and_eq_true, beq_iff_eq]
      rfl
    have h1 : takeEach (fun i s => takeEvent (s.slotDue i) (slotTaken i) s) (List.range 8) s0 = s1 := takeEach_eq_foldl _ _ _
    have h2 : takeEach (fun i s => takeEvent (s.cell i).staleDue (freshnessTaken i) s) (cellsWith (·.staleDue) 0 s1.cells) s1 = s2 :=
      takeEach_cellsWith _ _ _
    have h3 : takeEach (fun i s => takeEvent (refDue s.prof (s.cell i)) (referenceTaken i) s) (cellsWith (refDue s2.prof) 0 s2.cells) s2
        = s3 := by
      simp only [takeEach_cellsWith, refDue_eq_any]
      rfl
    have h4 : takeEvent s3.ocDue overCurrentTaken s3 = s4 := by
      simp only [takeEvent, State.ocDue, Bool.and_eq_true, decide_eq_true_eq]
      rfl
    have h5 : takeEach (fun k s => takeEvent (s.chan k).acceptDue (feedbackTaken k) s) (List.range 4) s4 = s5 :=
      takeEach_eq_foldl _ _ _
    have h6 : takeEach (fun k s => takeEvent ((s.chan k).pullIn == some 0) (pullInTaken k) s) (List.range 4) s5 = s6 :=
      takeEach_eq_foldl _ _ _
    have h7 : takeEach (fun k s => takeEvent ((s.chan k).st == .closing && (s.chan k).superv == some 0) (makeMaxTaken k) s)
        (List.range 4) s6 = s7 := takeEach_eq_foldl _ _ _
    have h8 : takeEach (fun k s => takeEvent ((s.chan k).st == .opening && (s.chan k).superv == some 0) (breakMaxTaken k) s)
        (List.range 4) s7 = s8 := takeEach_eq_foldl _ _ _
    have h9 : takeEach (fun k s => takeEvent ((s.chan k).settling == some 0) (settlingTaken k) s) (List.range 4) s8 = s9 :=
      takeEach_eq_foldl _ _ _
    have h10 : takeEvent s9.timerDue stepTimerTaken s9 = s10 := by
      rw [timerDue_eq_any]
      rfl
    have h11 : takeEvent s10.sleepDue sleepTimerTaken s10 = s11 := by
      simp only [takeEvent, State.sleepDue, Bool.and_eq_true, beq_iff_eq]
      rfl
    have h12 : takeEvent s11.tmp.acceptDue (fun s => if s.tmp.asserted then tamperReleaseTaken s else tamperTaken s) s11 = s12 := by
      clear_value s11
      cases ha : s11.tmp.asserted <;> simp only [takeEvent, s12, ha] <;> rfl
    have hwork : dueWork s = takeEvent s12.frameDue frameJudged s12 := by
      simp only [dueWork, h0, h1, h2, h3, h4, h5, h6, h7, h8, h9, h10, h11, h12]
    refine ⟨fun bs u hrx hw => ?_, fun hno => ?_⟩
    · rw [hwork, takeEvent, if_pos ((frameDue_iff s12).2 ⟨bs, u, hrx, hw⟩)]
      rfl
    · refine hwork.trans (takeEvent_of_not_due (Bool.eq_false_iff.2 fun hdue => ?_) _ _)
      obtain ⟨bs, u, hrx, hw⟩ := (frameDue_iff s12).1 hdue
      exact absurd hw (ne_true_of_eq_false (hno bs u hrx))
  · intro idles
    have hidle : ∀ (c : Instr) (f : State → State), exec c s = event f s → f s = s → idles c := fun c f hc hf =>
      hc.trans (event_of_unchanged hf)
    exact ⟨fun i h => hidle _ _ rfl (slotTaken_of_not_due h), fun i h => hidle _ _ rfl (freshnessTaken_of_not_due h),
      fun i h => hidle _ _ rfl (referenceTaken_of_not_due h), fun h => hidle _ _ rfl (overCurrentTaken_of_not_due h),
      fun k h => hidle _ _ rfl (feedbackTaken_of_not_due h), fun k h => hidle _ _ rfl (pullInTaken_of_not_due h),
      fun k h => hidle _ _ rfl (makeMaxTaken_of_not_due h), fun k h => hidle _ _ rfl (breakMaxTaken_of_not_due h),
      fun k h => hidle _ _ rfl (settlingTaken_of_not_due h), fun h => hidle _ _ rfl (stepTimerTaken_of_not_due h),
      fun h => hidle _ _ rfl (sleepTimerTaken_of_not_due h), fun h => hidle _ _ rfl (tamperTaken_of_not_due h),
      fun h => hidle _ _ rfl (tamperReleaseTaken_of_not_due h)⟩
  · intro now falls
    have hfalls : s.instants.contains s.now = true ↔ falls := instants_contains_iff s now
    refine ⟨fun hp => ?_, fun h => ?_, fun hm hno => ?_⟩
    · simp only [step, hp, idle]
    · exact if_pos (h.imp_right hfalls.2)
    · exact if_neg (not_or.2 ⟨hm, fun h => hno (hfalls.1 h)⟩)

end Sys2Proof.Machine
end

section
/-! SUPPORT. What a request on the chain comes to without a good reply and what an IDENT comes to: the end marking, the end of an
enumeration, and the chain's return to IDLE with what waited for it. -/
namespace Sys2Proof.Machine

/-! ## MODULE_LOST follows the table (R29) -/

/-- Whether some populated position is lost is read from the profile and the module table alone. -/
theorem someLost_of_same {s t : State} (hprof : t.prof = s.prof) (hmod : t.chn.modules = s.chn.modules) : t.someLost = s.someLost := by
  simp only [State.someLost, State.modEntry, hprof, hmod]

theorem condSet_of_same {s t : State} (h : t.cnd.set = s.cnd.set) (c : Cond) : t.condSet c = s.condSet c := by
  simp only [State.condSet, h]

theorem condSet_judgeModuleLost (c : Cond) (s : State) :
    (judgeModuleLost s).condSet c = if c = .moduleLost then s.someLost else s.condSet c :=
  condSet_liveCond .moduleLost c s.someLost s

/-- The judgement of a condition does not see what the chain master awaits. -/
theorem liveCond_setChn (c : Cond) (holds : Bool) (s : State) (x : Chn) :
    liveCond c holds (s.setChn x) = (liveCond c holds s).setChn x := by
  have hset : (s.setChn x).condSet c = s.condSet c := rfl
  cases holds
  · rfl
  · show setCond c (s.setChn x) = (setCond c s).setChn x
    rw [setCond, setCond, hset]
    split <;> rfl

theorem judgeModuleLost_setChn {s : State} {x : Chn} (h : x.modules = s.chn.modules) :
    judgeModuleLost (s.setChn x) = (judgeModuleLost s).setChn x :=
  (liveCond_setChn .moduleLost (s.setChn x).someLost s x).trans
    (congrArg (fun b => (liveCond .moduleLost b s).setChn x) (someLost_of_same rfl h))

/-! ## The end marking (R33) -/

theorem endMark_eq (p : Profile) (i : Nat) (m : ModEntry) :
    endMark p i m = { m with
      present := false, misses := if i < p.moduleCount then 3 else 0, lost := decide (i < p.moduleCount) } := by
  by_cases h : i < p.moduleCount <;> simp [endMark, h]

/-- The end marking takes the position and every higher one, and no other. -/
theorem modEntry_endMarking (k i : Nat) (s : State) :
    (endMarking k s).modEntry i
      = if k ≤ i ∧ i < s.chn.modules.length then endMark s.prof i (s.modEntry i) else s.modEntry i := by
  simp only [endMarking, State.modEntry, judgeModuleLost_frame, State.setChn_chn, List.getD_eq_getElem?_getD, List.getElem?_map]
  by_cases hi : i < s.chn.modules.length
  · by_cases hk : k ≤ i <;> simp [hi, hk]
  · simp [hi]

/-- After the end marking MODULE_LOST says whether some populated position is lost, and no other condition has changed. -/
theorem condSet_endMarking (k : Nat) (c : Cond) (s : State) :
    (endMarking k s).condSet c = if c = .moduleLost then (endMarking k s).someLost else s.condSet c :=
  (condSet_judgeModuleLost c _).trans (if_congr Iff.rfl (someLost_of_same (by simp [endMarking]) (by simp [endMarking])).symm rfl)

/-! ## The chain's return to IDLE (R36) -/

section
variable {s : State}

theorem chainIdle_of_downWanted (h : s.chn.downWanted = true) :
    chainIdle s = s.setChn { s.chn with st := .poweredDown, downWanted := false } := if_pos h

theorem chainIdle_of_readyOwed (hd : s.chn.downWanted = false) (hr : s.chn.readyOwed = true) :
    chainIdle s = chainReport (s.setChn { s.chn with readyOwed := false }) := by
  rw [chainIdle, if_neg (ne_true_of_eq_false hd), if_pos hr]

theorem chainIdle_of_nothing_waiting (hd : s.chn.downWanted = false) (hr : s.chn.readyOwed = false) : chainIdle s = s := by
  rw [chainIdle, if_neg (ne_true_of_eq_false hd), if_neg (ne_true_of_eq_false hr)]

/-- Outside SLEEP_SWEEP the power controller only notes the ready report. -/
theorem chainReport_of_mode (h : s.pwr.mode ≠ .sleepSweep) : chainReport s = s.setPwr { s.pwr with waitChain := false } :=
  if_neg fun hmode => h hmode.1

/-- Outside SLEEP_SWEEP the return to IDLE leaves the module table, what is awaited and the conditions, and begins no enumeration. -/
theorem chainIdle_keeps (h : s.pwr.mode ≠ .sleepSweep) :
    (chainIdle s).chn.modules = s.chn.modules ∧ (chainIdle s).chn.wait = s.chn.wait ∧ (chainIdle s).cnd = s.cnd
    ∧ (chainIdle s).pwr.mode = s.pwr.mode ∧ (s.chn.st ≠ .enumerating → (chainIdle s).chn.st ≠ .enumerating) := by
  cases hd : s.chn.downWanted with
  | true => simp [chainIdle_of_downWanted hd]
  | false =>
    cases hr : s.chn.readyOwed with
    | true =>
      rw [chainIdle_of_readyOwed hd hr, chainReport_of_mode (by simpa using h)]
      simp
    | false => simp [chainIdle_of_nothing_waiting hd hr]

end

/-- The arbiter leaves the chain master as it is, or it grants a launch: the chain master is sweeping then and awaits nothing (R10). -/
theorem arbiter_chn_cases (s : State) :
    (arbiter s).chn = s.chn
    ∨ (arbiter s).chn = { s.chn with sweepTag := s.chn.sweepTag + 1, st := .sweeping, wait := .nothing } := by
  unfold arbiter
  split
  · split
    · exact .inr rfl
    · exact .inr rfl
    · exact .inr rfl
    · exact .inl rfl
  · exact .inl rfl

/-! ## The end of an enumeration (R9, R33, R36, R153) -/

/-- An enumeration has stopped at a position: the chain is IDLE and awaits nothing, and STARTUP knows that its stage is over. -/
def enumerationStopped (k : Nat) (s : State) : State :=
  let t := (endMarking k s).setChn { (endMarking k s).chn with st := .idle, wait := .nothing }
  if s.pwr.mode = .startup then t.setPwr { s.pwr with enumEnded := true } else t

theorem enumerationEnds_eq (k : Nat) (s : State) : enumerationEnds k s = arbiter (chainIdle (enumerationStopped k s)) := by
  simp only [enumerationEnds, enumerationStopped, endMarking_frame, State.setChn_pwr]

theorem enumerationStopped_keeps (k : Nat) (s : State) :
    (enumerationStopped k s).chn = { (endMarking k s).chn with st := .idle, wait := .nothing }
    ∧ (enumerationStopped k s).cnd = (endMarking k s).cnd ∧ (enumerationStopped k s).pwr.mode = s.pwr.mode := by
  unfold enumerationStopped
  dsimp only
  split <;> simp

/-- Outside SLEEP_SWEEP an enumeration that has ended leaves the table and the conditions of its end marking; the chain master awaits
nothing and enumerates no more, also when the arbiter has granted a launch. -/
theorem enumerationEnds_keeps (k : Nat) {s : State} (h : s.pwr.mode ≠ .sleepSweep) :
    (enumerationEnds k s).chn.modules = (endMarking k s).chn.modules ∧ (enumerationEnds k s).cnd = (endMarking k s).cnd
    ∧ (enumerationEnds k s).pwr.mode = s.pwr.mode ∧ (enumerationEnds k s).chn.st ≠ .enumerating
    ∧ (enumerationEnds k s).chn.wait = .nothing := by
  obtain ⟨hchn, hcnd, hmode⟩ := enumerationStopped_keeps k s
  obtain ⟨hmods, hwait, hcnd', hmode', hst⟩ := chainIdle_keeps (s := enumerationStopped k s) (hmode ▸ h)
  rw [hchn] at hmods hwait hst
  rw [enumerationEnds_eq]
  rcases arbiter_chn_cases (chainIdle (enumerationStopped k s)) with harb | harb <;>
    simp [harb, hmods, hwait, hcnd, hcnd', hmode, hmode', hst]

/-! ## The outcome of an IDENT (R31, R32) -/

/-- The table and the conditions after an IDENT that gave no good reply: its outcome, and CHAIN_ERROR when the reply was bad or the
position is populated (R31). -/
def identFailed (k : Nat) (o : MonitorReply) (s : State) : State :=
  if o.outcome = .badCrc ∨ k < s.prof.moduleCount then setCond .chainError (s.setMod k { s.modEntry k with last := o.outcome })
  else s.setMod k { s.modEntry k with last := o.outcome }

theorem identDone_of_failed {o : MonitorReply} (h : o.outcome ≠ .good) (k : Nat) (s : State) :
    identDone k o s = enumerationEnds k (identFailed k o s) := if_neg h

/-- A good IDENT below the last position: the next one goes out. -/
theorem identDone_of_good {o : MonitorReply} (h : o.outcome = .good) {k : Nat} (hk : k < 11) (s : State) :
    identDone k o s = sendIdent (k + 1) (judgeModuleLost (s.setMod k (goodEntry o (s.modEntry k)))) := by
  rw [identDone, if_pos h]
  exact if_pos hk

/-- A good IDENT of the last position: no position is left unanswered. -/
theorem identDone_of_good_last {o : MonitorReply} (h : o.outcome = .good) {k : Nat} (hk : ¬ k < 11) (s : State) :
    identDone k o s = enumerationEnds 12 (judgeModuleLost (s.setMod k (goodEntry o (s.modEntry k)))) := by
  rw [identDone, if_pos h]
  exact if_neg hk

@[simp] theorem identFailed_frame (k : Nat) (o : MonitorReply) (s : State) :
    (identFailed k o s).chn = (s.setMod k { s.modEntry k with last := o.outcome }).chn ∧ (identFailed k o s).prof = s.prof
    ∧ (identFailed k o s).pwr = s.pwr ∧ (identFailed k o s).upd = s.upd := by
  unfold identFailed
  split <;> simp

theorem identFailed_chainError (k : Nat) (o : MonitorReply) (s : State) :
    (identFailed k o s).condSet .chainError = (s.condSet .chainError || decide (o.outcome = .badCrc ∨ k < s.prof.moduleCount)) := by
  unfold identFailed
  split
  · rename_i h
    rw [decide_eq_true h, Bool.or_true]
    exact condSet_liveCond .chainError .chainError true _
  · rename_i h
    rw [decide_eq_false h, Bool.or_false]
    rfl

/-! ## The judgement of an IDENT reply (R26) -/

/-- An IDENT reply holds: its check, its kind and its position. -/
theorem identHolds_iff (k : Nat) (bs : List Byte) :
    replyHolds 5 0xB0 k bs = true
      ↔ crc8 ((bs.take 4).drop 1) = bs.getD 4 0 ∧ bs.getD 1 0 = 0xB0 ∧ (bs.getD 2 0).toNat = k := by
  simp [replyHolds, and_assoc]

theorem judgeIdent_of_good {k : Nat} {bs : List Byte} (h : replyHolds 5 0xB0 k bs = true) :
    judgeIdent k bs = { outcome := .good, status := some (bs.getD 3 0), codes := [] } := if_pos h

theorem judgeIdent_of_bad {k : Nat} {bs : List Byte} (h : ¬ replyHolds 5 0xB0 k bs = true) : judgeIdent k bs = badReply := if_neg h

/-! ## The events of the chain -/

/-- The window of a READ ends: a miss, and the next READ (R25, R26, R30). -/
theorem exec_replyWindowEnd_of_read {s : State} {k : Nat} {u : Time} {w : SweepRec} (hwait : s.chn.wait = .read k u)
    (hw : s.sch.sweep = some w) :
    exec .replyWindowEnd s = .next (finish (readFrom (k + 1) (readEntry k noReply (advanceTo u s)))) := by
  have hw' : (advanceTo u s).sch.sweep = some w := by simpa using hw
  show Host.Outcome.next (finish (replyWindowEnds s)) = _
  simp only [replyWindowEnds, hwait, readDone_eq hw', if_neg (show noReply.outcome ≠ .good by decide)]

/-- The window of an IDENT ends: the enumeration stops at the position (R26, R32). -/
theorem exec_replyWindowEnd_of_ident {s : State} {k : Nat} {u : Time} (hwait : s.chn.wait = .ident k u) :
    exec .replyWindowEnd s = .next (finish (enumerationEnds k (identFailed k noReply (advanceTo u s)))) := by
  show Host.Outcome.next (finish (replyWindowEnds s)) = _
  simp only [replyWindowEnds, hwait, identDone_of_failed (o := noReply) (by decide)]

/-- A complete reply to an IDENT (R26). -/
theorem exec_chainReply_of_ident {s : State} {k : Nat} {u : Time} {bs : List Byte} (hwait : s.chn.wait = .ident k u)
    (hlen : 5 ≤ bs.length) : exec (.chainReplyComplete bs) s = .next (finish (identDone k (judgeIdent k bs) s)) := by
  show Host.Outcome.next (finish (chainReply bs s)) = _
  simp only [chainReply, hwait, if_pos hlen]

/-- The power-up interval ends: pack time stands at its end, and the chain is IDLE (R36). -/
theorem exec_chainPowerUpDone_of_powering {s : State} {u : Time} (hst : s.chn.st = .powering) (hend : s.chn.powerUpEnd = some u) :
    exec .chainPowerUpDone s
      = .next (finish (chainIdle ((advanceTo u s).setChn { s.chn with st := .idle, powerUpEnd := none }))) := by
  show Host.Outcome.next (finish (chainUp s)) = _
  simp only [chainUp, hst, hend, advanceTo_frame]

/-! ## The claims -/

/-- In RUN with another position left to read, the end of a READ's window leaves what the miss did, the next reply awaited. -/
theorem replyWindowEnd_of_read_inRun {s : State} {k j : Nat} {u : Time} {w : SweepRec} (hrun : s.inRun)
    (hwait : s.chn.wait = .read k u) (hw : s.sch.sweep = some w) (hnext : nextPosition w.requested (k + 1) j) :
    ∃ t, exec .replyWindowEnd s = .next t ∧ t.tim = (advanceTo u s).tim
      ∧ t.chn = { (readEntry k noReply (advanceTo u s)).chn with wait := .read j (t.tim.packTime + 420#32) }
      ∧ t.sch = s.sch ∧ t.cells = s.cells ∧ t.cnd.set = (readEntry k noReply (advanceTo u s)).cnd.set := by
  have hexec := exec_replyWindowEnd_of_read hwait hw
  rw [readFrom_of_next (by simpa using hw) hnext] at hexec
  generalize hx : readEntry k noReply (advanceTo u s) = x at hexec ⊢
  have hxrun : (sendRead j x).inRun := by simpa [State.inRun, ← hx] using hrun
  obtain ⟨hsch, hchn, -, hcells, -, -, -, -, hset, -⟩ := finish_inRun_keeps hxrun
  refine ⟨_, hexec, by simp [← hx], ?_, by rw [hsch]; simp [← hx], by rw [hcells]; simp [← hx], by rw [hset]; simp⟩
  rw [hchn]
  simp only [finish_frame, sendRead_frame]
  rfl

/-- In RUN, an enumeration that stops at a position: what its end marking leaves is what the event leaves. -/
theorem finish_enumerationEnds_inRun (k : Nat) {s : State} (hrun : s.inRun) :
    (∀ i, (finish (enumerationEnds k s)).modEntry i = (endMarking k s).modEntry i)
    ∧ (finish (enumerationEnds k s)).chn.st ≠ .enumerating ∧ (finish (enumerationEnds k s)).chn.wait = .nothing
    ∧ (finish (enumerationEnds k s)).condSet .moduleLost = (finish (enumerationEnds k s)).someLost
    ∧ (finish (enumerationEnds k s)).condSet .chainError = s.condSet .chainError := by
  obtain ⟨hmode, hact⟩ := hrun
  obtain ⟨hmods, hcnd, hmode', hst, hwait⟩ := enumerationEnds_keeps k (s := s) (by simp [hmode])
  obtain ⟨-, hchn, -, -, -, -, -, hprof, hset, -⟩ :=
    finish_inRun_keeps (s := enumerationEnds k s) ⟨hmode'.trans hmode, by simpa using hact⟩
  generalize finish (enumerationEnds k s) = t at *
  have hmarked : t.chn.modules = (endMarking k s).chn.modules := by rw [hchn, hmods]
  have hcond : ∀ c, t.condSet c = (endMarking k s).condSet c := condSet_of_same (by rw [hset, hcnd])
  refine ⟨modEntry_of_chn hmarked, hchn ▸ hst, hchn ▸ hwait, ?_, ?_⟩
  · rw [hcond, condSet_endMarking, if_pos rfl]
    exact (someLost_of_same (by simp [hprof]) hmarked).symm
  · rw [hcond, condSet_endMarking, if_neg (by decide)]

/-- Settles O40: the two windows in RUN from what the miss and the end marking leave; then the ends as they are in every mode. -/
theorem replyWindowEndIsAMissOrEndsEnumeration : Obligations.ReplyWindowEndIsAMissOrEndsEnumeration := by
  refine ⟨fun s k j u w hrun hwait hw hk hnext => ?_, fun s k u hrun hwait hlen => ?_,
    fun s k u w hwait hw => exec_replyWindowEnd_of_read hwait hw, fun s k u hwait => ?_, fun s k => ?_, fun s => ?_⟩
  · obtain ⟨t, hexec, htim, hchn, hsch, hcells, hset⟩ := replyWindowEnd_of_read_inRun hrun hwait hw hnext
    have hmod : ∀ i, t.modEntry i = if i = k then missEntry noReply (s.modEntry k) else s.modEntry i := fun i => by
      rw [modEntry_of_chn (t := readEntry k noReply (advanceTo u s)) (by rw [hchn]), modEntry_readEntry (by simpa using hk)]
      simp [State.modEntry, noReply]
    refine ⟨t, hexec, htim, by rw [hchn], hsch, hcells, ?_, by rw [hmod, if_pos rfl]; rfl, fun i hi => by rw [hmod, if_neg hi]⟩
    rw [condSet_of_same hset]
    exact readEntry_chainError (by decide) k _
  · have hxrun : (identFailed k noReply (advanceTo u s)).inRun := by simpa [State.inRun] using hrun
    obtain ⟨hmod, hst, hwait', hlost, herr⟩ := finish_enumerationEnds_inRun k hxrun
    have hentry : ∀ i, (identFailed k noReply (advanceTo u s)).modEntry i
        = if i = k ∧ k < s.chn.modules.length then { s.modEntry k with last := .noReply } else s.modEntry i := fun i => by
      rw [modEntry_of_chn (congrArg Chn.modules (identFailed_frame k noReply (advanceTo u s)).1), modEntry_setMod]
      simp [State.modEntry, noReply]
    refine ⟨_, exec_replyWindowEnd_of_ident hwait, fun i hi => ?_, fun i hki hi => ?_, hst, hwait', hlost, ?_⟩
    · rw [hmod, modEntry_endMarking, if_neg (by omega), hentry, if_neg (by omega)]
    · rw [hmod, modEntry_endMarking, if_pos ⟨hki, by simp [State.setMod, hlen, hi]⟩, endMark_eq, hentry]
      by_cases hik : i = k
      · subst hik
        simp [hlen, hi]
      · simp [hik]
    · rw [herr, identFailed_chainError]
      simp [noReply, State.condSet]
  · intro m
    have hexec := exec_replyWindowEnd_of_ident hwait
    have hm : (advanceTo u s).setMod k { (advanceTo u s).modEntry k with last := noReply.outcome } = m := by
      simp [State.setMod, State.modEntry, m, noReply]
    refine ⟨fun hk => ?_, fun hk => ?_⟩
    · rw [hexec, identFailed, if_pos (.inr (by simpa using hk)), hm]
    · rw [hexec, identFailed, if_neg (by simpa [noReply] using hk), hm]
  · intro marked judged
    have hmodules : ((List.range s.chn.modules.length).map fun i => if k ≤ i then endMark s.prof i (s.modEntry i) else s.modEntry i)
        = marked.chn.modules := by
      refine List.map_congr_left fun i _ => ?_
      rw [endMark_eq]
      by_cases hi : i < k
      · rw [if_neg (by omega), if_pos hi]
      · rw [if_pos (by omega), if_neg hi]
    have hmarking : (endMarking k s).setChn { (endMarking k s).chn with st := .idle, wait := .nothing } = judged := by
      rw [endMarking, hmodules]
      simp only [judgeModuleLost_frame]
      exact (judgeModuleLost_setChn (s := s.setChn { s.chn with modules := marked.chn.modules }) (x := marked.chn) rfl).symm
    rw [enumerationEnds_eq, enumerationStopped, hmarking]
    exact ⟨fun h => by rw [if_neg h], fun h => by rw [if_pos h]⟩
  · exact ⟨chainIdle_of_downWanted, chainIdle_of_readyOwed, chainIdle_of_nothing_waiting, chainReport_of_mode⟩

/-- In RUN a good reply to an IDENT below the last position: the module is present, and the next IDENT's reply is awaited. -/
theorem exec_identReply_inRun {s : State} {k : Nat} {u : Time} {bs : List Byte} (hrun : s.inRun) (hwait : s.chn.wait = .ident k u)
    (hk : k < 11) (hlen : 5 ≤ bs.length) (hgood : (judgeIdent k bs).outcome = .good) :
    ∃ t, exec (.chainReplyComplete bs) s = .next t
      ∧ t.chn = { s.chn with
          modules := s.chn.modules.set k (goodEntry (judgeIdent k bs) (s.modEntry k))
          wait := .ident (k + 1) (s.tim.packTime + 420#32) }
      ∧ t.condSet .moduleLost = t.someLost ∧ t.sch = s.sch ∧ t.cells = s.cells ∧ t.tim = s.tim := by
  have hexec := exec_chainReply_of_ident hwait hlen
  rw [identDone_of_good hgood hk] at hexec
  generalize hx : s.setMod k (goodEntry (judgeIdent k bs) (s.modEntry k)) = x at hexec
  have hxrun : (sendIdent (k + 1) (judgeModuleLost x)).inRun := by simpa [State.inRun, ← hx, State.setMod] using hrun
  obtain ⟨hsch, hchn, -, hcells, -, -, -, hprof, hset, -⟩ := finish_inRun_keeps hxrun
  refine ⟨_, hexec, ?_, ?_, by rw [hsch]; simp [← hx, State.setMod], by rw [hcells]; simp [← hx, State.setMod],
    by simp [← hx, State.setMod]⟩
  · rw [hchn]
    simp [sendIdent, replyEnd, State.now, us, ← hx, State.setMod]
  · rw [condSet_of_same (t := finish _) (s := judgeModuleLost x) (by rw [hset]; simp), condSet_judgeModuleLost, if_pos rfl]
    exact (someLost_of_same (by rw [hprof]; simp) (by rw [hchn]; simp [sendIdent])).symm

/-- Settles O41: the reply in RUN from what a good IDENT leaves; then the reply's three outcomes, what decides nothing, and the end of
the power-up interval by what waited for it. -/
theorem identReplyAndChainPowerUp : Obligations.IdentReplyAndChainPowerUp := by
  refine ⟨fun s k u bs hrun hwait hk _ hlen hcrc hkind hpos => ?_, fun s k u bs hwait hlen => ?_, fun s k u bs hno => ?_,
    fun s u hst hend => ?_⟩
  · have hjudge := judgeIdent_of_good ((identHolds_iff k bs).2 ⟨hcrc, hkind, hpos⟩)
    obtain ⟨t, hexec, hchn, hrest⟩ := exec_identReply_inRun hrun hwait hk hlen.ge (by rw [hjudge])
    exact ⟨t, hexec, by rw [hchn, hjudge]; rfl, hrest⟩
  · intro holds written good
    have hexec := exec_chainReply_of_ident hwait hlen
    have hjudge : holds → judgeIdent k bs = { outcome := .good, status := some (bs.getD 3 0), codes := [] } := fun h =>
      judgeIdent_of_good ((identHolds_iff k bs).2 h)
    refine ⟨fun h hk => ?_, fun h hk => ?_, fun h => ?_⟩
    · rw [hexec, identDone_of_good (by rw [hjudge h]) hk, hjudge h, sendIdent, replyEnd, State.now]
      simp only [judgeModuleLost_frame]
      rfl
    · rw [hexec, identDone_of_good_last (by rw [hjudge h]) (by omega), hjudge h]
      rfl
    · have hbad := judgeIdent_of_bad fun hh => h ((identHolds_iff k bs).1 hh)
      rw [hexec, hbad, identDone_of_failed (by decide), identFailed, if_pos (.inl rfl)]
      rfl
  · have hstands : chainReply bs s = s := by
      rcases hno with ⟨hwait, hlen⟩ | ⟨hwait, hlen⟩ | hwait | hwait <;> simp only [chainReply, hwait]
      · exact if_neg (by omega)
      · exact if_neg (by omega)
    exact congrArg (fun t => Host.Outcome.next (finish t)) hstands
  · intro s1
    have hexec := exec_chainPowerUpDone_of_powering hst hend
    refine ⟨fun hd => ?_, fun hd hr => ?_, fun hd hr => ?_⟩
    · rw [hexec, chainIdle_of_downWanted (by simpa using hd)]
      rfl
    · rw [hexec, chainIdle_of_nothing_waiting (by simpa using hd) (by simpa using hr)]
    · intro up
      rw [hexec, chainIdle_of_readyOwed (by simpa using hd) (by simpa using hr)]
      refine ⟨fun hmode => ?_, fun _ => rfl⟩
      rw [chainReport_of_mode (by simpa using hmode)]
      simp [up, s1]

end Sys2Proof.Machine
end

section
/-! SUPPORT. The sizes that no run exceeds (R43, R171, R194) and the canonical form of the staging buffer, block by block: four
operations let one of them grow, and each of the four stops at its bound; everything else keeps or empties. -/
namespace Sys2Proof.Machine

/-! ## What keeps or empties -/

/-- Where nothing grows, the sizes stay within their bounds. -/
theorem State.sized.mono {s t : State} (h : s.sized)
    (hle : t.ana.ring.length ≤ s.ana.ring.length ∧ t.pli.holding.length ≤ s.pli.holding.length
      ∧ t.nvs.queue.length ≤ s.nvs.queue.length ∧ (t.upd.staging = s.upd.staging ∨ t.upd.staging = [])) : t.sized := by
  obtain ⟨hring, hhold, hqueue, hst⟩ := h
  obtain ⟨hring', hhold', hqueue', hst'⟩ := hle
  refine ⟨hring'.trans hring, hhold'.trans hhold, hqueue'.trans hqueue, ?_⟩
  rcases hst' with e | e <;> rw [e]
  · exact hst
  · rfl

section
variable {s t : State}

theorem ite_sized {p : Prop} [Decidable p] (hs : s.sized) (ht : t.sized) : (if p then s else t).sized := by
  split
  · exact hs
  · exact ht

/-! ## The NV engine (R171 to R174) -/

theorem NvOp.room_le (op : NvOp) : op.room ≤ 6 := by
  unfold NvOp.room
  split <;> decide

/-- The queue grows by an offer that finds room, and by nothing else. -/
theorem offerOp_sized {op : NvOp} (h : s.sized) (ho : offerOp op s = some t) : t.sized := by
  rcases offerOp_cases op s with ⟨e, -⟩ | ⟨e, hroom⟩ | ⟨e, -⟩ <;> rw [e] at ho <;> cases ho
  · exact h
  · obtain ⟨hring, hhold, -, hst⟩ := h
    have hop := op.room_le
    exact ⟨hring, hhold, by simp only [State.setNvs_nvs, List.length_append, List.length_singleton]; omega, hst⟩

theorem offerSure_sized (op : NvOp) (h : s.sized) : (offerSure op s).sized := by
  unfold offerSure
  cases ho : offerOp op s with
  | none => exact h
  | some t => exact offerOp_sized h ho

@[simp] theorem setBankStatus_queue (x : AB) (st : BankStatus) (s : State) : (setBankStatus x st s).nvs.queue = s.nvs.queue := by
  cases x <;> rfl

@[simp] theorem beginEffects_keeps (op : NvOp) (s : State) :
    (beginEffects op s).nvs.queue = s.nvs.queue ∧ (beginEffects op s).upd.staging = s.upd.staging := by
  unfold beginEffects
  split
  · dsimp only
    split <;> simp
  all_goals simp

/-- An operation that begins leaves the queue. -/
theorem nvBegin_sized (h : s.sized) : (nvBegin s).sized := by
  unfold nvBegin
  split
  · exact h
  · split
    · exact h
    · exact h.mono (by simp [List.length_erase_le])

@[simp] theorem floorRaised_queue (x : AB) (s : State) : (floorRaised x s).nvs.queue = s.nvs.queue := by
  unfold floorRaised
  (repeat' split) <;> simp

@[simp] theorem anchorInForce_queue (slot : AB) (c : Anchor) (s : State) : (anchorInForce slot c s).nvs.queue = s.nvs.queue := by
  simp [anchorInForce]

theorem dropOps_sized (f : NvOp → Bool) (h : s.sized) : (dropOps f s).sized :=
  (h.mono (by simp [dropOps, List.length_filter_le]))

theorem requestWear_sized (h : s.sized) (hw : requestWear s = some t) : t.sized := by
  unfold requestWear at hw
  split at hw
  · cases hw
    exact h
  · obtain ⟨u, hu, rfl⟩ := Option.map_eq_some_iff.1 hw
    exact (offerOp_sized h hu).mono (by simp)

/-! ## The analog channels (R41 to R49) -/

@[simp] theorem anaPowerDown_ring (s : State) : (anaPowerDown s).ana.ring = [] := by simp [anaPowerDown]

@[simp] theorem anaPowerUp_ring (s : State) : (anaPowerUp s).ana.ring = [] := by
  unfold anaPowerUp
  split <;> rfl

@[simp] theorem classEntry_ring (e : RingEntry) (s : State) : (classEntry e s).ana.ring = s.ana.ring := by
  unfold classEntry
  split <;> rfl

@[simp] theorem countReady_ring (s : State) : (countReady s).ana.ring = s.ana.ring := by
  unfold countReady
  split <;> rfl

@[simp] theorem tickOverCurrent_ring (s : State) : (tickOverCurrent s).ana.ring = s.ana.ring := by
  unfold tickOverCurrent
  split <;> rfl

@[simp] theorem overCurrentTaken_ring (s : State) : (overCurrentTaken s).ana.ring = s.ana.ring := by
  unfold overCurrentTaken
  dsimp only
  (repeat' split) <;> simp

theorem length_appendRing {ring : List RingEntry} (h : ring.length ≤ 64) (e : RingEntry) : (appendRing ring e).length ≤ 64 := by
  unfold appendRing
  split <;> simp only [List.length_append, List.length_drop, List.length_singleton] <;> omega

/-- The ring grows at an arrival, and the oldest of 64 entries leaves it then (R43). -/
theorem appendEntry_sized (e : RingEntry) (h : s.sized) : (appendEntry e s).sized := by
  have hended : (if s.ana.fault then clearCond .analogFault (s.setAna { s.ana with fault := false, ring := [] }) else s).sized :=
    ite_sized (h.mono (by simp)) h
  obtain ⟨hring, hhold, hqueue, hst⟩ := hended
  exact ⟨length_appendRing hring e, hhold, hqueue, hst⟩

/-! ## The power controller (R155 to R165) -/

theorem beginWaking_sized (w : WakeSet) (h : s.sized) : (beginWaking w s).sized := h.mono (by simp [beginWaking])

theorem sleepDecision_sized (h : s.sized) : (sleepDecision s).sized := ite_sized (beginWaking_sized _ h) (h.mono (by simp))

theorem sleepLaunch_sized (h : s.sized) : (sleepLaunch s).sized := ite_sized (sleepDecision_sized h) (h.mono (by simp))

theorem launchIfReady_sized (h : s.sized) : (launchIfReady s).sized := ite_sized (sleepLaunch_sized h) h

theorem chainReport_sized (h : s.sized) : (chainReport s).sized := launchIfReady_sized (h.mono (by simp))

theorem anaReport_sized (h : s.sized) : (anaReport s).sized := launchIfReady_sized (h.mono (by simp))

theorem chainIdle_sized (h : s.sized) : (chainIdle s).sized :=
  ite_sized (h.mono (by simp)) (ite_sized (chainReport_sized (h.mono (by simp))) h)

theorem sleepExpire_sized (h : s.sized) : (sleepExpire s).sized := h.mono (by simp [sleepExpire])

theorem hostArrive_sized (h : s.sized) : (hostArrive s).sized := by
  unfold hostArrive
  split
  · exact beginWaking_sized _ h
  · exact h.mono (by simp)
  all_goals exact h

theorem tamperReport_sized (h : s.sized) : (tamperReport s).sized := by
  unfold tamperReport
  split
  · exact beginWaking_sized _ h
  · exact h.mono (by simp)
  · exact h.mono (by simp)
  all_goals exact h

theorem wakeIfPending_sized (h : s.sized) : (wakeIfPending s).sized := ite_sized (beginWaking_sized _ h) h

theorem enterSleep_sized (h : s.sized) : (enterSleep s).sized := wakeIfPending_sized (h.mono (by simp))

theorem entryOne_sized (h : s.sized) : (entryOne s).sized := by
  have hstage : (setEntryStage 2 s).sized := h.mono (by simp)
  refine ite_sized (nvBegin_sized ?_) h
  cases hw : requestWear (setEntryStage 2 s) with
  | none => exact hstage
  | some t => exact requestWear_sized hstage hw

theorem askActivation_sized (h : s.sized) : (askActivation s).sized := by
  unfold askActivation
  split
  · refine ite_sized h ?_
    split
    · rename_i ho
      exact (offerOp_sized h ho).mono (by simp)
    · exact h
  · exact h

theorem entryTwo_sized (h : s.sized) : (entryTwo s).sized := ite_sized (nvBegin_sized (askActivation_sized (h.mono (by simp)))) h

/-! ## The profile switch and sleep entry's last stages (R155, R156, R184, R185) -/

theorem applySwitch_sized (h : s.sized) : (applySwitch s).sized := by
  unfold applySwitch
  split
  · exact h
  · exact (h.mono (by simp [anaTake])) 

theorem entryThree_sized (h : s.sized) : (entryThree s).sized := by
  refine ite_sized ?_ h
  split
  · exact h
  · exact h
  · exact h.mono (by simp)
  · exact ite_sized ((applySwitch_sized h).mono (by simp)) (h.mono (by simp))

theorem entryFour_sized (h : s.sized) : (entryFour s).sized := ite_sized (ite_sized (enterSleep_sized h) (h.mono (by simp))) h

theorem lookAgain_sized (h : s.sized) : (lookAgain s).sized := ite_sized ((applySwitch_sized h).mono (by simp)) (h.mono (by simp))

theorem pursue_sized (h : s.sized) : (pursue s).sized := by
  have hheld : (if !s.upd.holding && s.quiet then holdSched s else s).sized := ite_sized (h.mono (by simp [holdSched])) h
  exact ite_sized (ite_sized (lookAgain_sized hheld) hheld) h

/-! ## The transmit path (R196) -/

@[simp] theorem linkPump_holding (s : State) : (linkPump s).pli.holding = s.pli.holding := by
  unfold linkPump beginWoke beginConditions
  dsimp only
  (repeat' split) <;> rfl

/-! ## Tamper and the end of an update (R181, R187) -/

theorem updFail_sized (r : UpdReason) (h : s.sized) : (updFail r s).sized := h.mono (by simp [updFail])

theorem cancelClear_sized (h : s.sized) : (cancelClear s).sized := by
  have hdropped := dropOps_sized (· == .anchorClear) h
  refine ite_sized ?_ h
  dsimp only
  split
  · exact ite_sized (hdropped.mono (by simp)) (hdropped.mono (by simp))
  · exact hdropped.mono (by simp)

theorem tamperUpdate_sized (h : s.sized) : (tamperUpdate s).sized := by
  unfold tamperUpdate
  split
  · exact h
  · exact updFail_sized _ h
  · exact updFail_sized _ h
  · exact ite_sized (updFail_sized _ (dropOps_sized _ h)) (h.mono (by simp))

theorem tamperMark_sized (h : s.sized) : (tamperMark s).sized := by
  unfold tamperMark
  split
  · exact offerSure_sized _ (h.mono (by simp))
  · exact h

theorem tamperActivation_sized (h : s.sized) : (tamperActivation s).sized := ite_sized ((dropOps_sized NvOp.isActivate h).mono (by simp)) h

theorem tamperEffects_sized (h : s.sized) : (tamperEffects s).sized := by
  have hoffered : (cancelClear (offerSure .anchorTamper
      (s.setTmp { s.tmp with latch := true, count := min 65535 (s.tmp.count + 1), held := false }))).sized :=
    cancelClear_sized (offerSure_sized _ (h.mono (by simp)))
  exact tamperReport_sized ((tamperActivation_sized (tamperMark_sized (tamperUpdate_sized hoffered))).mono (by simp))

theorem tamperAccept_sized (h : s.sized) : (tamperAccept s).sized := ite_sized (h.mono (by simp)) (tamperEffects_sized h)

/-! ## Start-up (R153, R175) -/

theorem readAnchors_sized (h : s.sized) : (readAnchors s).sized := by
  unfold readAnchors
  dsimp only
  split <;> exact h.mono (by simp)

theorem readWears_sized (h : s.sized) : (readWears s).sized := by
  unfold readWears
  dsimp only
  split <;> exact h.mono (by simp [takeWear])

theorem takeLatch_sized (h : s.sized) : (takeLatch s).sized := ite_sized (tamperEffects_sized (h.mono (by simp))) (h.mono (by simp))

theorem selectionOps_sized (h : s.sized) : (selectionOps s).sized := by
  have hfirst : (if s.leftPending .a then offerSure (.invalidate .a) s else s).sized := ite_sized (offerSure_sized _ h) h
  refine ite_sized (ite_sized (offerSure_sized _ hfirst) hfirst) ?_
  split
  · exact offerSure_sized _ h
  · exact h

theorem startupRead_sized (h : s.sized) : (startupRead s).sized := by
  have hread := readWears_sized (readAnchors_sized h)
  exact nvBegin_sized (selectionOps_sized (takeLatch_sized (hread.mono (by simp [classifyBanks]))))

theorem takeProfile_sized (p : Profile) (h : s.sized) : (takeProfile p s).sized := h.mono (by simp [takeProfile, anaTake])

theorem selectionEnd_sized (h : s.sized) : (selectionEnd s).sized := by
  unfold selectionEnd
  split
  · exact takeProfile_sized _ (h.mono (by simp))
  · exact (takeProfile_sized factoryProfile 
      (s := s.setNvs { s.nvs with active := none, activeVer := none, sel := .ended }) (h.mono (by simp))).mono (by simp)

theorem selectionProgress_sized (h : s.sized) : (selectionProgress s).sized := by
  have hread : (if s.nvs.sel = .unread then startupRead s else s).sized := ite_sized (startupRead_sized h) h
  exact ite_sized (selectionEnd_sized hread) hread

theorem startupProgress_sized (h : s.sized) : (startupProgress s).sized := ite_sized ((selectionProgress_sized h).mono (by simp)) h

/-- What every event ends with keeps the sizes. -/
theorem finish_sized (h : s.sized) : (finish s).sized := by
  have hentry := entryThree_sized (entryTwo_sized (entryOne_sized (pursue_sized (nvBegin_sized h))))
  have hwoken : (linkPump (wakeProgress (startupProgress (entryThree (entryTwo (entryOne (pursue (nvBegin s)))))))).sized :=
    (startupProgress_sized hentry).mono (by simp)
  dsimp only [finish]
  exact (entryFour_sized hwoken).mono (by simp)

/-! ## The life of a sweep (R10 to R13, R24 to R36) -/

theorem completeSweep_sized (w : SweepRec) (h : s.sized) : (completeSweep w s).sized := by
  have hend : ∀ x : State, x.sized → (tellPower w (arbiter (tellRunner (chainIdle (sweepDone x))))).sized := fun x hx => by
    have hdone : (sweepDone x).sized := hx.mono (by simp)
    have htold : (arbiter (tellRunner (chainIdle (sweepDone x)))).sized := (chainIdle_sized hdone).mono (by simp)
    exact ite_sized (sleepDecision_sized htold) htold
  unfold completeSweep
  refine hend _ (ite_sized ?_ ?_) <;> split <;> exact h.mono (by simp)

theorem completeIfAligned_sized (h : s.sized) : (completeIfAligned s).sized := by
  unfold completeIfAligned
  split
  · exact ite_sized (completeSweep_sized _ h) h
  · exact h

theorem readFrom_sized (k : Nat) (h : s.sized) : (readFrom k s).sized := by
  unfold readFrom
  split
  · split
    · exact h.mono (by simp)
    · exact completeIfAligned_sized (h.mono (by simp))
  · exact h

theorem readDone_sized (k : Nat) (o : MonitorReply) (h : s.sized) : (readDone k o s).sized := by
  have hentry : (readEntry k o s).sized := h.mono (by simp)
  unfold readDone
  dsimp only
  split
  · exact readFrom_sized _ (ite_sized (hentry.mono (by simp)) hentry)
  · exact hentry

theorem enumerationEnds_sized (k : Nat) (h : s.sized) : (enumerationEnds k s).sized := by
  have hstopped : (enumerationStopped k s).sized := ite_sized (h.mono (by simp)) (h.mono (by simp))
  rw [enumerationEnds_eq]
  exact (chainIdle_sized hstopped).mono (by simp)

theorem identDone_sized (k : Nat) (o : MonitorReply) (h : s.sized) : (identDone k o s).sized :=
  ite_sized (ite_sized (h.mono (by simp)) (enumerationEnds_sized _ (h.mono (by simp))))
    (enumerationEnds_sized _ (ite_sized (h.mono (by simp)) (h.mono (by simp))))

theorem windowEnds_sized (h : s.sized) : (windowEnds s).sized := by
  unfold windowEnds
  split
  · exact readFrom_sized _ (h.mono (by simp))
  all_goals exact h

theorem chainReply_sized (bs : List Byte) (h : s.sized) : (chainReply bs s).sized := by
  unfold chainReply
  split
  · exact ite_sized (readDone_sized _ _ h) h
  · exact ite_sized (identDone_sized _ _ h) h
  all_goals exact h

theorem replyWindowEnds_sized (h : s.sized) : (replyWindowEnds s).sized := by
  unfold replyWindowEnds
  split
  · exact readDone_sized _ _ (h.mono (by simp))
  · exact identDone_sized _ _ (h.mono (by simp))
  all_goals exact h

theorem chainUp_sized (h : s.sized) : (chainUp s).sized := by
  unfold chainUp
  split
  · exact chainIdle_sized (h.mono (by simp))
  · exact h

/-! ## Requests and the receive holding (R180, R191 to R201) -/

theorem answer_ite_sized {p : Prop} [Decidable p] {a b : Answer} (ha : a.1.sized) (hb : b.1.sized) : (if p then a else b).1.sized := by
  split
  · exact ha
  · exact hb

/-- A chunk is written into the staging buffer in its canonical form (R180). -/
theorem ownUpdateChunk_sized (offset : BitVec 16) (data : List Byte) (h : s.sized) : (ownUpdateChunk offset data s).1.sized := by
  unfold ownUpdateChunk
  split
  case h_4 =>
    obtain ⟨hring, hhold, hqueue, hst⟩ := id h
    exact answer_ite_sized h (answer_ite_sized h ⟨hring, hhold, hqueue, Memory.wf_writeBytes data _ hst⟩)
  all_goals exact h

theorem ownUpdateBegin_sized (version : BitVec 32) (length : BitVec 16) (imageTag : BitVec 128) (h : s.sized) :
    (ownUpdateBegin version length imageTag s).1.sized :=
  answer_ite_sized h (answer_ite_sized h (answer_ite_sized h (answer_ite_sized h (h.mono (by simp)))))

theorem ownUpdateCommit_sized (h : s.sized) : (ownUpdateCommit s).1.sized := by
  unfold ownUpdateCommit
  split
  case h_4 => exact answer_ite_sized (h.mono (by simp)) h
  all_goals exact h

theorem ownUpdateAbort_sized (h : s.sized) : (ownUpdateAbort s).1.sized := by
  unfold ownUpdateAbort
  split
  case h_4 => exact h.mono (by simp)
  all_goals exact h

theorem ownActivate_sized (h : s.sized) : (ownActivate s).1.sized := by
  refine answer_ite_sized h ?_
  split
  · exact h
  · refine answer_ite_sized h (answer_ite_sized h ?_)
    split
    · exact h
    · rename_i ho
      exact (offerOp_sized h ho).mono (by simp)

theorem ownTamperClear_sized (h : s.sized) : (ownTamperClear s).1.sized := by
  refine answer_ite_sized h (answer_ite_sized h (answer_ite_sized h ?_))
  split
  · exact h
  · rename_i ho
    exact (offerOp_sized h ho).mono (by simp)

theorem ownSaveWear_sized (h : s.sized) : (ownSaveWear s).1.sized := by
  unfold ownSaveWear
  split
  · rename_i hw
    exact requestWear_sized h hw
  · exact h

/-- The owning blocks' rules keep the sizes: of the requests that change the part, those of the wear save, the update, the activation
and the tamper clear reach the queue or the staging buffer. -/
theorem own_sized (r : Request) (h : s.sized) : (own r s).1.sized := by
  cases r with
  | saveWear => exact ownSaveWear_sized h
  | updateBegin version length imageTag => exact ownUpdateBegin_sized version length imageTag h
  | updateChunk offset data => exact ownUpdateChunk_sized offset data h
  | updateCommit => exact ownUpdateCommit_sized h
  | updateAbort => exact ownUpdateAbort_sized h
  | activate => exact ownActivate_sized h
  | tamperClear => exact ownTamperClear_sized h
  | scheduleStart => exact h.mono (t := (ownScheduleStart s).1) (by simp)
  | scheduleStop => exact h.mono (t := (ownScheduleStop s).1) (by simp)
  | sampleNow mask => exact h.mono (t := (ownSampleNow mask s).1) (by simp)
  | chainEnumerate => exact h.mono (t := (ownChainEnumerate s).1) (by simp)
  | resetReferences scope => exact h.mono (t := (ownResetReferences scope s).1) (by simp)
  | clearConditions set => exact h.mono (t := (ownClearConditions set s).1) (by simp)
  | setAlertEnable set => exact h.mono (t := (ownSetAlertEnable set s).1) (by simp)
  | clearContactorFault channel => exact h.mono (t := (ownClearContactorFault channel s).1) (by simp)
  | runSequence id => exact h.mono (t := (ownRunSequence id s).1) (by simp)
  | openAll => exact h.mono (t := (ownOpenAll s).1) (by simp)
  | setCounter number kind flags value reload => exact h.mono (t := (ownSetCounter number kind flags value reload s).1) (by simp)
  | clearOverflow numbers => exact h.mono (t := (ownClearOverflow numbers s).1) (by simp)
  | logRelease n => exact h.mono (t := (ownLogRelease n s).1) (by simp)
  | sleep => exact h.mono (t := (ownSleep s).1) (by simp)
  | readCells | readResistance | logRead | resetPart =>
    simp only [own, ownReadCells, ownReadResistance, ownLogRead, ownResetPart]
    split <;> exact h
  | _ => exact h

theorem answer_sized (f : InFrame) (h : s.sized) : (answer f s).1.sized := by
  refine answer_ite_sized h (answer_ite_sized h ?_)
  split
  · exact h
  · exact own_sized _ h

theorem serve_sized (f : InFrame) (h : s.sized) : (serve f s).sized :=
  (answer_sized f h).mono ⟨by simp, le_rfl, le_rfl, .inl rfl⟩

theorem setHolding_sized {l : List InFrame} (h : s.sized) (hl : l.length ≤ 2) : (s.setPli { s.pli with holding := l }).sized := by
  obtain ⟨hring, -, hqueue, hst⟩ := h
  exact ⟨hring, hl, hqueue, hst⟩

/-- The holding takes a frame while it has room for it (R194). -/
theorem offerFrame_sized (f : InFrame) (h : s.sized) : (offerFrame f s).sized := by
  unfold offerFrame
  split
  · exact serve_sized f (setHolding_sized h (by simp))
  · exact setHolding_sized h (by simp)
  · exact h.mono (by simp)

theorem frameArrives_sized (f : InFrame) (h : s.sized) : (frameArrives f s).sized := ite_sized (hostArrive_sized h) (offerFrame_sized f h)

theorem nextFrame_sized (h : s.sized) : (nextFrame s).sized := by
  unfold nextFrame
  split
  · rename_i hhold
    obtain ⟨-, hlen, -⟩ := id h
    exact serve_sized _ (setHolding_sized h (by rw [hhold] at hlen; simp only [List.length_cons] at hlen ⊢; omega))
  · exact setHolding_sized h (by simp)

/-- After a reset the ring, the queue, the holding and the staging buffer are empty. -/
theorem resetPart_sized (s : State) : (resetPart s).sized := ⟨Nat.zero_le _, Nat.zero_le _, Nat.zero_le _, rfl⟩

theorem transmitEnds_sized (h : s.sized) : (transmitEnds s).sized := by
  unfold transmitEnds
  split
  · exact h
  · split
    · exact ite_sized (resetPart_sized _) (nextFrame_sized (h.mono (by simp)))
    all_goals exact h.mono (by simp)

/-! ## The receiver (R192, R193) -/

theorem setRx_sized (r : Rx) (h : s.sized) : (setRx r s).sized := h.mono (by simp [setRx])

theorem linkError_sized (h : s.sized) : (linkError s).sized := h.mono (by simp)

theorem frameJudged_sized (h : s.sized) : (frameJudged s).sized := by
  unfold frameJudged
  split
  · refine ite_sized ?_ h
    dsimp only
    split
    · exact offerFrame_sized _ (setRx_sized _ h)
    · exact linkError_sized (setRx_sized _ h)
  all_goals exact h

theorem idleWaitEnds_sized (h : s.sized) : (idleWaitEnds s).sized := by
  unfold idleWaitEnds
  split
  · exact setRx_sized _ (h.mono (by simp))
  all_goals exact h

theorem gapEnds_sized (h : s.sized) : (gapEnds s).sized := by
  unfold gapEnds
  split
  · exact ite_sized h (linkError_sized (setRx_sized _ (h.mono (by simp))))
  all_goals exact h

theorem rxCatchUp_sized (start : Time) (h : s.sized) : (rxCatchUp start s).sized := by
  unfold rxCatchUp
  split
  · exact h
  · exact h
  · exact ite_sized h (setRx_sized _ h)
  · exact ite_sized (frameJudged_sized h) (ite_sized h (linkError_sized (setRx_sized _ h)))

theorem takeByte_sized (b : Byte) (h : s.sized) : (takeByte b s).sized := by
  unfold takeByte
  dsimp only
  split
  · exact h
  · exact setRx_sized _ h
  · exact ite_sized (setRx_sized _ h) h
  · exact setRx_sized _ h

theorem byteArrives_sized (b : Byte) (h : s.sized) : (byteArrives b s).sized :=
  ite_sized (hostArrive_sized h) (takeByte_sized b (rxCatchUp_sized _ h))

/-! ## Conversions and alignments (R42 to R57) -/

theorem loseConversion_sized (h : s.sized) : (loseConversion s).sized := by
  unfold loseConversion
  have hlost : (s.setAna { s.ana with lost := min 2 (s.ana.lost + 1) }).sized := h.mono (by simp)
  have hfault := hlost.mono (t := setCond .analogFault (s.setAna { s.ana with lost := min 2 (s.ana.lost + 1), fault := true })) (by simp)
  exact ite_sized (ite_sized (anaReport_sized (hfault.mono (by simp))) hfault) hlost

theorem sampleInstant_sized (h : s.sized) : (sampleInstant s).sized :=
  ite_sized (ite_sized (loseConversion_sized (h.mono (by simp))) (h.mono (by simp))) h

theorem takeEvent_sized {f : State → State} (hf : ∀ {x : State}, x.sized → (f x).sized) (due : Bool) (h : s.sized) :
    (takeEvent due f s).sized := ite_sized (finish_sized (hf h)) h

theorem takeEach_sized {f : Nat → State → State} (hf : ∀ i {x : State}, x.sized → (f i x).sized) (l : List Nat) (h : s.sized) :
    (takeEach f l s).sized := by
  induction l generalizing s with
  | nil => exact h
  | cons i rest ih => exact ih (hf i h)

theorem overCurrentTaken_sized (h : s.sized) : (overCurrentTaken s).sized := h.mono (by simp)

theorem stepTimerTaken_sized (h : s.sized) : (stepTimerTaken s).sized := h.mono (by simp)

theorem dueAtDelivery_sized (h : s.sized) : (dueAtDelivery s).sized :=
  takeEvent_sized stepTimerTaken_sized _ (takeEvent_sized overCurrentTaken_sized _ h)

theorem arrival_sized (e : RingEntry) (h : s.sized) : (arrival e s).sized := by
  unfold arrival
  extract_lets s1 s2 s3
  have h1 : s1.sized := h.mono (by simp [s1])
  have h2 : s2.sized := completeIfAligned_sized (h1.mono (by simp))
  have h3 : s3.sized := ite_sized (h2.mono (by simp)) h2
  exact ite_sized (anaReport_sized (h3.mono (by simp))) h3

theorem deliver_sized (t : Time) (current : Int) (pack link : Nat) (h : s.sized) : (deliver t current pack link s).sized :=
  ite_sized (arrival_sized _ (appendEntry_sized _ (dueAtDelivery_sized h))) (dueAtDelivery_sized h)

theorem deadlineTaken_sized (target : Option Nat) (h : s.sized) : (deadlineTaken target s).sized := by
  unfold deadlineTaken
  split
  · exact completeIfAligned_sized (h.mono (by simp))
  · exact h

/-! ## The NV engine's steps and the verification (R172, R173, R180, R181) -/

theorem operationEnds_sized (f : NvFlight) (h : s.sized) : (operationEnds f s).sized := by
  unfold operationEnds
  have hanchor : (anchorDone f.step s).sized := by
    unfold anchorDone
    split
    · exact h.mono (by simp)
    all_goals exact h
  split
  · rename_i x _ _
    have hstatus := h.mono (t := setBankStatus x .valid s) (by simp)
    exact ite_sized (updFail_sized _ (offerSure_sized _ hstatus)) (hstatus.mono (by simp [commitDone]))
  · exact hanchor
  · exact hanchor
  · exact hanchor.mono (by simp)
  · exact hanchor.mono (by simp)
  · unfold wearDone
    split
    · exact h.mono (by simp)
    all_goals exact h
  · exact h.mono (by simp)

theorem nvStepTaken_sized (h : s.sized) : (nvStepTaken s).sized := by
  unfold nvStepTaken
  split
  · exact h
  · dsimp only
    split
    · exact ite_sized (updFail_sized _ (h.mono (by simp))) (h.mono (by simp))
    · exact operationEnds_sized _ (h.mono (by simp))

theorem verified_sized (h : s.sized) : (verified s).sized := by
  unfold verified
  refine ite_sized (ite_sized (updFail_sized _ h) (ite_sized (updFail_sized _ h) ?_)) h
  dsimp only
  split
  · rename_i ho
    exact (offerOp_sized h ho).mono (by simp)
  · exact updFail_sized _ h

/-! ## What is due, the tick and the passing of time -/

theorem slotTaken_sized (i : Nat) (h : s.sized) : (slotTaken i s).sized := h.mono (by simp)

theorem freshnessTaken_sized (i : Nat) (h : s.sized) : (freshnessTaken i s).sized := h.mono (by simp)

theorem referenceTaken_sized (i : Nat) (h : s.sized) : (referenceTaken i s).sized := h.mono (by simp)

theorem feedbackTaken_sized (k : Nat) (h : s.sized) : (feedbackTaken k s).sized := h.mono (by simp)

theorem pullInTaken_sized (k : Nat) (h : s.sized) : (pullInTaken k s).sized := h.mono (by simp)

theorem makeMaxTaken_sized (k : Nat) (h : s.sized) : (makeMaxTaken k s).sized := h.mono (by simp)

theorem breakMaxTaken_sized (k : Nat) (h : s.sized) : (breakMaxTaken k s).sized := h.mono (by simp)

theorem settlingTaken_sized (k : Nat) (h : s.sized) : (settlingTaken k s).sized := h.mono (by simp)

theorem sleepTimerTaken_sized (h : s.sized) : (sleepTimerTaken s).sized := ite_sized (sleepExpire_sized h) h

theorem tamperTaken_sized (h : s.sized) : (tamperTaken s).sized := ite_sized (tamperAccept_sized (h.mono (by simp))) h

theorem tamperReleaseTaken_sized (h : s.sized) : (tamperReleaseTaken s).sized := h.mono (by simp)

theorem dueWork_sized (h : s.sized) : (dueWork s).sized := by
  unfold dueWork
  extract_lets s0 s1 s2 s3 s4 s5 s6 s7 s8 s9 s10 s11 s12
  have h0 : s0.sized := takeEvent_sized id _ h
  have h1 : s1.sized := takeEach_sized (fun i _ => takeEvent_sized (slotTaken_sized i) _) _ h0
  have h2 : s2.sized := takeEach_sized (fun i _ => takeEvent_sized (freshnessTaken_sized i) _) _ h1
  have h3 : s3.sized := takeEach_sized (fun i _ => takeEvent_sized (referenceTaken_sized i) _) _ h2
  have h4 : s4.sized := takeEvent_sized overCurrentTaken_sized _ h3
  have h5 : s5.sized := takeEach_sized (fun k _ => takeEvent_sized (feedbackTaken_sized k) _) _ h4
  have h6 : s6.sized := takeEach_sized (fun k _ => takeEvent_sized (pullInTaken_sized k) _) _ h5
  have h7 : s7.sized := takeEach_sized (fun k _ => takeEvent_sized (makeMaxTaken_sized k) _) _ h6
  have h8 : s8.sized := takeEach_sized (fun k _ => takeEvent_sized (breakMaxTaken_sized k) _) _ h7
  have h9 : s9.sized := takeEach_sized (fun k _ => takeEvent_sized (settlingTaken_sized k) _) _ h8
  have h10 : s10.sized := takeEvent_sized stepTimerTaken_sized _ h9
  have h11 : s11.sized := takeEvent_sized sleepTimerTaken_sized _ h10
  have h12 : s12.sized := takeEvent_sized (fun hx => ite_sized (tamperReleaseTaken_sized hx) (tamperTaken_sized hx)) _ h11
  exact takeEvent_sized frameJudged_sized _ h12

theorem tickWork_sized (feedback : BitVec 4) (tamper : Bool) (h : s.sized) : (tickWork feedback tamper s).sized :=
  (h.mono (by simp [tickWork]))

theorem wakePulseEnds_sized (h : s.sized) : (wakePulseEnds s).sized := h.mono (by simp)

/-! ## The commands -/

/-- An event whose own effects keep the sizes keeps them, since its end does. -/
theorem sized_of_finish {x : State} (h : x.sized) (hx : Host.Outcome.next (finish x) = (.next t : Host.Outcome State Fault Refusal)) :
    t.sized := Host.Outcome.next.inj hx ▸ finish_sized h

theorem request_sized {tag : Byte} {r : Request} (h : s.sized) (ht : request tag r s = .next t) : t.sized :=
  sized_of_finish (frameArrives_sized (requestFrame tag r) h) ht

/-- Each command's meaning keeps the sizes: an event's by its own effects, a request's as the arrival of its frame. -/
theorem exec_sized {c : Instr} (h : s.sized) (ht : exec c s = .next t) : t.sized := by
  cases c with
  | powerOnReset => exact sized_of_finish (resetPart_sized s) ht
  | tick feedback tamper => exact sized_of_finish (tickWork_sized feedback tamper (dueWork_sized h)) ht
  | slotExpiry slot => exact sized_of_finish (slotTaken_sized slot h) ht
  | freshnessExpiry cell => exact sized_of_finish (freshnessTaken_sized cell h) ht
  | referenceExpiry cell => exact sized_of_finish (referenceTaken_sized cell h) ht
  | samplingInstant => exact sized_of_finish (sampleInstant_sized h) ht
  | conversionDelivered instant current pack link => exact sized_of_finish (deliver_sized instant current pack link h) ht
  | overCurrentRunComplete => exact sized_of_finish (overCurrentTaken_sized h) ht
  | alignDeadline target => exact sized_of_finish (deadlineTaken_sized target h) ht
  | sampleBroadcastSent => exact sized_of_finish (h.mono (t := broadcastSent s) (by simp)) ht
  | conversionWindowEnd => exact sized_of_finish (windowEnds_sized h) ht
  | chainReplyComplete bytes => exact sized_of_finish (chainReply_sized bytes h) ht
  | replyWindowEnd => exact sized_of_finish (replyWindowEnds_sized h) ht
  | chainPowerUpDone => exact sized_of_finish (chainUp_sized h) ht
  | feedbackAccepted channel => exact sized_of_finish (feedbackTaken_sized channel h) ht
  | pullInEnd channel => exact sized_of_finish (pullInTaken_sized channel h) ht
  | makeMaxExpiry channel => exact sized_of_finish (makeMaxTaken_sized channel h) ht
  | breakMaxExpiry channel => exact sized_of_finish (breakMaxTaken_sized channel h) ht
  | settlingEnd channel => exact sized_of_finish (settlingTaken_sized channel h) ht
  | stepTimerExpiry => exact sized_of_finish (stepTimerTaken_sized h) ht
  | sleepTimerExpiry => exact sized_of_finish (sleepTimerTaken_sized h) ht
  | hostArrival => exact sized_of_finish (hostArrive_sized h) ht
  | wakePulseEnd => exact sized_of_finish (wakePulseEnds_sized h) ht
  | nvStepComplete => exact sized_of_finish (nvStepTaken_sized h) ht
  | verificationComplete => exact sized_of_finish (verified_sized h) ht
  | tamperAccepted => exact sized_of_finish (tamperTaken_sized h) ht
  | tamperReleaseAccepted => exact sized_of_finish (tamperReleaseTaken_sized h) ht
  | receiverIdleWaitEnd => exact sized_of_finish (idleWaitEnds_sized h) ht
  | frameGapTimeout => exact sized_of_finish (gapEnds_sized h) ht
  | frameComplete => exact sized_of_finish (frameJudged_sized h) ht
  | unknownRequest type tag payload => exact sized_of_finish (frameArrives_sized _ h) ht
  | transmitFrameEnd => exact sized_of_finish (transmitEnds_sized h) ht
  | linkByteReceived byte => exact sized_of_finish (byteArrives_sized byte h) ht
  | _ => exact request_sized h ht

end

/-- Settles O6: a command from the queue keeps the sizes by `exec_sized`, the idle step by what is due and the passing of time. -/
theorem sizesStayWithinBounds : Obligations.SizesStayWithinBounds := by
  intro s t h hstep
  unfold step at hstep
  split at hstep
  · rw [← Host.Outcome.next.inj hstep]
    exact (dueWork_sized h).mono (t := passTime (dueWork s)) (by simp)
  · rename_i c rest _
    exact exec_sized (s := s.setPending rest) (h.mono (by simp)) hstep

end Sys2Proof.Machine
end

section
/-! SUPPORT. The analog channels: sampling instants and lost conversions, deliveries and arrivals, the entry nearest an instant, and the
over-current run. -/
namespace Sys2Proof.Machine

/-! ## The over-current run (R47, R80) -/

section
variable {s : State}

/-- A run is complete exactly while detection is active and the run has come to an over-current time that is not 0. -/
theorem ocDue_iff (s : State) : s.ocDue = true ↔ s.ana.active = true ∧ 0 < s.prof.ocTime ∧ s.prof.ocTime ≤ s.ana.run := by
  simp [State.ocDue]

theorem overCurrentTaken_of_set (hdue : s.ocDue = true) (h : s.ana.overCurrent = true) :
    overCurrentTaken s = clearCond .overCurrent (s.setAna { s.ana with overCurrent := false, run := 0 }) := by
  simp [overCurrentTaken, hdue, h, liveCond]

theorem overCurrentTaken_of_clear (hdue : s.ocDue = true) (h : s.ana.overCurrent = false) :
    overCurrentTaken s
      = applyTrip .overCurrent s.prof.tripOc (setCond .overCurrent (s.setAna { s.ana with overCurrent := true, run := 0 })) := by
  simp [overCurrentTaken, hdue, h, liveCond]

end

/-- No trip action, or another mode than RUN: the change of the condition is all (R80). -/
theorem applyTrip_of_not {action : Bool} {s : State} (h : action = false ∨ s.pwr.mode ≠ .run) (cause : TripCause) :
    applyTrip cause action s = s := by
  rcases h with h | h <;> simp [applyTrip, h]

/-- In RUN the trip action opens every contactor, or ends the sequence with TRIP, and is recorded (R80, R130). -/
theorem applyTrip_of_run {s : State} (h : s.pwr.mode = .run) (cause : TripCause) :
    applyTrip cause true s = (openForAll .trip s).setLim { lastTrip := some (cause, (openForAll .trip s).now) } := by
  simp [applyTrip, h]

/-- Settles O43: the run is complete, and the condition's old state chooses the change, the mode and the action the trip. -/
theorem overCurrentRunChangesTheCondition : Obligations.OverCurrentRunChangesTheCondition := by
  intro s hactive htime hrun on opened
  have hdue := (ocDue_iff s).2 ⟨hactive, htime, hrun⟩
  have hexec : exec .overCurrentRunComplete s = .next (finish (overCurrentTaken s)) := rfl
  rw [hexec]
  have hopened : openForAll .trip on = opened := by simp [openForAll, openEvery, opened, on]
  refine ⟨fun hset => ?_, fun hclear hno => ?_, fun hclear htrip hmode => ?_⟩
  · rw [overCurrentTaken_of_set hdue hset]
  · rw [overCurrentTaken_of_clear hdue hclear, applyTrip_of_not (by simpa using hno)]
  · rw [overCurrentTaken_of_clear hdue hclear, htrip, applyTrip_of_run (by simpa using hmode), hopened]
    rfl

/-! ## Sampling instants (R42, R44, R46) -/

section
variable {s : State}

/-- The first conversion lost in a row is counted (R44). -/
theorem loseConversion_of_first (h : s.ana.lost = 0) : loseConversion s = s.setAna { s.ana with lost := 1 } := by
  simp [loseConversion, h]

/-- The second conversion lost in a row is the fault (R44). -/
theorem loseConversion_of_second (h : 0 < s.ana.lost) (hf : s.ana.fault = false) :
    loseConversion s
      = let t := (setCond .analogFault s).setAna { s.ana with lost := 2, fault := true }
        if s.ana.readyOwed.isSome then anaReport (t.setAna { t.ana with readyOwed := none }) else t := by
  have hn : min 2 (s.ana.lost + 1) = 2 := by omega
  simp [loseConversion, hn, hf, setCond_setAna]

/-- During a fault the count stays at 2 (R44). -/
theorem loseConversion_of_fault (h : 0 < s.ana.lost) (hf : s.ana.fault = true) :
    loseConversion s = s.setAna { s.ana with lost := 2 } := by
  have hn : min 2 (s.ana.lost + 1) = 2 := by omega
  simp [loseConversion, hn, hf]

/-- A sampling instant: pack time stands at it, its conversion is started, and an outstanding one is lost (R42, R46). -/
theorem sampleInstant_of_sampling (h : s.ana.sampling = true) :
    sampleInstant s
      = let t := (advanceTo s.ana.nextInstant s).setAna { s.ana with
          period := s.prof.period, outstanding := some s.ana.nextInstant
          nextInstant := s.ana.nextInstant + BitVec.ofNat 32 s.prof.period }
        if s.ana.outstanding.isSome then loseConversion t else t := by
  simp [sampleInstant, h, us]

end

/-- Outside SLEEP_SWEEP the power controller only notes the ready report (R45). -/
theorem anaReport_of_mode {s : State} (h : s.pwr.mode ≠ .sleepSweep) : anaReport s = s.setPwr { s.pwr with waitAna := false } :=
  if_neg fun hmode => h hmode.1

/-! ## Deliveries and arrivals (R43 to R47, R52, R119, R123) -/

theorem appendRing_eq (ring : List RingEntry) (e : RingEntry) : appendRing ring e = ring.drop (ring.length - 63) ++ [e] := by
  unfold appendRing
  split
  · rw [show ring.length - 63 = 0 by omega, List.drop_zero]
  · rfl

/-- A delivery during a fault ends it and begins an empty ring (R44). -/
theorem appendEntry_of_fault {s : State} (h : s.ana.fault = true) (e : RingEntry) :
    appendEntry e s = (clearCond .analogFault s).setAna { s.ana with
      fault := false, outstanding := none, lost := 0, ring := [e] } := by
  simp [appendEntry, h, appendRing]
  rfl

theorem appendEntry_of_no_fault {s : State} (h : s.ana.fault = false) (e : RingEntry) :
    appendEntry e s = s.setAna { s.ana with
      outstanding := none, lost := 0, ring := s.ana.ring.drop (s.ana.ring.length - 63) ++ [e] } := by
  simp [appendEntry, h, appendRing_eq]

theorem countReady_eq (s : State) : countReady s = s.setAna { s.ana with readyOwed := s.ana.readyOwed.map fun n => n - 1 } := by
  unfold countReady
  split
  · rename_i h
    exact (congrArg s.setAna (by rw [h, Option.map_none, ← h])).symm
  · rename_i n h
    rw [h, Option.map_some]

@[simp] theorem classEntry_aln (e : RingEntry) (s : State) : (classEntry e s).aln = s.aln := by
  unfold classEntry
  split <;> rfl

@[simp] theorem classEntry_readyOwed (e : RingEntry) (s : State) : (classEntry e s).ana.readyOwed = s.ana.readyOwed := by
  unfold classEntry
  split <;> rfl

theorem awaitsArrival_iff (s : State) : s.awaitsArrival = true ↔ s.seq.run.map Run.awaited = some .arrival := by
  simp [State.awaitsArrival]

/-- The blocks of an arrival in their order (log 10), the entry counted toward the ready report. -/
theorem arrival_eq (e : RingEntry) (s : State) :
    arrival e s =
      let settled := completeIfAligned (reclassify s.aln (countReady (classEntry e s)))
      reportReady (if s.seq.run.map Run.awaited = some .arrival ∧ settled.seq.run = s.seq.run then runnerArrival e settled
        else settled) := by
  have haln : (countReady (classEntry e s)).aln = s.aln := by simp [countReady_eq]
  unfold arrival
  simp only [haln, Bool.and_eq_true, beq_iff_eq, awaitsArrival_iff]

/-- The run at the step's end: an event takes it exactly when it is due, and otherwise the part stands (R47, R119). -/
theorem takeEvent_of_exec {s c : State} {due : Bool} {f : State → State} {p : Prop} (hp : p ↔ due = true)
    (htaken : p → event f s = .next c) (hnot : ¬ p → c = s) : takeEvent due f s = c := by
  unfold takeEvent
  split
  · rename_i hdue
    exact Host.Outcome.next.inj (htaken (hp.2 hdue))
  · rename_i hdue
    exact (hnot (mt hp.1 hdue)).symm

theorem timerDue_iff (s : State) : s.timerDue = true ↔ ∃ r, s.seq.run = some r ∧ r.timer = some 0 := by
  unfold State.timerDue
  cases s.seq.run <;> simp

/-- A delivery after what stood due before it (R42, R43). -/
theorem exec_conversionDelivered {s d : State} (h : dueAtDelivery s = d) (t : Time) (current : Int) (pack link : Nat) :
    exec (.conversionDelivered t current pack link) s = .next (finish
      (if d.ana.outstanding = some t then arrival (ringEntry t current pack link) (appendEntry (ringEntry t current pack link) d)
        else d)) := by
  subst h
  rfl

/-! ## The entry nearest an instant (R48) -/

theorem nearestOf_mem {t : Time} {ring : List RingEntry} {e : RingEntry} (h : nearestOf t ring = some e) : e ∈ ring := by
  induction ring generalizing e with
  | nil => cases h
  | cons x rest ih =>
    rw [nearestOf] at h
    split at h
    · rename_i f hf
      split at h <;> cases h
      · exact List.mem_cons_of_mem _ (ih hf)
      · exact List.mem_cons_self
    · cases h
      exact List.mem_cons_self

/-- The closest entry, every older one farther and no newer one closer, is the one nearest the instant. -/
theorem nearestOf_of_closest {t : Time} {l r : List RingEntry} {e : RingEntry} (hl : ∀ x ∈ l, timeDist e.time t < timeDist x.time t)
    (hr : ∀ x ∈ r, timeDist e.time t ≤ timeDist x.time t) : nearestOf t (l ++ e :: r) = some e := by
  induction l with
  | nil =>
    rw [List.nil_append, nearestOf]
    split
    · rename_i f hf
      exact if_neg (Nat.not_lt.2 (hr f (nearestOf_mem hf)))
    · rfl
  | cons x rest ih =>
    rw [List.cons_append, nearestOf, ih fun y hy => hl y (List.mem_cons_of_mem _ hy)]
    exact if_pos (hl x List.mem_cons_self)

/-- Settles O42: the sampling instant by what stood outstanding and lost, the report outside SLEEP_SWEEP, the arrival block by block, the
delivery after what is due, and the nearest entry. -/
theorem conversionsAreStartedLostOrDelivered : Obligations.ConversionsAreStartedLostOrDelivered := by
  refine ⟨?_, fun s => anaReport_of_mode, ?_, ?_, ?_⟩
  · intro s hsam n s1 next
    have hexec : exec .samplingInstant s
        = .next (finish (if s.ana.outstanding.isSome then loseConversion (s1.setAna next) else s1.setAna next)) :=
      congrArg (fun x => Host.Outcome.next (finish x)) (sampleInstant_of_sampling hsam)
    refine ⟨fun h => ?_, fun h h0 => ?_, fun h h0 hf hr => ?_, fun h h0 hf hr => ?_, fun h h0 hf => ?_⟩
    · rw [hexec, h]
      rfl
    · rw [hexec, if_pos h, loseConversion_of_first (s := s1.setAna next) h0]
      rfl
    · rw [hexec, if_pos h, loseConversion_of_second (s := s1.setAna next) h0 hf]
      simp [hr, next, setCond_setAna]
    · rw [hexec, if_pos h, loseConversion_of_second (s := s1.setAna next) h0 hf]
      simp [hr, next, setCond_setAna]
    · rw [hexec, if_pos h, loseConversion_of_fault (s := s1.setAna next) h0 hf]
      rfl
  · intro e s above classed counted settled told
    have hcounted : countReady (classEntry e s) = counted := by
      rw [countReady_eq, classEntry_readyOwed]
      rfl
    have harrival : arrival e s = reportReady told := by
      rw [arrival_eq, hcounted]
    rw [harrival, reportReady]
    exact ⟨fun h => if_pos h, fun h => if_neg h⟩
  · intro s c d t current pack link complete timeUp hc hc' hd hd' e
    have hcomplete : takeEvent s.ocDue overCurrentTaken s = c := takeEvent_of_exec (ocDue_iff s).symm hc hc'
    have htimer : takeEvent c.timerDue stepTimerTaken c = d := takeEvent_of_exec (timerDue_iff c).symm hd hd'
    have hdue : dueAtDelivery s = d := by
      rw [← htimer, ← hcomplete]
      rfl
    have hexec := exec_conversionDelivered hdue t current pack link
    refine ⟨fun h => ?_, fun h hf => ?_, fun h hf => ?_⟩
    · rw [hexec, if_neg h]
    · rw [hexec, if_pos h, appendEntry_of_fault hf]
      rfl
    · rw [hexec, if_pos h, appendEntry_of_no_fault hf]
      rfl
  · intro s t dist
    refine ⟨fun h => if_pos h, fun h => ?_, fun l e r h hring hl hr => ?_⟩
    · simp [State.nearest, State.newest, h, nearestOf]
    · rw [State.nearest, if_neg (ne_true_of_eq_false h), hring]
      exact nearestOf_of_closest hl hr

end Sys2Proof.Machine
end

section
/-! SUPPORT. The rounding of spec/00, the classification of an instant, and the alignment that comes of it. -/
namespace Sys2Proof.Machine

/-! ## The quotient rounded half away from zero (spec/00) -/

theorem divAway_natCast (a b : Nat) : divAway a b = ((2 * a + b) / (2 * b) : Nat) := by
  unfold divAway
  rw [if_neg (not_lt.2 (by positivity))]
  rfl

theorem divAway_neg_left {d : Int} (hd : d ≠ 0) (n : Int) : divAway (-n) d = -divAway n d := by
  rcases lt_trichotomy (n * d) 0 with h | h | h
  · simp [divAway, h, h.le]
  · obtain rfl : n = 0 := (mul_eq_zero.1 h).resolve_right hd
    have hq : d.natAbs / (2 * d.natAbs) = 0 := Nat.div_eq_of_lt (by omega)
    simp [divAway, hq]
  · simp [divAway, h, h.le]

theorem divAway_neg_right {d : Int} (hd : d ≠ 0) (n : Int) : divAway n (-d) = -divAway n d := by
  have h : divAway (-n) (-d) = divAway n d := by simp [divAway]
  rw [← h, divAway_neg_left (neg_ne_zero.2 hd), neg_neg]

/-- The rounded quotient is a nearest one, and of two nearest the one away from zero. -/
def RoundsAway (n d q : Int) : Prop :=
  2 * (n - q * d).natAbs ≤ d.natAbs ∧ (2 * (n - q * d).natAbs = d.natAbs → n.natAbs < (q * d).natAbs)

theorem RoundsAway.neg_left {n d q : Int} (h : RoundsAway n d q) : RoundsAway (-n) d (-q) := by
  have hdiff : (-n - -q * d).natAbs = (n - q * d).natAbs := by
    rw [← Int.natAbs_neg]
    congr 1
    ring
  rwa [RoundsAway, hdiff, Int.natAbs_neg, neg_mul, Int.natAbs_neg]

theorem RoundsAway.neg_right {n d q : Int} (h : RoundsAway n d q) : RoundsAway n (-d) (-q) := by
  rwa [RoundsAway, neg_mul_neg, Int.natAbs_neg]

theorem roundsAway_divAway_natCast (a : Nat) {b : Nat} (hb : 0 < b) : RoundsAway a b (divAway a b) := by
  rw [divAway_natCast]
  generalize hq : (2 * a + b) / (2 * b) = q
  obtain ⟨hle, hlt⟩ := (Nat.div_eq_iff (by omega)).1 hq
  have hdouble : q * (2 * b) = 2 * (q * b) := by ring
  rw [RoundsAway, ← Nat.cast_mul]
  omega

theorem roundsAway_divAway (n : Int) {d : Int} (hd : d ≠ 0) : RoundsAway n d (divAway n d) := by
  have hnat (m : Int) {b : Nat} (hb : 0 < b) : RoundsAway m b (divAway m b) := by
    obtain ⟨a, rfl | rfl⟩ := m.eq_nat_or_neg
    · exact roundsAway_divAway_natCast a hb
    · rw [divAway_neg_left (by omega)]
      exact (roundsAway_divAway_natCast a hb).neg_left
  obtain ⟨b, rfl | rfl⟩ := d.eq_nat_or_neg
  · exact hnat n (by omega)
  · rw [divAway_neg_right (by omega)]
    exact (hnat n (by omega)).neg_right

/-- A part of a rise, taken by a quotient below 1, is within the rise. -/
theorem divAway_part_of_nonneg {r a b : Int} (hr : 0 ≤ r) (ha : 0 < a) (hab : a < b) :
    0 ≤ divAway (r * a) b ∧ divAway (r * a) b ≤ r := by
  lift r to Nat using hr
  lift a to Nat using ha.le
  lift b to Nat using (ha.trans hab).le
  rw [← Nat.cast_mul, divAway_natCast]
  refine ⟨by positivity, Nat.cast_le.2 ?_⟩
  have hra : r * a ≤ r * b := Nat.mul_le_mul_left r (by omega)
  rw [← Nat.lt_succ_iff, Nat.div_lt_iff_lt_mul (by omega)]
  nlinarith

/-- The interpolated current lies between its two entries. -/
theorem interpolate_between {e f : RingEntry} {t : Time} (h0 : 0 < timeDiff t e.time) (h1 : timeDiff t e.time < timeDiff f.time e.time) :
    min e.current f.current ≤ interpolate e f t ∧ interpolate e f t ≤ max e.current f.current := by
  rw [interpolate]
  rcases le_total e.current f.current with hle | hle
  · obtain ⟨hlow, hhigh⟩ := divAway_part_of_nonneg (sub_nonneg.2 hle) h0 h1
    omega
  · obtain ⟨hlow, hhigh⟩ := divAway_part_of_nonneg (sub_nonneg.2 hle) h0 h1
    have hneg : (f.current - e.current) * timeDiff t e.time = -((e.current - f.current) * timeDiff t e.time) := by ring
    rw [hneg, divAway_neg_left (by omega)]
    omega

/-! ## The classification of an instant (R52, R54, R55) -/

@[simp] theorem timeDiff_self (t : Time) : timeDiff t t = 0 := by simp [timeDiff]

theorem ne_of_timeDiff_pos {t u : Time} (h : 0 < timeDiff t u) : u ≠ t := by
  rintro rfl
  simp at h

theorem isEarlier_of_timeDiff_nonneg {t u : Time} (h : 0 ≤ timeDiff t u) : isEarlier t u = false :=
  decide_eq_false (not_lt.2 h)

/-- Entries before the instant are passed over as long as another one follows that is not after it. -/
theorem alignWithin_append {t : Time} {l r : List RingEntry} {e : RingEntry} (hl : ∀ x ∈ l, 0 < timeDiff t x.time)
    (he : 0 ≤ timeDiff t e.time) : alignWithin t (l ++ e :: r) = alignWithin t (e :: r) := by
  induction l with
  | nil => rfl
  | cons x rest ih =>
    have hrest : ∀ y ∈ rest, 0 < timeDiff t y.time := fun y hy => hl y (List.mem_cons_of_mem _ hy)
    have hne := ne_of_timeDiff_pos (hl x List.mem_cons_self)
    rw [← ih hrest]
    cases rest with
    | nil => simp [alignWithin, hne, isEarlier_of_timeDiff_nonneg he]
    | cons y ys => simp [alignWithin, hne, isEarlier_of_timeDiff_nonneg (hrest y List.mem_cons_self).le]

theorem classify_of_deferred {s : State} {t : Time} (h : s.ana.fault = true ∨ s.ana.ring = []) : classify s t = none := by
  unfold classify
  rcases h with h | h
  · exact if_pos h
  · rw [h]
    exact ite_self none

section
variable {s : State} {t : Time} {old new : RingEntry} (hf : s.ana.fault = false) (hold : s.ana.ring.head? = some old)
  (hnew : s.ana.ring.getLast? = some new)

include hf hold hnew

/-- The branches of a classification outside a fault, with entries in the ring. -/
theorem classify_of_entries : classify s t =
    if isEarlier t old.time then some { current := some old.current, mark := markOf old.saturated .heldOld }
    else if isEarlier new.time t then none
    else alignWithin t s.ana.ring := by
  simp [classify, hf, hold, State.newest, hnew]

theorem classify_within (h0 : isEarlier t old.time = false) (h1 : isEarlier new.time t = false) :
    classify s t = alignWithin t s.ana.ring := by
  simp [classify_of_entries hf hold hnew, h0, h1]

end

/-! ## The alignment (R56, R57) -/

theorem held_iff (m : AlignMark) : m.held = true ↔ m = .heldOld ∨ m = .heldNew ∨ m = .saturated := by
  cases m <;> simp [AlignMark.held]

theorem setCond_setCells (c : Cond) (s : State) (x : List Cell) : setCond c (s.setCells x) = (setCond c s).setCells x := by
  unfold setCond
  rw [show (s.setCells x).condSet c = s.condSet c from rfl]
  split <;> rfl

theorem judgeOverflow_setCells (s : State) (x : List Cell) : judgeOverflow (s.setCells x) = (judgeOverflow s).setCells x := by
  unfold judgeOverflow liveCond
  rw [State.setCells_ctr]
  split
  · exact setCond_setCells _ s x
  · rfl

theorem occurrence_setCells (k : EventKind) (s : State) (x : List Cell) :
    occurrence k (s.setCells x) = (occurrence k s).setCells x := by
  unfold occurrence
  dsimp only [State.setCells_ctr]
  split
  · rfl
  · exact judgeOverflow_setCells (s.setCtr _) x

/-- An alignment of a cell of the table, with the two writes to its entry as one. -/
theorem makeAlignment_cell {s : State} {i : Nat} {w : SweepRec} (hi : i < s.cells.length) (hw : s.sch.sweep = some w) (al : Aligned) :
    makeAlignment (some i) al s =
      (if al.mark.held = true then setCond .alignHeld (occurrence .alignHeld s) else s).setCells (s.cells.set i
        (takeReading s.prof w.source al { s.cell i with current := al.current, mark := some al.mark })) := by
  have hwritten (t : State) (c : Cell) : (t.setCells (s.cells.set i c)).cell i = c := by simp [State.cell, hi]
  cases hm : al.mark.held <;>
    simp [makeAlignment, hm, State.setCell, occurrence_setCells, setCond_setCells, State.sweepSource, hw, hwritten]

/-- Settles O45: the rounding, the classification by the place among the entries, the deferral, the retry, and the alignment. -/
theorem interpolatedCurrentLiesBetween : Obligations.InterpolatedCurrentLiesBetween := by
  refine ⟨⟨fun e f t h0 h1 => ⟨rfl, interpolate_between h0 h1⟩, fun n d hd => roundsAway_divAway n hd⟩, ?_,
    fun s target t => ⟨fun al h => ?_, fun h => ?_⟩, fun s it l => ⟨rfl, fun h => ?_, fun al h => ?_⟩, fun s al => ⟨rfl, ?_⟩⟩
  · intro s t marked made
    refine ⟨classify_of_deferred, fun old new hf hold hnew => ⟨fun h => ?_, fun h0 h1 => ?_, fun h0 h1 =>
      ⟨fun l e r hring hl he => ?_, fun l e f r hring hl he hf' => ?_⟩⟩⟩
    · simp only [made, classify_of_entries hf hold hnew, h, if_true]
      rfl
    · simp [classify_of_entries hf hold hnew, h0, h1]
    · subst he
      simp only [made, classify_within hf hold hnew h0 h1, hring, alignWithin_append hl (timeDiff_self e.time).ge]
      simp [alignWithin, marked, markOf]
    · simp only [made, classify_within hf hold hnew h0 h1, hring, alignWithin_append hl he.le]
      simp [alignWithin, marked, markOf, ne_of_timeDiff_pos he, hf']
  · rw [submitAlign, h]
  · rw [submitAlign, h]
    rfl
  · rw [reclassify, h]
  · rw [reclassify, h]
  · intro i w hi hw c taken isHeld
    rw [makeAlignment_cell hi hw]
    exact ⟨fun h => by rw [if_pos ((held_iff al.mark).2 h)], fun h => by rw [if_neg (mt (held_iff al.mark).1 h)]⟩

end Sys2Proof.Machine
end

section
/-! SUPPORT. The deadline of a deferred alignment, the completion of a sweep with its summary, and the runner's part in it. -/
namespace Sys2Proof.Machine

/-! ## Deferred alignments (R11, R53, R55) -/

@[simp] theorem heldNewAlign_advanceTo (t : Time) (s : State) : heldNewAlign (advanceTo t s) = heldNewAlign s := by
  simp [heldNewAlign, State.newest]

/-- The deadline takes its item from the list and aligns the target from the newest entry (R53). -/
theorem deadlineTaken_of_item {s : State} {target : Option Nat} {it : AlignItem}
    (h : s.aln.find? (fun x => x.target == target) = some it) :
    deadlineTaken target s =
      completeIfAligned (makeAlignment target (heldNewAlign s) ((advanceTo it.deadline s).setAln (s.aln.erase it))) := by
  simp [deadlineTaken, h]

theorem completeIfAligned_of_done {s : State} {w : SweepRec} (hw : s.sch.sweep = some w) (hst : w.stage = .aligning)
    (h : s.aln = []) : completeIfAligned s = completeSweep w s := by
  simp [completeIfAligned, hw, hst, h]

theorem completeIfAligned_of_not {s : State} (h : (∀ w, s.sch.sweep = some w → w.stage ≠ .aligning) ∨ s.aln ≠ []) :
    completeIfAligned s = s := by
  unfold completeIfAligned
  split
  · rename_i w hw
    exact if_neg fun hc => h.elim (fun hst => hst w hw hc.1) fun hne => hne hc.2
  · rfl

/-! ## The cells of a mask come in rising order -/

theorem cellBase_succ (p : Profile) (k : Nat) : cellBase p (k + 1) = cellBase p k + cellsAt p k := by
  simp [cellBase, List.range_succ]

theorem cellBase_mono (p : Profile) : Monotone (cellBase p) :=
  monotone_nat_of_le_succ fun k => by rw [cellBase_succ]; exact Nat.le_add_right _ _

theorem mem_moduleCells {p : Profile} {k i : Nat} : i ∈ moduleCells p k ↔ cellBase p k ≤ i ∧ i < cellBase p (k + 1) := by
  rw [cellBase_succ]
  simp only [moduleCells, List.mem_map, List.mem_range]
  exact ⟨fun ⟨c, hc, hi⟩ => by omega, fun h => ⟨i - cellBase p k, by omega, by omega⟩⟩

theorem moduleCells_sorted (p : Profile) (k : Nat) : (moduleCells p k).Pairwise (· < ·) :=
  List.pairwise_map.2 (List.pairwise_lt_range.imp fun h => Nat.add_lt_add_left h _)

theorem maskCells_sorted (p : Profile) (m : ModMask) : (maskCells p m).Pairwise (· < ·) := by
  refine List.pairwise_flatMap.2 ⟨fun k _ => moduleCells_sorted p k, ?_⟩
  refine (List.pairwise_lt_range.filter _).imp fun {j k} hjk x hx y hy => ?_
  have hbase : cellBase p (j + 1) ≤ cellBase p k := cellBase_mono p hjk
  have hx := (mem_moduleCells.1 hx).2
  have hy := (mem_moduleCells.1 hy).1
  omega

/-! ## The summary (R13) -/

section
variable {r : Nat → Nat → Prop} [DecidableRel r] [IsStrictTotalOrder Nat r] {keep : Option (Nat × Nat) → Nat × Nat → Option (Nat × Nat)}

/-- Of the cells with their codes, taken in rising order, the fold keeps one whose code stands first in the order r, and of several such
the lowest. -/
theorem foldl_keep (hkeep : ∀ a x, keep (some a) x = if r x.2 a.2 then some x else some a) (code : Nat → Nat) (cs : List Nat)
    (i : Nat) (h : (i :: cs).Pairwise (· < ·)) :
    ∃ j ∈ i :: cs, (cs.map fun x => (x, code x)).foldl keep (some (i, code i)) = some (j, code j)
      ∧ ∀ x ∈ i :: cs, r (code j) (code x) ∨ (code j = code x ∧ j ≤ x) := by
  induction cs generalizing i with
  | nil => exact ⟨i, List.mem_cons_self, rfl, fun x hx => .inr (by simp_all)⟩
  | cons c rest ih =>
    rw [List.map_cons, List.foldl_cons, hkeep]
    obtain ⟨hi, hc⟩ := List.pairwise_cons.1 h
    by_cases hci : r (code c) (code i)
    · obtain ⟨j, hj, hfold, hbest⟩ := ih c hc
      refine ⟨j, List.mem_cons_of_mem _ hj, by rw [if_pos hci, hfold], List.forall_mem_cons.2 ⟨.inl ?_, hbest⟩⟩
      rcases hbest c List.mem_cons_self with hlt | ⟨heq, -⟩
      · exact IsTrans.trans _ _ _ hlt hci
      · rwa [heq]
    · obtain ⟨j, hj, hfold, hbest⟩ := ih i (h.sublist (by simp))
      have hbesti := hbest i List.mem_cons_self
      have hic := hi c List.mem_cons_self
      refine ⟨j, ?_, by rw [if_neg hci, hfold], ?_⟩
      · exact (List.mem_cons.1 hj).elim (· ▸ List.mem_cons_self) fun hj => List.mem_cons_of_mem _ (List.mem_cons_of_mem _ hj)
      · refine List.forall_mem_cons.2 ⟨hbesti, List.forall_mem_cons.2 ⟨?_, fun x hx => hbest x (List.mem_cons_of_mem _ hx)⟩⟩
        rcases trichotomous_of r (code c) (code i) with hlt | heq | hlt
        · exact absurd hlt hci
        · rw [heq]
          exact hbesti.imp_right fun ⟨hcode, hle⟩ => ⟨hcode, hle.trans hic.le⟩
        · rcases hbesti with hr | ⟨hcode, -⟩
          · exact .inl (IsTrans.trans _ _ _ hr hlt)
          · exact .inl (hcode ▸ hlt)

end

theorem formSummary_cells (w : SweepRec) (s : State) (code : Nat → Nat) (hcode : code = fun i => (s.cell i).code.getD 0) :
    (formSummary w s).minCell = ((maskCells s.prof w.received).map fun i => (i, code i)).foldl lesser none
    ∧ (formSummary w s).maxCell = ((maskCells s.prof w.received).map fun i => (i, code i)).foldl greater none
    ∧ (formSummary w s).sum = BitVec.ofNat 32 ((maskCells s.prof w.received).map code).sum := by
  subst hcode
  simp [formSummary, State.writtenCells, Function.comp_def]

/-! ## Completion (R11, R12, R125, R137) -/

theorem fullSweep_iff (p : Profile) (w : SweepRec) :
    fullSweep p w = true ↔ ∀ k, k < 12 → (popMask p).getLsbD k = true → w.received.getLsbD k = true := by
  rw [fullSweep, beq_iff_eq]
  constructor
  · intro h k _ hk
    rw [← h, BitVec.getLsbD_and, Bool.and_eq_true] at hk
    exact hk.1
  · intro h
    refine BitVec.eq_of_getLsbD_eq fun k hk => ?_
    rw [BitVec.getLsbD_and, Bool.and_eq_right_iff_imp]
    exact h k hk

/-- The runner with the answer to its event request (R125). -/
theorem runnerSwept_of_answer {s : State} {r : Run} (hr : s.seq.run = some r) (haw : r.awaited = .sweep) (hreq : r.eventReq = true)
    (q g : ModMask) :
    runnerSwept q g s =
      let t := s.setSeq { s.seq with run := some { r with eventReq := false } }
      if g = q then runSteps 13 (r.idx + 1) t else endSequence .sweepFailed [] t := by
  simp [runnerSwept, hr, haw, hreq, State.setRun]

/-- Settles O44: the deadline, the end of ALIGNING, the stages of the completion, the summary by its folds, and the runner's step. -/
theorem deadlineMakesHeldNew : Obligations.DeadlineMakesHeldNew := by
  refine ⟨?_, fun s => ⟨fun w => completeIfAligned_of_done, completeIfAligned_of_not⟩, ?_, ?_, fun s => ⟨fun w hw hsrc hun => ?_,
    fun h => ?_, fun q g hr => ?_, ?_⟩⟩
  · intro s target it h s1 al
    have hexec : exec (.alignDeadline target) s = .next (finish (deadlineTaken target s)) := rfl
    rw [hexec, deadlineTaken_of_item h]
    rfl
  · intro w s counted done ends full
    have hmid (t : State) (ht : t.prof = s.prof)
        (h : (if fullSweep s.prof w then snapshotCheck (occurrence .fullSweepDone counted) else counted) = t) : ends t := by
      have hcomplete : completeSweep w s = tellPower w (arbiter (done
          (if w.source = .sleep then sleepJudge w t else limitEvaluate (maskCells s.prof w.received) t))) := by
        rw [← ht, ← h]
        rfl
      exact ⟨fun hs => by rw [hcomplete, tellPower, if_neg hs, if_neg hs],
        fun hs => by rw [hcomplete, tellPower, if_pos hs, if_pos hs]⟩
    exact ⟨fun hfull => hmid _ (by simp [counted]) (if_pos ((fullSweep_iff s.prof w).2 hfull)), fun hfull =>
      hmid _ (by simp [counted]) (if_neg (mt (fullSweep_iff s.prof w).1 hfull))⟩
  · intro w s cs code m
    obtain ⟨hmin, hmax, hsum⟩ := formSummary_cells w s code rfl
    refine ⟨rfl, rfl, rfl, rfl, rfl, rfl, hsum, fun hcs => ?_, fun hcs => ?_⟩
    · rw [show maskCells s.prof w.received = [] from hcs] at hmin hmax
      exact ⟨hmin, hmax⟩
    · obtain ⟨c, rest, hcons⟩ := List.exists_cons_of_ne_nil hcs
      have hsorted : (c :: rest).Pairwise (· < ·) := hcons ▸ maskCells_sorted s.prof w.received
      obtain ⟨i, hi, hifold, hileast⟩ := foldl_keep (r := (· < ·)) (keep := lesser) (fun _ _ => rfl) code rest c hsorted
      obtain ⟨j, hj, hjfold, hjmost⟩ := foldl_keep (r := (· > ·)) (keep := greater) (fun _ _ => rfl) code rest c hsorted
      have hcells : maskCells s.prof w.received = c :: rest := hcons
      rw [show cs = c :: rest from hcons]
      refine ⟨i, j, ?_, ?_, hi, hj, fun x hx => ⟨hileast x hx, (hjmost x hx).imp_right fun ⟨hcode, hle⟩ => ⟨hcode.symm, hle⟩⟩⟩
      · rw [hmin, hcells]
        exact hifold
      · rw [hmax, hcells]
        exact hjfold
  · simp [tellRunner, hw, hsrc, hun]
  · unfold tellRunner
    split
    · rename_i w hw
      exact if_neg fun hc => (h w hw).elim (fun hne => hne hc.1) fun hun => by simp [hun] at hc
    · rfl
  · rw [runnerSwept, hr]
  · intro r q g hr t
    refine ⟨fun h => ?_, fun haw hreq hgq => ?_, fun haw hreq hgq => ?_⟩
    · simp only [runnerSwept, hr]
      exact if_neg fun hc => h.elim (fun hne => hne hc.1) fun hno => by simp [hno] at hc
    · rw [runnerSwept_of_answer hr haw hreq, if_pos hgq]
    · rw [runnerSwept_of_answer hr haw hreq, if_neg hgq]

end Sys2Proof.Machine
end

section
/-! SUPPORT. Power: the power-up requests, the beginning of WAKING, the sleep sweep with its launch, judgement and decision, and the stages
of WAKING at the end of an event. -/
namespace Sys2Proof.Machine

/-! ## Power-up requests (R36, R45) -/

section
variable {s : State}

theorem chainPowerUp_of_poweredDown (h : s.chn.st = .poweredDown) :
    chainPowerUp s = s.setChn { s.chn with st := .powering, powerUpEnd := some (s.now + 5000#32), readyOwed := true } := by
  rw [chainPowerUp, h]
  rfl

theorem chainPowerUp_of_idle (h : s.chn.st = .idle) : chainPowerUp s = s := by rw [chainPowerUp, h]

theorem anaPowerUp_of_sampling (h : s.ana.sampling = true) :
    anaPowerUp s = s.setAna { s.ana with ring := [], readyOwed := some 2, latestAbove := none } := if_pos h

theorem anaPowerUp_of_not_sampling (h : s.ana.sampling = false) :
    anaPowerUp s = s.setAna { s.ana with
      sampling := true, nextInstant := s.now + BitVec.ofNat 32 s.ana.period, ring := [], readyOwed := some 2, latestAbove := none } :=
  if_neg (ne_true_of_eq_false h)

/-! ## The beginning of WAKING (R95, R160, R164, R192) -/

/-- A part that wakes: supervision resumed, the receiver in its idle wait, the chain and the channels as their power-up requests leave
them, and the power controller at the first stage of WAKING. -/
def State.woken (s : State) (w : WakeSet) (chn : Chn) (ana : Ana) (waitChain : Bool) : State :=
  ((((s.setKdr { s.kdr with
      suspended := false
      chans := s.kdr.chans.map fun c => { c with closedFb := false, debounce := 0, acceptDue := false } }).setPli { s.pli with
      rx := .idleWait (s.tim.packTime + 1000#32) }).setChn chn).setAna { ana with
      ring := [], readyOwed := some 2, latestAbove := none }).setPwr { s.pwr with
    mode := .waking, lastWake := some w, pendHost := false, pendTamper := false, sleepTimer := none, wakeStage := 1
    waitChain := waitChain, waitAna := true }

/-- From SLEEP_SWEEP, with the chain IDLE and the channels sampling, the chain is ready at once. -/
theorem beginWaking_of_up (w : WakeSet) (hc : s.chn.st = .idle) (ha : s.ana.sampling = true) :
    beginWaking w s = s.woken w s.chn s.ana false := by
  unfold beginWaking
  dsimp only
  rw [chainPowerUp_of_idle (by exact hc), anaPowerUp_of_sampling (by exact ha)]
  simp [State.woken, resumeSupervision, hc]
  rfl

/-- From SLEEP both power-up reports are waited for. -/
theorem beginWaking_of_down (w : WakeSet) (hc : s.chn.st = .poweredDown) (ha : s.ana.sampling = false) :
    beginWaking w s = s.woken w { s.chn with st := .powering, powerUpEnd := some (s.tim.packTime + 5000#32), readyOwed := true }
      { s.ana with sampling := true, nextInstant := s.tim.packTime + BitVec.ofNat 32 s.ana.period } true := by
  unfold beginWaking
  dsimp only
  rw [chainPowerUp_of_poweredDown (by exact hc), anaPowerUp_of_not_sampling (by exact ha)]
  rfl

end

/-! ## Sleep sweeps (R16, R161 to R163) -/

section
variable {s : State}

/-- The sleep timer's expiry begins a sleep sweep with both supplies powering up. -/
theorem sleepExpire_of_down (hc : s.chn.st = .poweredDown) (ha : s.ana.sampling = false) :
    sleepExpire s = ((s.setChn { s.chn with
        st := .powering, powerUpEnd := some (s.tim.packTime + 5000#32), readyOwed := true }).setAna { s.ana with
        sampling := true, nextInstant := s.tim.packTime + BitVec.ofNat 32 s.ana.period, ring := [], readyOwed := some 2
        latestAbove := none }).setPwr { s.pwr with
      mode := .sleepSweep, level2 := true, gathered := noBreaches, waitChain := true, waitAna := true } := by
  unfold sleepExpire
  dsimp only
  rw [chainPowerUp_of_poweredDown (by exact hc), anaPowerUp_of_not_sampling (by exact ha)]
  rfl

end

/-- A union of masks has the bits of those that the test lets in. -/
theorem foldl_or_getLsbD {α : Type} (test : α → Bool) (mask : α → ModMask) (l : List α) (m : ModMask) (k : Nat) :
    (l.foldl (fun m c => if test c then m ||| mask c else m) m).getLsbD k
      = (m.getLsbD k || l.any fun c => test c && (mask c).getLsbD k) := by
  induction l generalizing m with
  | nil => simp
  | cons c rest ih =>
    rw [List.foldl_cons, ih, List.any_cons]
    cases test c <;> simp [Bool.or_assoc]

theorem sleepMask_getLsbD (p : Profile) (k : Nat) :
    (sleepMask p).getLsbD k = p.slots.any fun c => c.enabled && c.sleepEligible && (effectiveMask p c).getLsbD k := by
  rw [sleepMask, foldl_or_getLsbD]
  simp

/-- Breach kinds gathered one after the other are those of any. -/
theorem foldl_union (f : Nat → Breaches) (l : List Nat) (b : Breaches) :
    l.foldl (fun b i => b.union (f i)) b =
      { ov := b.ov || l.any fun i => (f i).ov, uv := b.uv || l.any fun i => (f i).uv
        selfDischarge := b.selfDischarge || l.any fun i => (f i).selfDischarge, chain := b.chain || l.any fun i => (f i).chain } := by
  induction l generalizing b with
  | nil => simp
  | cons i rest ih =>
    rw [List.foldl_cons, ih]
    simp [Breaches.union, Bool.or_assoc]

/-- The difference to the sleep reference counts only where there is one. -/
theorem sleepBreaches_selfDischarge (p : Profile) (c : Cell) :
    (sleepBreaches p c).selfDischarge = c.sleepRef.any fun r => decide (c.code.getD 0 + p.selfDischarge < r) := by
  unfold sleepBreaches
  cases c.sleepRef <;> rfl

/-- The judgement gathers the breach kinds of the written cells, and CHAIN for a position not received. -/
theorem sleepJudge_eq (w : SweepRec) (s : State) :
    sleepJudge w s =
      let written := maskCells s.prof w.received
      let found := fun (kind : Breaches → Bool) => written.any fun i => kind (sleepBreaches s.prof (s.cell i))
      (occurrence .sleepSweep s).setPwr { s.pwr with gathered := {
        ov := s.pwr.gathered.ov || found Breaches.ov, uv := s.pwr.gathered.uv || found Breaches.uv
        selfDischarge := s.pwr.gathered.selfDischarge || found Breaches.selfDischarge
        chain := s.pwr.gathered.chain || w.requested &&& ~~~w.received != 0 } } := by
  have hcell (i : Nat) : (occurrence .sleepSweep s).cell i = s.cell i := by simp [State.cell]
  have hchain (l : List Nat) : (l.any fun i => (sleepBreaches s.prof (s.cell i)).chain) = false := by simp [sleepBreaches]
  simp only [sleepJudge, foldl_union, State.writtenCells, hcell, occurrence_frame, hchain, Bool.or_false]

section
variable {s : State}

theorem hostArrive_of_awake (h : s.pwr.mode ≠ .sleep) (h' : s.pwr.mode ≠ .sleepSweep) : hostArrive s = s := by
  unfold hostArrive
  split
  · exact absurd ‹_› h
  · exact absurd ‹_› h'
  all_goals rfl

theorem launchIfReady_of_ready (hm : s.pwr.mode = .sleepSweep) (hc : s.pwr.waitChain = false) (ha : s.pwr.waitAna = false) :
    launchIfReady s = sleepLaunch s := if_pos ⟨hm, hc, ha⟩

theorem launchIfReady_of_waiting (h : s.pwr.waitChain = true ∨ s.pwr.waitAna = true) : launchIfReady s = s :=
  if_neg fun ⟨_, hc, ha⟩ => by rcases h with h | h <;> simp_all

theorem sleepDecision_of_wake (h : s.pwr.gathered ≠ noBreaches ∨ s.pwr.pendHost = true ∨ s.pwr.pendTamper = true) :
    sleepDecision s = beginWaking
      { host := s.pwr.pendHost, tamper := s.pwr.pendTamper
        breach := if s.pwr.gathered = noBreaches then none else some s.pwr.gathered } s :=
  if_pos (h.imp_right fun h => by simpa [State.wakePending] using h)

theorem sleepDecision_of_sleep (hg : s.pwr.gathered = noBreaches) (hh : s.pwr.pendHost = false) (ht : s.pwr.pendTamper = false) :
    sleepDecision s = (anaPowerDown (chainPowerDown s)).setPwr { s.pwr with
      sleepTimer := some s.prof.sleepPeriod, divider := 0, level2 := false, mode := .sleep } := by
  simp [sleepDecision, hg, State.wakePending, hh, ht, loadSleepTimer]

/-! ## The stages of WAKING (R152, R165) -/

theorem wakeProgress_of_waiting (hm : s.pwr.mode = .waking) (hst : s.pwr.wakeStage = 1)
    (h : s.pwr.waitChain = true ∨ s.pwr.waitAna = true) : wakeProgress s = s := by
  rcases h with h | h <;> simp [wakeProgress, hm, hst, h]

theorem wakeProgress_of_reports (hm : s.pwr.mode = .waking) (hst : s.pwr.wakeStage = 1) (hc : s.pwr.waitChain = false)
    (ha : s.pwr.waitAna = false) :
    wakeProgress s = startEnumeration (s.setPwr { s.pwr with wakeStage := 2 }) := by
  simp [wakeProgress, hm, hst, hc, ha, startEnumeration, sendIdent]

theorem wakeProgress_of_enumerating (hm : s.pwr.mode = .waking) (hst : s.pwr.wakeStage = 2) (h : s.chn.st ≠ .idle) :
    wakeProgress s = s := by
  simp [wakeProgress, hm, hst, h]

theorem wakeProgress_of_enumerated (hm : s.pwr.mode = .waking) (hst : s.pwr.wakeStage = 2) (h : s.chn.st = .idle) :
    wakeProgress s = announce (restoreLevel (forgetPast s)) := by
  simp [wakeProgress, hm, hst, h]

theorem restoreLevel_of_none (h : s.pwr.level1 = none) :
    restoreLevel s = releaseSched false (s.setPwr { s.pwr with level1 := none, level2 := false }) := by
  simp only [restoreLevel, h]

theorem restoreLevel_of_some {run : Bool} {e : CondMask} (h : s.pwr.level1 = some (run, e)) :
    restoreLevel s = releaseSched run (replaceEnables e (s.setPwr { s.pwr with level1 := none, level2 := false })) := by
  simp only [restoreLevel, h]

/-- Whether the wake-cause set makes the part pulse WAKE. -/
theorem pulses_iff (w : Option WakeSet) :
    (w.map WakeSet.pulses).getD false = true ↔ ∃ v, w = some v ∧ (v.tamper = true ∨ v.breach.isSome = true) := by
  cases w <;> simp [WakeSet.pulses]

theorem setCond_setPwr (c : Cond) (s : State) (x : Pwr) : setCond c (s.setPwr x) = (setCond c s).setPwr x := by
  unfold setCond
  rw [show (s.setPwr x).condSet c = s.condSet c from rfl]
  split <;> rfl

theorem announce_of_pulse (h : (s.pwr.lastWake.map WakeSet.pulses).getD false = true) :
    announce s = (setCond .woke s).setPwr { s.pwr with
      wakePulse := some (s.tim.packTime + 2000#32), wokeFlag := true, mode := .run, wakeStage := 0 } := by
  simp [announce, h, setCond_setPwr]
  rfl

theorem announce_of_no_pulse (h : ¬ (s.pwr.lastWake.map WakeSet.pulses).getD false = true) :
    announce s = (setCond .woke s).setPwr { s.pwr with wokeFlag := true, mode := .run, wakeStage := 0 } := by
  simp [announce, h]

theorem wakeProgress_mode (hm : s.pwr.mode = .waking) : (wakeProgress s).pwr.mode = .waking ∨ (wakeProgress s).pwr.mode = .run := by
  have hrun (t : State) : (announce t).pwr.mode = .run := rfl
  by_cases hready : s.pwr.wakeStage = 1 ∧ s.pwr.waitChain = false ∧ s.pwr.waitAna = false
  · obtain ⟨hst, hc, ha⟩ := hready
    rw [wakeProgress_of_reports hm hst hc ha]
    exact .inl hm
  · simp only [wakeProgress, if_pos hm, if_neg hready]
    split
    · exact .inr (hrun _)
    · exact .inl hm

/-- In WAKING with no switch owed an event ends with the NV engine, the stages of WAKING and the transmit path (log 12). -/
theorem finish_of_waking (hm : s.pwr.mode = .waking) (hact : s.upd.act ≠ .owed) : finish s = linkPump (wakeProgress (nvBegin s)) := by
  have hn : (nvBegin s).pwr.mode = .waking := by simp [hm]
  have hw := wakeProgress_mode hn
  dsimp only [finish]
  rw [pursue_of_not_owed (nvBegin_not_owed hact), entryOne_of_mode (by simp [hm]), entryTwo_of_mode (by simp [hm]),
    entryThree_of_mode (by simp [hm]), startupProgress_of_mode (by simp [hm]),
    entryFour_of_mode (by rcases hw with h | h <;> simp [h]), linkPump_linkPump]

end

/-- Settles O52: the events of the power controller by mode, the reports, the judgement and the decision of a sleep sweep, and the end of an
event in WAKING by its stage. -/
theorem sleepTimerHostArrivalWakePulse : Obligations.SleepTimerHostArrivalWakePulse := by
  refine ⟨fun s hm ht hc ha => ?_, fun s hm hc ha => ?_, ?_, fun s hm => ?_, fun s hm hm' => ?_, fun s u hu => ?_, ?_, fun w s => ?_,
    fun s hm => ⟨sleepDecision_of_wake, ?_⟩, fun s hm => ⟨finish_of_waking hm, wakeProgress_of_waiting hm, ?_,
      wakeProgress_of_enumerating hm, ?_⟩⟩
  · show Host.Outcome.next (finish (sleepTimerTaken s)) = _
    have hdue : s.sleepDue = true := by simp [State.sleepDue, hm, ht]
    rw [sleepTimerTaken, if_pos hdue, sleepExpire_of_down hc ha]
  · show Host.Outcome.next (finish (hostArrive s)) = _
    simp only [hostArrive, hm, beginWaking_of_down _ hc ha]
    simp [State.woken, arrivalCauses]
  · intro w s woken
    exact ⟨beginWaking_of_up w, beginWaking_of_down w⟩
  · show Host.Outcome.next (finish (hostArrive s)) = _
    simp only [hostArrive, hm]
  · show Host.Outcome.next (finish (hostArrive s)) = _
    rw [hostArrive_of_awake hm hm']
  · show Host.Outcome.next (finish (wakePulseEnds s)) = _
    simp [wakePulseEnds, hu]
  · intro s hm c a
    refine ⟨fun h => launchIfReady_of_waiting (.inr h), fun h => launchIfReady_of_ready hm rfl h,
      fun h => launchIfReady_of_waiting (.inl h), fun h => launchIfReady_of_ready hm h rfl,
      fun k _ => sleepMask_getLsbD s.prof k, fun h => if_pos h, fun h => if_neg h⟩
  · intro written some_
    rw [sleepJudge_eq]
    simp only [sleepBreaches_selfDischarge]
    rfl
  · intro hg hh ht hc d e
    rw [sleepDecision_of_sleep hg hh ht, chainPowerDown, if_pos hc]
    rfl
  · intro hst hc ha
    rw [wakeProgress_of_reports hm hst hc ha]
    rfl
  · intro hst hidle a goesOn
    have hgoes (b : State) (hb : restoreLevel (forgetPast s) = b) (htim : b.tim = s.tim) (hpwr : b.pwr = a.pwr) : goesOn b := by
      have hwoken : wakeProgress s = announce b := by rw [wakeProgress_of_enumerated hm hst hidle, hb]
      have hlast : b.pwr.lastWake = s.pwr.lastWake := by rw [hpwr]; rfl
      refine ⟨fun hp => ?_, fun hp => ?_⟩
      · rw [hwoken, announce_of_pulse (hlast ▸ (pulses_iff _).2 hp), htim, hpwr]
      · rw [hwoken, announce_of_no_pulse (hlast ▸ mt (pulses_iff _).1 hp), hpwr]
    refine ⟨fun h => hgoes _ ?_ (by simp [a]) (by simp), fun run e h => hgoes _ ?_ (by simp [a]) (by simp)⟩
    · exact restoreLevel_of_none (s := forgetPast s) h
    · exact restoreLevel_of_some (s := forgetPast s) h

end Sys2Proof.Machine
end

section
/-! SUPPORT. The resistance unit: what an aligned reading of a cell comes to, and the clearing of references. -/
namespace Sys2Proof.Machine

/-! ## The clearing of references (R70) -/

theorem ownResetReferences_of_refused {scope : Byte} (h : 1 < scope.toNat) (s : State) :
    ownResetReferences scope s = refuse .badArgument s := if_pos h

theorem ownResetReferences_of_granted {scope : Byte} (h : scope.toNat ≤ 1) (s : State) :
    ownResetReferences scope s = (s.setCells (s.cells.map (clearRefs (scope == 1))), plain .ok) := if_neg (not_lt.2 h)

/-- Settles O18: the two scopes granted, each with its clearing of a cell, and the others refused. -/
theorem resetReferencesByScope : Obligations.ResetReferencesByScope := by
  intro s tag scope hs
  refine ⟨?_, ?_, fun h => ?_⟩
  · rintro rfl
    exact request_of_serving (r := .resetReferences 0) hs rfl (ownResetReferences_of_granted (by decide) _)
  · rintro rfl
    exact request_of_serving (r := .resetReferences 1) hs rfl (ownResetReferences_of_granted (by decide) _)
  · exact request_of_serving (r := .resetReferences scope) hs rfl (ownResetReferences_of_refused h _)

/-! ## The estimate (R64 to R68) -/

section
variable {p : Profile} {v : Nat} {i : Int} {r : Ref} {c : Cell}

/-- A current step below the minimum: the reference stays (R64). -/
theorem estimate_of_smallStep (h : (i - r.i).natAbs < p.minStep) : estimate p v i r c = { c with rMark := .smallStep } := if_pos h

/-- A negative estimate is not kept (R65), and the reading is the new reference (R67). -/
theorem estimate_of_negative (h : p.minStep ≤ (i - r.i).natAbs) (hneg : rawEstimate ((v : Int) - r.v) (i - r.i) < 0) :
    estimate p v i r c = storeRef v i { c with rMark := .negative } := by
  simp only [estimate, if_neg (not_lt.2 h), if_pos hneg]

/-- An estimate e that is not negative is clamped to 16 bits and filtered (R65, R68), and the reading is the new reference (R67). -/
theorem estimate_of_kept {e : Int} (h : p.minStep ≤ (i - r.i).natAbs) (he : rawEstimate ((v : Int) - r.v) (i - r.i) = e)
    (hpos : 0 ≤ e) :
    estimate p v i r c =
      storeRef v i (keepEstimate p (if e ≤ 65535 then .formed else .clamped) (min 65535 e.toNat) c) := by
  simp only [estimate, if_neg (not_lt.2 h), he, if_neg (not_lt.2 hpos)]
  split
  · rw [min_eq_right (by omega)]
  · rw [min_eq_left (by omega)]

/-! ## The reading (R61 to R63) -/

variable {src : SweepSource} {al : Aligned}

theorem takeReading_of_held (hs : src ≠ .sleep) (hm : al.mark.held = true) :
    takeReading p src al c = { c with rMark := .held } := by
  rw [takeReading, if_neg hs, if_pos hm]

section
variable (hs : src ≠ .sleep) (hm : al.mark.held = false) (hv : c.code = some v) (hi : al.current = some i)
include hs hm hv hi

/-- The first reading of a cell is its reference (R63). -/
theorem takeReading_of_no_ref (hr : c.ref = none) :
    takeReading p src al c = { storeRef v i c with rMark := .noReference } := by
  simp only [takeReading, if_neg hs, hm, hv, hi, hr, Bool.false_eq_true, if_false]

/-- An expired reference, also one the tick has found too old (R61), is replaced (R63); an unexpired one gives an estimate (R64). -/
theorem takeReading_of_ref (hr : c.ref = some r) :
    takeReading p src al c =
      if r.expired = true ∨ p.refMaxAge < r.age then { storeRef v i c with rMark := .noReference } else estimate p v i r c := by
  simp only [takeReading, if_neg hs, hm, hv, hi, hr, Ref.overdue, Bool.or_eq_true, decide_eq_true_eq, Bool.false_eq_true, if_false]

end

end

theorem not_held_of_measured {m : AlignMark} (h : m = .exact ∨ m = .interpolated) : m.held = false := by
  rcases h with rfl | rfl <;> rfl

/-- Settles O46: source and mark, then the reference, then the step, then the sign of the estimate. -/
theorem resistanceOutcomes : Obligations.ResistanceOutcomes := by
  intro p src al c
  refine ⟨fun hs => if_pos hs, fun hs hm => takeReading_of_held hs ((held_iff al.mark).2 hm), fun v i hs hm hv hi => ?_⟩
  have hmark := not_held_of_measured hm
  refine ⟨takeReading_of_no_ref hs hmark hv hi, fun r hr => ?_⟩
  rw [takeReading_of_ref hs hmark hv hi hr]
  have hunexpired (he : r.expired = false) (ha : r.age ≤ p.refMaxAge) : ¬ (r.expired = true ∨ p.refMaxAge < r.age) := by
    simp [he, ha]
  refine ⟨fun h => if_pos h, fun he ha hstep => ?_, fun he ha hstep => ⟨fun hneg => ?_, fun hpos => ?_⟩⟩
  · rw [if_neg (hunexpired he ha), estimate_of_smallStep hstep]
  · rw [if_neg (hunexpired he ha), estimate_of_negative hstep hneg]
    rfl
  · rw [if_neg (hunexpired he ha), estimate_of_kept hstep rfl hpos]
    rfl

end Sys2Proof.Machine
end

section
/-! SUPPORT. The condition unit: sets of conditions bit by bit, ALERT and the notice-pending flag (R82 to R86), and the requests that clear
conditions and replace the enable set (R89, R90). -/
namespace Sys2Proof.Machine

/-! ## Sets of conditions -/

/-- The twenty-two conditions, in the order of their indices. -/
def Cond.all : List Cond :=
  [.cellOv, .cellUv, .cellStale, .moduleLost, .overCurrent, .analogFault, .contactorFault, .logThreshold, .tamper, .noProfile,
   .alignHeld, .slotOverrun, .chainError, .seqDone, .seqFailed, .counterOverflow, .logFull, .updateDone, .updateFailed, .linkError,
   .linkOverrun, .woke]

theorem Cond.map_idx_all : Cond.all.map Cond.idx = List.range 22 := rfl

/-- Each of the twenty-two bits of a set stands for a condition. -/
theorem exists_idx_eq {i : Nat} (hi : i < 22) : ∃ c : Cond, c.idx = i := by
  have hmem : i ∈ Cond.all.map Cond.idx := by rwa [Cond.map_idx_all, List.mem_range]
  obtain ⟨c, -, hc⟩ := List.mem_map.1 hmem
  exact ⟨c, hc⟩

theorem Cond.idx_lt (c : Cond) : c.idx < 22 := by cases c <;> decide

/-- A set of conditions is not empty exactly when one of its bits is set. -/
theorem bne_zero_iff_exists_getLsbD (m : CondMask) : (m != 0) = true ↔ ∃ i, i < 22 ∧ m.getLsbD i = true := by
  rw [bne_iff_ne]
  constructor
  · intro hne
    by_contra hall
    refine hne (BitVec.eq_of_getLsbD_eq fun i hi => ?_)
    have hclear : m.getLsbD i = false := by
      by_contra hset
      exact hall ⟨i, hi, by simpa using hset⟩
    rw [hclear]
    simp
  · rintro ⟨i, -, hi⟩ rfl
    simp at hi

/-! ## ALERT and the notice-pending flag (R82, R85, R86) -/

theorem alert_iff (s : State) : s.alert = true ↔ ∃ c : Cond, s.condSet c = true ∧ s.condEnabled c = true := by
  rw [State.alert, bne_zero_iff_exists_getLsbD]
  constructor
  · rintro ⟨i, hi, hbit⟩
    obtain ⟨c, rfl⟩ := exists_idx_eq hi
    rw [BitVec.getLsbD_and, Bool.and_eq_true] at hbit
    exact ⟨c, hbit⟩
  · rintro ⟨c, hset, hen⟩
    exact ⟨c.idx, c.idx_lt, by rw [BitVec.getLsbD_and, Bool.and_eq_true]; exact ⟨hset, hen⟩⟩

theorem blocksReset_alert (mem : NvMem) (pins : Pins) (pending : List Instr) : (blocksReset mem pins pending).alert = false := by
  simp [State.alert, blocksReset, cndReset]

theorem condSet_setCond (c d : Cond) (s : State) : (setCond c s).condSet d = (s.condSet d || d == c) := by
  rw [show setCond c s = liveCond c true s from rfl, condSet_liveCond]
  by_cases h : d = c <;> simp [h]

theorem condSet_clearCond (c d : Cond) (s : State) : (clearCond c s).condSet d = (s.condSet d && d != c) := by
  rw [show clearCond c s = liveCond c false s from rfl, condSet_liveCond]
  by_cases h : d = c <;> simp [h]

theorem setCond_of_set {c : Cond} {s : State} (h : s.condSet c = true) : setCond c s = s := if_pos h

theorem setCond_of_clear {c : Cond} {s : State} (h : s.condSet c = false) :
    setCond c s = s.setCnd { s.cnd with
      set := s.cnd.set ||| c.bit, noticePending := s.cnd.noticePending || s.condEnabled c } := by
  rw [setCond, h]
  rfl

theorem setCond_noticePending (c : Cond) (s : State) :
    (setCond c s).cnd.noticePending = (s.cnd.noticePending || (!s.condSet c && s.condEnabled c)) := by
  cases h : s.condSet c with
  | true => simp [setCond_of_set h]
  | false => simp [setCond_of_clear h]

/-- Setting a condition changes the condition unit alone, and there not the enable set. -/
theorem setCond_cnd_only (c : Cond) (s : State) : (setCond c s).cnd.enables = s.cnd.enables ∧ (setCond c s).setCnd s.cnd = s := by
  cases h : s.condSet c with
  | true => rw [setCond_of_set h]; exact ⟨rfl, rfl⟩
  | false => rw [setCond_of_clear h]; exact ⟨rfl, rfl⟩

/-- A replaced enable set sets the flag by the conditions set at that moment that it newly enables (R86). -/
theorem replaceEnables_noticePending_iff (e : CondMask) (s : State) :
    (replaceEnables e s).cnd.noticePending = true ↔ s.cnd.noticePending = true
      ∨ ∃ i, i < 22 ∧ s.cnd.set.getLsbD i = true ∧ e.getLsbD i = true ∧ s.cnd.enables.getLsbD i = false := by
  rw [replaceEnables, State.setCnd_cnd, Bool.or_eq_true, bne_zero_iff_exists_getLsbD]
  refine or_congr_right (exists_congr fun i => and_congr_right fun hi => ?_)
  simp [hi, and_assoc]

/-- Settles O58: ALERT and the flag by the bits of the sets; setting and clearing by `condSet_liveCond`. -/
theorem alertAndNoticeFollowTheConditions : Obligations.AlertAndNoticeFollowTheConditions := by
  refine ⟨⟨alert_iff, blocksReset_alert⟩, fun s c => ?_, fun _ _ => ⟨rfl, rfl⟩, fun s e => ?_, fun _ => rfl, fun _ _ _ => rfl⟩
  · obtain ⟨henables, hrest⟩ := setCond_cnd_only c s
    exact ⟨fun d => condSet_setCond c d s, fun d => condSet_clearCond c d s, setCond_noticePending c s, rfl, henables, rfl, hrest, rfl⟩
  · exact ⟨fun _ => rfl, fun _ => rfl, rfl, replaceEnables_noticePending_iff e s⟩

/-! ## CLEAR_CONDITIONS and SET_ALERT_ENABLE (R89, R90) -/

/-- Four bytes, low byte first, read back. -/
theorem word32_leBytes (x : BitVec 32) :
    word32 (BitVec.ofNat 8 x.toNat) (BitVec.ofNat 8 (x.toNat / 256)) (BitVec.ofNat 8 (x.toNat / 256 / 256))
      (BitVec.ofNat 8 (x.toNat / 256 / 256 / 256)) = x := by
  refine BitVec.eq_of_toNat_eq ?_
  have hx := x.isLt
  simp only [word32, leNat, BitVec.toNat_ofNat]
  omega

theorem parseArgs_clearConditions (set : BitVec 32) :
    parseArgs (Request.clearConditions set).code.toNat (Request.clearConditions set).payload = some (.clearConditions set) :=
  congrArg (fun x => some (Request.clearConditions x)) (word32_leBytes set)

theorem parseArgs_setAlertEnable (set : BitVec 32) :
    parseArgs (Request.setAlertEnable set).code.toNat (Request.setAlertEnable set).payload = some (.setAlertEnable set) :=
  congrArg (fun x => some (Request.setAlertEnable x)) (word32_leBytes set)

theorem namesConditions_of_lt {set : BitVec 32} (h : set.toNat < 2 ^ 22) : namesConditions set = true := decide_eq_true h

theorem namesConditions_of_ge {set : BitVec 32} (h : 2 ^ 22 ≤ set.toNat) : namesConditions set = false :=
  decide_eq_false (Nat.not_lt.2 h)

theorem ownClearConditions_of_named {set : BitVec 32} (h : set.toNat < 2 ^ 22) (s : State) :
    ownClearConditions set s = (s.setCnd { s.cnd with set := s.cnd.set &&& ~~~(set.setWidth 22 &&& clearable) },
      { status := .ok, body := .condSet (s.cnd.set &&& ~~~(set.setWidth 22 &&& clearable)) }) := by
  rw [ownClearConditions, namesConditions_of_lt h]
  rfl

theorem ownClearConditions_of_refused {set : BitVec 32} (h : 2 ^ 22 ≤ set.toNat) (s : State) :
    ownClearConditions set s = (s, plain .badArgument) := by
  rw [ownClearConditions, namesConditions_of_ge h]
  rfl

theorem ownSetAlertEnable_of_named {set : BitVec 32} (h : set.toNat < 2 ^ 22) (s : State) :
    ownSetAlertEnable set s = (replaceEnables (set.setWidth 22) s, { status := .ok, body := .condSet (set.setWidth 22) }) := by
  rw [ownSetAlertEnable, namesConditions_of_lt h]
  rfl

theorem ownSetAlertEnable_of_refused {set : BitVec 32} (h : 2 ^ 22 ≤ set.toNat) (s : State) :
    ownSetAlertEnable set s = (s, plain .badArgument) := by
  rw [ownSetAlertEnable, namesConditions_of_ge h]
  rfl

/-- The latched conditions are those of index 10 and above; all but COUNTER_OVERFLOW can be cleared (R83, R89). -/
theorem clearable_getLsbD {i : Nat} (hi : i < 22) :
    clearable.getLsbD i = (decide (10 ≤ i) && decide (i ≠ Cond.counterOverflow.idx)) := by
  have hall : ∀ i : Fin 22, clearable.getLsbD i = (decide (10 ≤ i.val) && decide (i.val ≠ Cond.counterOverflow.idx)) := by decide
  exact hall ⟨i, hi⟩

/-- Settles O19: each request by its range check; the cleared set and the flag bit by bit. -/
theorem clearConditionsAndSetAlertEnable : Obligations.ClearConditionsAndSetAlertEnable := by
  refine ⟨fun s tag set hs => ⟨fun hge => ?_, fun hlt => ?_⟩, fun s tag set hs => ⟨fun hge => ?_, fun hlt => ?_⟩⟩
  · exact request_of_serving hs (parseArgs_clearConditions set) (ownClearConditions_of_refused hge _)
  · refine ⟨s.cnd.set &&& ~~~(set.setWidth 22 &&& clearable),
      request_of_serving hs (parseArgs_clearConditions set) (ownClearConditions_of_named hlt _), fun i hi => ?_⟩
    simp only [BitVec.getLsbD_and, BitVec.getLsbD_not, BitVec.getLsbD_setWidth, clearable_getLsbD hi, hi, decide_true, Bool.true_and,
      Bool.and_assoc]
  · exact request_of_serving hs (parseArgs_setAlertEnable set) (ownSetAlertEnable_of_refused hge _)
  · refine ⟨(replaceEnables (set.setWidth 22) s).cnd.noticePending,
      request_of_serving hs (parseArgs_setAlertEnable set) (ownSetAlertEnable_of_named hlt _),
      (replaceEnables_noticePending_iff _ s).trans (or_congr_right (exists_congr fun i => and_congr_right fun hi => ?_))⟩
    simp [hi]

end Sys2Proof.Machine
end

section
/-! SUPPORT. The live conditions against their causes (R82, R83), block by block: an operation that changes a cause judges its condition
before it ends, and no other operation touches either. Between the two the condition is named as one that may lag behind. -/
namespace Sys2Proof.Machine

/-! ## The causes of the live conditions -/

/-- The cause of a live condition as the state shows it; a latched condition has none (R82, R83). -/
def State.cause (s : State) : Cond → Option Bool
  | .cellOv => some (decide (0 < s.countBreach .ov))
  | .cellUv => some (decide (0 < s.countBreach .uv))
  | .cellStale => some (s.populated.any fun c => !c.fresh)
  | .moduleLost => some s.someLost
  | .overCurrent => some s.ana.overCurrent
  | .analogFault => some s.ana.fault
  | .contactorFault => some s.anyFaulted
  | .logThreshold => some (decide (s.log.threshold ≤ s.log.records.length))
  | .tamper => some s.tmp.latch
  | .noProfile => some (s.nvs.sel == .ended && s.nvs.active.isNone)
  | .counterOverflow => some (s.ctr.overflow != 0)
  | .alignHeld | .slotOverrun | .chainError | .seqDone | .seqFailed | .logFull | .updateDone | .updateFailed | .linkError
  | .linkOverrun | .woke => none

/-- Each live condition outside a list is set exactly while its cause holds; those of the list may lag behind. The channels are four. -/
def State.showsBut (E : List Cond) (s : State) : Prop :=
  s.kdr.chans.length = 4 ∧ ∀ c, c ∉ E → ∀ b, s.cause c = some b → s.condSet c = b

/-- With no condition that lags behind, the live conditions show their causes. -/
theorem showsBut_nil_iff (s : State) : s.showsBut [] ↔ s.conditionsShowCauses := by
  constructor
  · rintro ⟨hlen, h⟩
    have hc := fun c => h c List.not_mem_nil
    exact ⟨hlen, hc .cellOv _ rfl, hc .cellUv _ rfl, hc .cellStale _ rfl, hc .moduleLost _ rfl, hc .overCurrent _ rfl,
      hc .analogFault _ rfl, hc .contactorFault _ rfl, hc .logThreshold _ rfl, hc .tamper _ rfl, hc .noProfile _ rfl,
      hc .counterOverflow _ rfl⟩
  · rintro ⟨hlen, hov, huv, hstale, hlost, hoc, hfault, hk, hlog, htmp, hprof, hctr⟩
    refine ⟨hlen, fun c _ b hb => ?_⟩
    cases c with
    | cellOv => exact hov.trans (Option.some.inj hb)
    | cellUv => exact huv.trans (Option.some.inj hb)
    | cellStale => exact hstale.trans (Option.some.inj hb)
    | moduleLost => exact hlost.trans (Option.some.inj hb)
    | overCurrent => exact hoc.trans (Option.some.inj hb)
    | analogFault => exact hfault.trans (Option.some.inj hb)
    | contactorFault => exact hk.trans (Option.some.inj hb)
    | logThreshold => exact hlog.trans (Option.some.inj hb)
    | tamper => exact htmp.trans (Option.some.inj hb)
    | noProfile => exact hprof.trans (Option.some.inj hb)
    | counterOverflow => exact hctr.trans (Option.some.inj hb)
    | _ => cases hb

section
variable {s t : State} {E F : List Cond}

theorem ite_shows {p : Prop} [Decidable p] (hs : s.showsBut E) (ht : t.showsBut E) : (if p then s else t).showsBut E := by
  split
  · exact hs
  · exact ht

/-- A state that has the same conditions set, and the same causes of all but a list that grew, shows all but that list. -/
theorem State.showsBut.of_causes (h : s.showsBut E) (hEF : ∀ c ∈ E, c ∈ F) (hlen : t.kdr.chans.length = s.kdr.chans.length)
    (hset : t.cnd.set = s.cnd.set) (hcause : ∀ c, c ∉ F → t.cause c = s.cause c) : t.showsBut F := by
  obtain ⟨hs, hc⟩ := h
  refine ⟨hlen.trans hs, fun c hcF b hb => ?_⟩
  rw [condSet_of_same hset]
  exact hc c (fun he => hcF (hEF c he)) b (by rw [← hcause c hcF, hb])

/-- More conditions may lag behind. -/
theorem State.showsBut.relist (h : s.showsBut E) (hEF : ∀ c ∈ E, c ∈ F) : s.showsBut F := h.of_causes hEF rfl rfl fun _ _ => rfl

/-- One more condition may lag behind. -/
theorem State.showsBut.lag (h : s.showsBut E) (c : Cond) : s.showsBut (c :: E) :=
  h.of_causes (fun _ => List.mem_cons_of_mem c) rfl rfl fun _ _ => rfl

/-- What the conditions and their causes are read from stays as it was. -/
theorem State.showsBut.mono (h : s.showsBut E)
    (hkeep : t.cnd.set = s.cnd.set ∧ t.kdr.chans = s.kdr.chans ∧ t.cells = s.cells ∧ t.prof = s.prof
      ∧ t.chn.modules = s.chn.modules ∧ t.ana.overCurrent = s.ana.overCurrent ∧ t.ana.fault = s.ana.fault
      ∧ t.log = s.log ∧ t.tmp.latch = s.tmp.latch ∧ t.nvs.sel = s.nvs.sel ∧ t.nvs.active = s.nvs.active
      ∧ t.ctr.overflow = s.ctr.overflow) : t.showsBut E := by
  obtain ⟨hset, hchans, hcells, hprof, hmod, hoc, hfault, hlog, hlatch, hsel, hactive, hctr⟩ := hkeep
  refine h.of_causes (fun _ => id) (by rw [hchans]) hset fun c _ => ?_
  have hlost := someLost_of_same hprof hmod
  have hpop : t.populated = s.populated := by simp only [State.populated, hcells, hprof]
  cases c <;> simp [State.cause, State.countBreach, State.anyFaulted, hchans, hpop, hlost, hoc, hfault, hlog, hlatch, hsel, hactive, hctr]

/-! ## The conditions (R82) -/

theorem cause_liveCond (c d : Cond) (b : Bool) (s : State) : (liveCond c b s).cause d = s.cause d := by
  have hlost : (liveCond c b s).someLost = s.someLost := someLost_of_same (by simp) (by simp)
  cases d <;> simp [State.cause, State.countBreach, State.populated, State.anyFaulted, hlost]

/-- A condition that takes the state of its cause lags behind no more. -/
theorem liveCond_shows {c : Cond} {b : Bool} (h : s.showsBut (c :: E)) (hb : s.cause c = some b ∨ s.cause c = none) :
    (liveCond c b s).showsBut E := by
  obtain ⟨hlen, hc⟩ := h
  refine ⟨by simpa using hlen, fun d hd b' hb' => ?_⟩
  rw [cause_liveCond] at hb'
  rw [condSet_liveCond]
  split
  · rename_i hdc
    subst hdc
    simp_all
  · rename_i hdc
    exact hc d (by simp [hdc, hd]) b' hb'

/-- A latched condition follows no cause. -/
theorem setCond_shows {c : Cond} (h : s.showsBut E) (hc : s.cause c = none) : (setCond c s).showsBut E :=
  liveCond_shows (b := true) (h.lag c) (.inr hc)

theorem judgeStale_shows (h : s.showsBut (.cellStale :: E)) : (judgeStale s).showsBut E := liveCond_shows h (.inl rfl)

theorem judgeModuleLost_shows (h : s.showsBut (.moduleLost :: E)) : (judgeModuleLost s).showsBut E := liveCond_shows h (.inl rfl)

theorem judgeContactorFault_shows (h : s.showsBut (.contactorFault :: E)) : (judgeContactorFault s).showsBut E :=
  liveCond_shows h (.inl rfl)

theorem judgeThreshold_shows (h : s.showsBut (.logThreshold :: E)) : (judgeThreshold s).showsBut E := liveCond_shows h (.inl rfl)

theorem judgeTamper_shows (h : s.showsBut (.tamper :: E)) : (judgeTamper s).showsBut E := liveCond_shows h (.inl rfl)

theorem judgeOverflow_shows (h : s.showsBut (.counterOverflow :: E)) : (judgeOverflow s).showsBut E := liveCond_shows h (.inl rfl)

theorem judgeBreach_shows (h : s.showsBut (.cellOv :: .cellUv :: E)) : (judgeBreach s).showsBut E :=
  liveCond_shows (liveCond_shows h (.inl rfl)) (.inl (cause_liveCond _ .cellUv _ s))

@[simp] theorem replaceEnables_condSet (e : CondMask) (s : State) : (replaceEnables e s).cnd.set = s.cnd.set := rfl

theorem replaceEnables_shows (e : CondMask) (h : s.showsBut E) : (replaceEnables e s).showsBut E := h.mono (by simp)

/-! ## One rule for each replacement: the blocks that no cause is read from -/

theorem setTim_shows (x : Tim) (h : s.showsBut E) : (s.setTim x).showsBut E := h.mono (by simp)
theorem setSch_shows (x : Sch) (h : s.showsBut E) : (s.setSch x).showsBut E := h.mono (by simp)
theorem setAln_shows (x : List AlignItem) (h : s.showsBut E) : (s.setAln x).showsBut E := h.mono (by simp)
theorem setLim_shows (x : Lim) (h : s.showsBut E) : (s.setLim x).showsBut E := h.mono (by simp)
theorem setSeq_shows (x : Seq) (h : s.showsBut E) : (s.setSeq x).showsBut E := h.mono (by simp)
theorem setPwr_shows (x : Pwr) (h : s.showsBut E) : (s.setPwr x).showsBut E := h.mono (by simp)
theorem setUpd_shows (x : Upd) (h : s.showsBut E) : (s.setUpd x).showsBut E := h.mono (by simp)
theorem setPli_shows (x : Pli) (h : s.showsBut E) : (s.setPli x).showsBut E := h.mono (by simp)
theorem setPins_shows (x : Pins) (h : s.showsBut E) : (s.setPins x).showsBut E := h.mono (by simp)
theorem setPending_shows (x : List Instr) (h : s.showsBut E) : (s.setPending x).showsBut E := h.mono (by simp)

/-! ## One rule for each replacement of a cause -/

/-- An entry that agrees with the one it replaces leaves the list of what they agree on. -/
theorem map_set_getD {α β : Type} {f : α → β} {l : List α} {i : Nat} {a d : α} (h : f a = f (l.getD i d)) :
    (l.set i a).map f = l.map f := by
  rcases Nat.lt_or_ge i l.length with hi | hi
  · rw [List.map_set, h, List.getD_eq_getElem _ _ hi]
    have hself := List.set_getElem_self (as := l.map f) (i := i) (by simpa using hi)
    rwa [List.getElem_map] at hself
  · rw [List.set_eq_of_length_le hi]

theorem setAna_shows (x : Ana) (h : s.showsBut E) : (s.setAna x).showsBut (.analogFault :: .overCurrent :: E) :=
  h.of_causes (fun c hc => by simp [hc]) rfl rfl fun c hc => by
    cases c with
    | overCurrent | analogFault => simp at hc
    | _ => rfl

theorem setLog_shows (x : CapLog) (h : s.showsBut E) : (s.setLog x).showsBut (.logThreshold :: E) :=
  h.of_causes (fun c hc => by simp [hc]) rfl rfl fun c hc => by
    cases c with
    | logThreshold => simp at hc
    | _ => rfl

theorem setCtr_shows (x : Ctr) (h : s.showsBut E) : (s.setCtr x).showsBut (.counterOverflow :: E) :=
  h.of_causes (fun c hc => by simp [hc]) rfl rfl fun c hc => by
    cases c with
    | counterOverflow => simp at hc
    | _ => rfl

/-- Over the same overflow set COUNTER_OVERFLOW has the same cause (R83). -/
theorem setCtr_shows_of_overflow {x : Ctr} (h : s.showsBut E) (hx : x.overflow = s.ctr.overflow) : (s.setCtr x).showsBut E :=
  h.mono (by simp [hx])

theorem setTmp_shows (x : Tmp) (h : s.showsBut E) : (s.setTmp x).showsBut (.tamper :: E) :=
  h.of_causes (fun c hc => by simp [hc]) rfl rfl fun c hc => by
    cases c with
    | tamper => simp at hc
    | _ => rfl

theorem setNvs_shows (x : Nvs) (h : s.showsBut E) : (s.setNvs x).showsBut (.noProfile :: E) :=
  h.of_causes (fun c hc => by simp [hc]) rfl rfl fun c hc => by
    cases c with
    | noProfile => simp at hc
    | _ => rfl

theorem setChn_shows (x : Chn) (h : s.showsBut E) : (s.setChn x).showsBut (.moduleLost :: E) :=
  h.of_causes (fun c hc => by simp [hc]) rfl rfl fun c hc => by
    cases c with
    | moduleLost => simp at hc
    | _ => rfl

/-- The driver's state replaced over as many channels. -/
theorem setKdr_shows {x : Kdr} (h : s.showsBut E) (hlen : x.chans.length = s.kdr.chans.length) :
    (s.setKdr x).showsBut (.contactorFault :: E) :=
  h.of_causes (fun c hc => by simp [hc]) hlen rfl fun c hc => by
    cases c with
    | contactorFault => simp at hc
    | _ => rfl

/-- Over channels in the same states CONTACTOR_FAULT has the same cause (R103). -/
theorem setKdr_shows_of_states {x : Kdr} (h : s.showsBut E) (hst : x.chans.map Chan.st = s.kdr.chans.map Chan.st) :
    (s.setKdr x).showsBut E := by
  have hlen : x.chans.length = s.kdr.chans.length := by simpa using congrArg List.length hst
  have hfault : (s.setKdr x).anyFaulted = s.anyFaulted := by
    have hany : ∀ l : List Chan, (l.any fun c => c.st.faulted) = (l.map Chan.st).any KState.faulted := fun l => by
      rw [List.any_map]
      rfl
    rw [State.anyFaulted, State.anyFaulted, State.setKdr_kdr, hany, hany, hst]
  refine h.of_causes (fun _ => id) hlen rfl fun c _ => ?_
  cases c with
  | contactorFault => exact congrArg some hfault
  | _ => rfl

theorem setChan_shows (k : Nat) (c : Chan) (h : s.showsBut E) : (s.setChan k c).showsBut (.contactorFault :: E) :=
  setKdr_shows h List.length_set

/-- A channel that was not faulted and is not, or that keeps its state, leaves CONTACTOR_FAULT's cause (R103). -/
theorem setChan_shows_of_faulted {k : Nat} {c : Chan} (h : s.showsBut E) (hst : c.st.faulted = (s.chan k).st.faulted) :
    (s.setChan k c).showsBut E := by
  have hany : ∀ l : List Chan, (l.any fun c => c.st.faulted) = (l.map fun c => c.st.faulted).any id := fun l => by
    simp [List.any_map]
  have hfault : (s.setChan k c).anyFaulted = s.anyFaulted := by
    rw [State.anyFaulted, State.anyFaulted, State.setChan, State.setKdr_kdr, hany, hany, map_set_getD (d := chanReset) hst]
  refine h.of_causes (fun _ => id) List.length_set rfl fun c _ => ?_
  cases c with
  | contactorFault => exact congrArg some hfault
  | _ => rfl

theorem countBreach_setCells {x : List Cell} (hb : x.map Cell.breach = s.cells.map Cell.breach) (b : BreachState) :
    (s.setCells x).countBreach b = s.countBreach b := by
  have hmap : ∀ l : List Cell, l.countP (fun c => c.breach == b) = (l.map Cell.breach).countP (· == b) := fun l => by
    rw [List.countP_map]
    rfl
  simp only [State.countBreach, State.populated, State.setCells_cells, State.setCells_prof, hmap, List.map_take, hb]

theorem stale_setCells {x : List Cell} (hf : x.map Cell.fresh = s.cells.map Cell.fresh) :
    ((s.setCells x).populated.any fun c => !c.fresh) = s.populated.any fun c => !c.fresh := by
  have hmap : ∀ l : List Cell, (l.any fun c => !c.fresh) = (l.map Cell.fresh).any (!·) := fun l => by
    rw [List.any_map]
    rfl
  rw [hmap, hmap]
  simp only [State.populated, State.setCells_cells, State.setCells_prof, List.map_take, hf]

/-- Any other cells may change the causes of CELL_OV, CELL_UV and CELL_STALE. -/
theorem setCells_shows (x : List Cell) (h : s.showsBut E) : (s.setCells x).showsBut (.cellOv :: .cellUv :: .cellStale :: E) :=
  h.of_causes (fun c hc => by simp [hc]) rfl rfl fun c hc => by
    cases c with
    | cellOv | cellUv | cellStale => simp at hc
    | _ => rfl

/-- Cells in the same breach states may change the cause of CELL_STALE alone (R79). -/
theorem setCells_shows_of_breach {x : List Cell} (h : s.showsBut E) (hb : x.map Cell.breach = s.cells.map Cell.breach) :
    (s.setCells x).showsBut (.cellStale :: E) :=
  h.of_causes (fun c hc => by simp [hc]) rfl rfl fun c hc => by
    cases c with
    | cellStale => simp at hc
    | cellOv | cellUv => simp only [State.cause, countBreach_setCells hb]
    | _ => rfl

/-- Cells with the same fresh flags may change the causes of CELL_OV and CELL_UV alone (R78). -/
theorem setCells_shows_of_fresh {x : List Cell} (h : s.showsBut E) (hf : x.map Cell.fresh = s.cells.map Cell.fresh) :
    (s.setCells x).showsBut (.cellOv :: .cellUv :: E) :=
  h.of_causes (fun c hc => by simp [hc]) rfl rfl fun c hc => by
    cases c with
    | cellOv | cellUv => simp at hc
    | cellStale => exact congrArg some (stale_setCells hf)
    | _ => rfl

/-- Cells in the same breach states with the same fresh flags leave every cause. -/
theorem setCells_shows_of_same {x : List Cell} (h : s.showsBut E) (hb : x.map Cell.breach = s.cells.map Cell.breach)
    (hf : x.map Cell.fresh = s.cells.map Cell.fresh) : (s.setCells x).showsBut E :=
  h.of_causes (fun _ => id) rfl rfl fun c _ => by
    cases c with
    | cellOv | cellUv => simp only [State.cause, countBreach_setCells hb]
    | cellStale => exact congrArg some (stale_setCells hf)
    | _ => rfl

/-- The cells' entries rewritten one by one, breach state and fresh flag kept. -/
theorem mapCells_shows {f : Cell → Cell} (h : s.showsBut E) (hb : ∀ c, (f c).breach = c.breach) (hf : ∀ c, (f c).fresh = c.fresh) :
    (s.setCells (s.cells.map f)).showsBut E :=
  setCells_shows_of_same h (by simp [hb]) (by simp [hf])

/-- One cell rewritten, breach state and fresh flag kept. -/
theorem setCell_shows {i : Nat} {c : Cell} (h : s.showsBut E) (hb : c.breach = (s.cell i).breach) (hf : c.fresh = (s.cell i).fresh) :
    (s.setCell i c).showsBut E := setCells_shows_of_same h (map_set_getD hb) (map_set_getD hf)

/-- A new population may change the causes of the conditions of cells and modules. -/
theorem setProf_shows (p : Profile) (h : s.showsBut E) :
    (s.setProf p).showsBut (.moduleLost :: .cellOv :: .cellUv :: .cellStale :: E) :=
  h.of_causes (fun c hc => by simp [hc]) rfl rfl fun c hc => by
    cases c with
    | cellOv | cellUv | cellStale | moduleLost => simp at hc
    | _ => rfl

end

end Sys2Proof.Machine
end

section
/-! SUPPORT. The live conditions against their causes: counters, capture log, NV engine, analog channels, contactors, scheduler, runner,
limit monitor, profile switch and power controller. Each keeps a condition at its cause, or judges it before it ends. -/
namespace Sys2Proof.Machine

section
variable {s t : State} {E F : List Cond}

/-! ## Counters and capture log (R133 to R147) -/

theorem offerRecord_shows (fault : Bool) (body : RecordBody) (h : s.showsBut E) : (offerRecord fault body s).showsBut E :=
  ite_shows (judgeThreshold_shows (setLog_shows _ h)) (setCond_shows h rfl)

theorem occurrence_shows (k : EventKind) (h : s.showsBut E) : (occurrence k s).showsBut E := by
  unfold occurrence
  dsimp only
  split
  · rename_i hm
    exact h.mono (by simp [hm])
  · exact judgeOverflow_shows (setCtr_shows _ h)

theorem occurrences_shows (k : EventKind) (n : Nat) (h : s.showsBut E) : (occurrences k n s).showsBut E := by
  induction n generalizing s with
  | zero => exact h
  | succ n ih => exact ih (occurrence_shows k h)

theorem snapshotCheck_shows (h : s.showsBut E) : (snapshotCheck s).showsBut E := by
  refine ite_shows ?_ h
  split
  · exact setCtr_shows_of_overflow (offerRecord_shows _ _ h) rfl
  · exact h

/-! ## The NV engine (R171 to R174) -/

theorem offerOp_shows {op : NvOp} (h : s.showsBut E) (ho : offerOp op s = some t) : t.showsBut E := by
  rcases offerOp_cases op s with ⟨e, -⟩ | ⟨e, -⟩ | ⟨e, -⟩ <;> rw [e] at ho <;> cases ho
  · exact h
  · exact h.mono (by simp)

theorem offerSure_shows (op : NvOp) (h : s.showsBut E) : (offerSure op s).showsBut E := by
  unfold offerSure
  cases ho : offerOp op s with
  | none => exact h
  | some t => exact offerOp_shows h ho

theorem setBankStatus_shows (x : AB) (st : BankStatus) (h : s.showsBut E) : (setBankStatus x st s).showsBut E := by
  cases x <;> exact h.mono (by simp [setBankStatus])

theorem beginEffects_shows (op : NvOp) (h : s.showsBut E) : (beginEffects op s).showsBut E := by
  cases op with
  | bankCommit x g => exact ite_shows ((setBankStatus_shows x .incomplete h).mono (by simp)) (setBankStatus_shows x .incomplete h)
  | anchorTamper | anchorSelect | invalidate => exact h
  | anchorActivate | anchorClear | wearSave => exact h.mono (by simp [beginEffects])

theorem nvBegin_shows (h : s.showsBut E) : (nvBegin s).showsBut E := by
  refine ite_shows h ?_
  split
  · exact h
  · exact beginEffects_shows _ (h.mono (by simp))

theorem floorRaised_shows (x : AB) (h : s.showsBut E) : (floorRaised x s).showsBut E := by
  unfold floorRaised
  split
  · exact ite_shows (setBankStatus_shows _ _ h) h
  · exact h

theorem anchorInForce_shows (slot : AB) (c : Anchor) (h : s.showsBut E) : (anchorInForce slot c s).showsBut E :=
  floorRaised_shows _ (floorRaised_shows _ (h.mono (by simp)))

theorem dropOps_shows (f : NvOp → Bool) (h : s.showsBut E) : (dropOps f s).showsBut E := h.mono (by simp [dropOps])

theorem requestWear_shows (h : s.showsBut E) (hw : requestWear s = some t) : t.showsBut E := by
  unfold requestWear at hw
  split at hw
  · cases hw
    exact h
  · obtain ⟨u, hu, rfl⟩ := Option.map_eq_some_iff.1 hw
    exact (offerOp_shows h hu).mono (by simp)

/-! ## Analog channels, alignment and resistance (R41 to R69) -/

@[simp] theorem takeReading_breach (p : Profile) (source : SweepSource) (al : Aligned) (c : Cell) :
    (takeReading p source al c).breach = c.breach := by
  unfold takeReading estimate keepEstimate storeRef
  dsimp only
  (repeat' split) <;> rfl

@[simp] theorem takeReading_fresh (p : Profile) (source : SweepSource) (al : Aligned) (c : Cell) :
    (takeReading p source al c).fresh = c.fresh := by
  have hreading := takeReading_reading p source al c
  simp only [Cell.reading, Prod.mk.injEq] at hreading
  exact hreading.2.2.2.2.2

theorem makeAlignment_shows (target : Option Nat) (al : Aligned) (h : s.showsBut E) : (makeAlignment target al s).showsBut E := by
  cases target with
  | none => exact h.mono (by simp [makeAlignment])
  | some i =>
    have hwritten : (s.setCell i { s.cell i with current := al.current, mark := some al.mark }).showsBut E := setCell_shows h rfl rfl
    exact setCell_shows (ite_shows (setCond_shows (occurrence_shows _ hwritten) rfl) hwritten) (takeReading_breach ..)
      (takeReading_fresh ..)

theorem submitAlign_shows (target : Option Nat) (u : Time) (h : s.showsBut E) : (submitAlign target u s).showsBut E := by
  unfold submitAlign
  split
  · exact makeAlignment_shows _ _ h
  · exact h.mono (by simp)

theorem reclassify_shows (l : List AlignItem) (h : s.showsBut E) : (reclassify l s).showsBut E := by
  induction l generalizing s with
  | nil => exact h
  | cons it rest ih =>
    unfold reclassify
    split
    · exact ih (makeAlignment_shows _ _ (h.mono (by simp)))
    · exact ih h

theorem classEntry_shows (e : RingEntry) (h : s.showsBut E) : (classEntry e s).showsBut E := ite_shows (h.mono (by simp)) h

theorem tickOverCurrent_shows (h : s.showsBut E) : (tickOverCurrent s).showsBut E := ite_shows (h.mono (by simp)) h

/-- A power-down ends the fault and the over-current, and clears their conditions (R45). -/
theorem anaPowerDown_shows (h : s.showsBut E) : (anaPowerDown s).showsBut E :=
  liveCond_shows (b := false) (liveCond_shows (b := false) (setAna_shows _ h) (.inl rfl))
    (.inl (cause_liveCond .analogFault .overCurrent false _))

theorem anaPowerUp_shows (h : s.showsBut E) : (anaPowerUp s).showsBut E := ite_shows (h.mono (by simp)) (h.mono (by simp))

/-! ## Contactor drivers (R91 to R108) -/

theorem handOn_shows {k : Nat} {left entered : KState} {tm : Times} {hardBreak : Bool} {instant : Time}
    (h : s.showsBut (.contactorFault :: E)) : (handOn k left entered tm hardBreak instant s).showsBut E :=
  judgeContactorFault_shows (offerRecord_shows _ _ h)

theorem enterOpenUntimed_shows (k : Nat) (h : s.showsBut E) : (enterOpenUntimed k s).showsBut E := handOn_shows (setChan_shows _ _ h)

theorem openCmd_shows (k : Nat) (h : s.showsBut E) : (openCmd k s).showsBut E := by
  unfold openCmd
  dsimp only
  split
  · rename_i hst
    have hsound : (s.chan k).st.faulted = false := by
      simp only [Bool.and_eq_true, Bool.or_eq_true, beq_iff_eq] at hst
      rcases hst.2 with e | e <;> rw [e] <;> rfl
    have hopening : ∀ c : Chan, c.st = .opening → (s.setChan k c).showsBut E := fun c hc =>
      setChan_shows_of_faulted h (by rw [hsound, hc]; rfl)
    have hcounted := fun c hc (b : Bool) => ite_shows (p := b = true) (occurrence_shows .hardBreak (hopening c hc)) (hopening c hc)
    exact ite_shows (enterOpenUntimed_shows k (hcounted _ rfl _)) (hcounted _ rfl _)
  · exact h

theorem closeCmd_shows (k : Nat) (h : s.showsBut E) : (closeCmd k s).showsBut E := by
  unfold closeCmd
  dsimp only
  split
  · rename_i hst
    simp only [Bool.and_eq_true, beq_iff_eq] at hst
    exact setChan_shows_of_faulted h (by rw [hst.2]; rfl)
  · exact h

theorem openEvery_shows (h : s.showsBut E) : (openEvery s).showsBut E :=
  openCmd_shows 3 (openCmd_shows 2 (openCmd_shows 1 (openCmd_shows 0 h)))

theorem enterFault_shows (k : Nat) (entered : KState) (hardBreak : Bool) (instant : Time) (h : s.showsBut E) :
    (enterFault k entered hardBreak instant s).showsBut E := handOn_shows (setChan_shows _ _ h)

theorem actOnFeedback_shows (k : Nat) (h : s.showsBut E) : (actOnFeedback k s).1.showsBut E := by
  unfold actOnFeedback
  dsimp only
  split
  · exact h
  · split
    · exact handOn_shows (occurrence_shows _ (setChan_shows _ _ h))
    · exact enterFault_shows _ _ _ _ h
    · exact handOn_shows (setChan_shows _ _ h)
    · split
      · exact h
      · exact enterFault_shows _ _ _ _ h
    · exact h

/-- The channels rewritten one by one by their numbers, their states kept. -/
theorem map_range_states {f : Nat → Chan → Chan} (hf : ∀ k c, (f k c).st = c.st) (s : State) :
    ((List.range s.kdr.chans.length).map fun k => f k (s.chan k)).map Chan.st = s.kdr.chans.map Chan.st :=
  List.ext_getElem (by simp) fun k hk _ => by
    have hk' : k < s.kdr.chans.length := by simpa using hk
    simp [hf, State.chan, hk']

theorem takePolarities_shows (p : Profile) (h : s.showsBut E) : (takePolarities p s).showsBut E :=
  setKdr_shows_of_states h (map_range_states (fun k c => by unfold rereadFeedback; split <;> rfl) s)

theorem loadSettling_shows (h : s.showsBut E) : (loadSettling s).showsBut E :=
  setKdr_shows_of_states h
    (map_range_states (f := fun k c => { c with settling := if s.inUse k then some (s.chanCfg k).breakMax else none }) (fun _ _ => rfl) s)

theorem switchWeld_shows (k : Nat) (h : s.showsBut E) : (switchWeld k s).showsBut E := ite_shows (enterFault_shows _ _ _ _ h) h

theorem switchWelds_shows (h : s.showsBut E) : (switchWelds s).showsBut E :=
  switchWeld_shows 3 (switchWeld_shows 2 (switchWeld_shows 1 (switchWeld_shows 0 h)))

theorem resumeSupervision_shows (h : s.showsBut E) : (resumeSupervision s).showsBut E := setKdr_shows_of_states h (by simp)

theorem suspendSupervision_shows (h : s.showsBut E) : (suspendSupervision s).showsBut E := setKdr_shows_of_states h rfl

/-- A channel's countdowns, its sample and its accepted change leave its state (R95). -/
@[simp] theorem Chan.countDown_st (c : Chan) : c.countDown.st = c.st := rfl

@[simp] theorem Chan.accept_st (c : Chan) : c.accept.st = c.st := rfl

@[simp] theorem Chan.sample_st (sample : Bool) (u : Time) (c : Chan) : (c.sample sample u).st = c.st := by
  unfold Chan.sample
  (repeat' split) <;> rfl

theorem countDown_shows (k : Nat) (h : s.showsBut E) : (s.setChan k (s.chan k).countDown).showsBut E :=
  setChan_shows_of_faulted h rfl

/-! ## Scheduler and chain master (R1 to R36) -/

@[simp] theorem arbiter_modules (s : State) : (arbiter s).chn.modules = s.chn.modules := by
  unfold arbiter grant
  (repeat' split) <;> rfl

@[simp] theorem chainPowerDown_modules (s : State) : (chainPowerDown s).chn.modules = s.chn.modules := by
  unfold chainPowerDown
  split <;> rfl

@[simp] theorem chainPowerUp_modules (s : State) : (chainPowerUp s).chn.modules = s.chn.modules := by
  unfold chainPowerUp
  split <;> rfl

theorem chainPowerDown_shows (h : s.showsBut E) : (chainPowerDown s).showsBut E := h.mono (by simp)

theorem chainPowerUp_shows (h : s.showsBut E) : (chainPowerUp s).showsBut E := h.mono (by simp)

theorem arbiter_shows (h : s.showsBut E) : (arbiter s).showsBut E := h.mono (by simp)

theorem grant_shows (source : SweepSource) (mask : ModMask) (h : s.showsBut E) : (grant source mask s).showsBut E :=
  h.mono (by simp [grant])

theorem startEnumeration_shows (h : s.showsBut E) : (startEnumeration s).showsBut E :=
  h.mono (by simp [startEnumeration, sendIdent])

theorem releaseSched_shows (run : Bool) (h : s.showsBut E) : (releaseSched run s).showsBut E :=
  arbiter_shows (ite_shows (h.mono (by simp)) (h.mono (by simp)))

theorem slotExpire_shows (i : Nat) (h : s.showsBut E) : (slotExpire i s).showsBut E :=
  ite_shows (h.mono (by simp))
    (ite_shows (h.mono (by simp)) (occurrence_shows _ (setCond_shows (h.mono (by simp)) rfl)))

theorem endMarking_shows (k : Nat) (h : s.showsBut E) : (endMarking k s).showsBut E := judgeModuleLost_shows (setChn_shows _ h)

theorem switchMarking_shows (h : s.showsBut (.moduleLost :: E)) : (switchMarking s).showsBut E :=
  judgeModuleLost_shows ((setChn_shows _ h).relist (by simp))

/-! ## Sequence runner (R113 to R131) -/

theorem withdrawEvent_shows (h : s.showsBut E) : (withdrawEvent s).showsBut E := h.mono (by simp)

theorem setRun_shows (r : Run) (h : s.showsBut E) : (s.setRun r).showsBut E := h.mono (by simp)

theorem awaiting_shows (a : Awaited) (h : s.showsBut E) : (awaiting a s).showsBut E := h.mono (by simp)

theorem loadTimer_shows (n : Nat) (h : s.showsBut E) : (loadTimer n s).showsBut E := h.mono (by simp)

theorem endSequence_shows (reason : SeqReason) (terms : List GateTerm) (h : s.showsBut E) : (endSequence reason terms s).showsBut E := by
  unfold endSequence
  split
  · exact h
  · have hopen := openEvery_shows h
    have hwithdrawn := fun b : Bool => ite_shows (p := b = true) (withdrawEvent_shows hopen) hopen
    exact setSeq_shows _ (setCond_shows (occurrence_shows _ (offerRecord_shows _ _ (hwithdrawn _))) rfl)

theorem completeSequence_shows (r : Run) (h : s.showsBut E) : (completeSequence r s).showsBut E :=
  setSeq_shows _ (setCond_shows (offerRecord_shows _ _ h) rfl)

theorem startClose_shows (k : Nat) (h : s.showsBut E) : (startClose k s).state.showsBut E := by
  unfold startClose
  dsimp only
  split
  · exact h
  · split
    · exact awaiting_shows _ (closeCmd_shows _ h)
    · exact h
    · exact awaiting_shows _ h
    · exact awaiting_shows _ h
    all_goals exact h

theorem startOpen_shows (k : Nat) (h : s.showsBut E) : (startOpen k s).state.showsBut E := by
  have hopened : (if ((openCmd k s).chan k).st = .opened then StepResult.completes false (openCmd k s)
      else .waits (awaiting (.contactor k) (openCmd k s))).state.showsBut E := by
    split
    · exact openCmd_shows k h
    · exact awaiting_shows _ (openCmd_shows k h)
  unfold startOpen
  split
  · exact hopened
  · exact hopened
  · exact awaiting_shows _ h
  all_goals exact h

/-- Of the steps that command no contactor the first effects are the run's and the scheduler's own. -/
theorem startStep_shows (st : SeqStep) (h : s.showsBut E) : (startStep st s).state.showsBut E := by
  unfold startStep
  split
  · exact startClose_shows _ h
  · exact startOpen_shows _ h
  · exact awaiting_shows _ (loadTimer_shows _ h)
  · exact h.mono (by simp)
  · exact h.mono (by simp)
  · exact h.mono (by simp)
  · exact h.mono (by simp)
  · split
    · exact completeSequence_shows _ h
    · exact h

theorem runSteps_shows (n idx : Nat) (h : s.showsBut E) : (runSteps n idx s).showsBut E := by
  induction n generalizing idx s with
  | zero => exact h
  | succ n ih =>
    unfold runSteps
    split
    · exact h
    · rename_i r _
      split
      · exact h
      · rename_i st _
        have hstep := startStep_shows st (h.mono (t := enterStep idx r s) (by simp))
        split <;> rename_i hres <;> rw [hres] at hstep
        · exact hstep
        · exact ih _ hstep
        · exact endSequence_shows _ _ hstep
        · exact hstep

theorem proceed_shows (idx : Nat) (h : s.showsBut E) : (proceed idx s).showsBut E := arbiter_shows (runSteps_shows _ _ h)

theorem settleStep_shows (idx : Nat) {x : StepResult} (h : x.state.showsBut E) : (settleStep idx x).showsBut E := by
  cases x with
  | waits s => exact h
  | completes skip s => exact proceed_shows _ h
  | fails reason terms s => exact endSequence_shows _ _ h
  | ends s => exact h

theorem runnerReport_shows (k : Nat) (entered : KState) (h : s.showsBut E) : (runnerReport k entered s).showsBut E := by
  unfold runnerReport
  split
  · exact h
  · refine ite_shows (endSequence_shows _ _ h) (ite_shows ?_ h)
    split
    · exact proceed_shows _ h
    · exact proceed_shows _ h
    · exact proceed_shows _ h
    · exact h

theorem runnerSwept_shows (requested received : ModMask) (h : s.showsBut E) : (runnerSwept requested received s).showsBut E := by
  unfold runnerSwept
  split
  · exact h
  · exact ite_shows (ite_shows (runSteps_shows _ _ (setRun_shows _ h)) (endSequence_shows _ _ (setRun_shows _ h))) h

theorem runnerArrival_shows (e : RingEntry) (h : s.showsBut E) : (runnerArrival e s).showsBut E := by
  have htest := fun holds => h.mono (t := (awaitTest holds e s).state) (by simp)
  unfold runnerArrival
  split
  · exact ite_shows (settleStep_shows _ (htest _)) h
  · exact ite_shows (settleStep_shows _ (htest _)) h
  · exact h

theorem runnerTimer_shows (h : s.showsBut E) : (runnerTimer s).showsBut E := by
  unfold runnerTimer
  split
  · exact proceed_shows _ h
  · exact endSequence_shows _ _ h
  · exact endSequence_shows _ _ h
  · exact h

theorem openForAll_shows (reason : SeqReason) (h : s.showsBut E) : (openForAll reason s).showsBut E :=
  ite_shows (endSequence_shows _ _ h) (openEvery_shows h)

theorem tellChannel_shows (k : Nat) (h : s.showsBut E) : (tellChannel k s).showsBut E := runnerReport_shows _ _ h

/-! ## Limit monitor (R72 to R81) -/

theorem applyTrip_shows (cause : TripCause) (action : Bool) (h : s.showsBut E) : (applyTrip cause action s).showsBut E :=
  ite_shows (setLim_shows _ (openForAll_shows .trip h)) h

@[simp] theorem moveBreach_fresh (p : Profile) (c : Cell) : (moveBreach p c).fresh = c.fresh := by
  unfold moveBreach towardOv towardUv towardExit
  (repeat' split) <;> rfl

/-- While the cells make their moves CELL_OV and CELL_UV lag behind (R77). -/
theorem moveCells_shows (l : List Nat) (h : s.showsBut (.cellOv :: .cellUv :: E)) :
    (moveCells l s).1.showsBut (.cellOv :: .cellUv :: E) := by
  induction l generalizing s with
  | nil => exact h
  | cons i rest ih =>
    exact ih ((setCells_shows_of_fresh h (map_set_getD (moveBreach_fresh _ (s.cell i)))).relist (by simp))

theorem limitEvaluate_shows (written : List Nat) (h : s.showsBut E) : (limitEvaluate written s).showsBut E := by
  have hjudged := judgeBreach_shows (occurrences_shows .cellBreachEnter (moveCells written s).2
    (moveCells_shows written ((h.lag .cellUv).lag .cellOv)))
  exact ite_shows (applyTrip_shows _ _ (ite_shows (applyTrip_shows _ _ hjudged) hjudged))
    (ite_shows (applyTrip_shows _ _ hjudged) hjudged)

/-! ## The profile switch (R184, R185) -/

/-- The transmit path captures the set of conditions and leaves it (R87, R196). -/
theorem linkPump_shows (h : s.showsBut E) : (linkPump s).showsBut E := h.mono (by simp)

theorem anaTake_shows (h : s.showsBut E) : (anaTake s).showsBut E := h.mono (by simp [anaTake])

theorem countersTake_shows (h : s.showsBut E) : (countersTake s).showsBut E := judgeOverflow_shows (setCtr_shows _ h)

theorem thresholdTake_shows (h : s.showsBut E) : (thresholdTake s).showsBut E := judgeThreshold_shows (setLog_shows _ h)

/-- The blocks that take the new population's cells and modules judge their conditions, and the bank's profile is one (R176, R185). -/
theorem applySwitch_shows (h : s.showsBut E) : (applySwitch s).showsBut E := by
  unfold applySwitch
  split
  · exact h
  · rename_i m _
    extract_lets p _ s1 s2 s3 s4 s5 _ s6 s7
    have h1 : s1.showsBut (.noProfile :: E) := setNvs_shows _ h
    have h2 : s2.showsBut (.cellOv :: .cellUv :: .cellStale :: .noProfile :: E) := takePolarities_shows p (setCells_shows _ h1)
    have h3 : s3.showsBut (.cellOv :: .cellUv :: .cellStale :: .noProfile :: E) :=
      switchMarking_shows ((setProf_shows p h2).relist (by simp +contextual))
    have h4 : s4.showsBut (.noProfile :: E) := judgeStale_shows (judgeBreach_shows (anaTake_shows h3))
    have h6 : s6.showsBut (.noProfile :: E) := setUpd_shows _ (thresholdTake_shows (countersTake_shows (switchWelds_shows h4)))
    have hbank : s6.nvs.active = some m.bank := by simp [s6, s5, s4, s3, s2, s1, anaTake]
    have h7 : s7.showsBut E := liveCond_shows (b := false) (offerRecord_shows _ _ h6) (.inl (by simp [State.cause, hbank]))
    exact replaceEnables_shows _ h7

theorem holdSched_shows (h : s.showsBut E) : (holdSched s).showsBut E := h.mono (by simp [holdSched])

theorem lookAgain_shows (h : s.showsBut E) : (lookAgain s).showsBut E :=
  ite_shows (releaseSched_shows _ (setUpd_shows _ (applySwitch_shows h))) (releaseSched_shows _ (setUpd_shows _ h))

theorem pursue_shows (h : s.showsBut E) : (pursue s).showsBut E := by
  have hheld : (if !s.upd.holding && s.quiet then holdSched s else s).showsBut E := ite_shows (holdSched_shows h) h
  exact ite_shows (ite_shows (lookAgain_shows hheld) hheld) h

/-! ## The power controller (R154 to R166) -/

theorem beginWaking_shows (w : WakeSet) (h : s.showsBut E) : (beginWaking w s).showsBut E := by
  have hresumed := resumeSupervision_shows (setPwr_shows { s.pwr with
    mode := .waking, lastWake := some w, pendHost := false, pendTamper := false, sleepTimer := none, wakeStage := 1 } h)
  exact setPwr_shows _ (anaPowerUp_shows (chainPowerUp_shows (setPli_shows _ hresumed)))

theorem forgetPast_shows (h : s.showsBut E) : (forgetPast s).showsBut E := mapCells_shows h (fun _ => rfl) fun _ => rfl

theorem restoreLevel_shows (h : s.showsBut E) : (restoreLevel s).showsBut E := by
  unfold restoreLevel
  dsimp only
  split
  · exact releaseSched_shows _ (replaceEnables_shows _ (setPwr_shows _ h))
  · exact releaseSched_shows _ (setPwr_shows _ h)

theorem announce_shows (h : s.showsBut E) : (announce s).showsBut E :=
  setPwr_shows _ (setCond_shows (ite_shows (setPwr_shows _ h) h) rfl)

theorem wakeProgress_shows (h : s.showsBut E) : (wakeProgress s).showsBut E := by
  have henum := ite_shows (p := s.pwr.wakeStage = 1 ∧ s.pwr.waitChain = false ∧ s.pwr.waitAna = false)
    (startEnumeration_shows (setPwr_shows { s.pwr with wakeStage := 2 } h)) h
  exact ite_shows (ite_shows (announce_shows (restoreLevel_shows (forgetPast_shows henum))) henum) h

theorem loadSleepTimer_shows (h : s.showsBut E) : (loadSleepTimer s).showsBut E := setPwr_shows _ h

theorem sleepDecision_shows (h : s.showsBut E) : (sleepDecision s).showsBut E :=
  ite_shows (beginWaking_shows _ h) (setPwr_shows _ (loadSleepTimer_shows (anaPowerDown_shows (chainPowerDown_shows h))))

theorem launchIfReady_shows (h : s.showsBut E) : (launchIfReady s).showsBut E :=
  ite_shows (ite_shows (sleepDecision_shows h) (grant_shows _ _ h)) h

theorem chainReport_shows (h : s.showsBut E) : (chainReport s).showsBut E := launchIfReady_shows (setPwr_shows _ h)

theorem anaReport_shows (h : s.showsBut E) : (anaReport s).showsBut E := launchIfReady_shows (setPwr_shows _ h)

theorem chainIdle_shows (h : s.showsBut E) : (chainIdle s).showsBut E :=
  ite_shows (h.mono (by simp)) (ite_shows (chainReport_shows (h.mono (by simp))) h)

theorem sleepExpire_shows (h : s.showsBut E) : (sleepExpire s).showsBut E :=
  setPwr_shows _ (anaPowerUp_shows (chainPowerUp_shows (setPwr_shows _ h)))

theorem tickSleep_shows (h : s.showsBut E) : (tickSleep s).showsBut E :=
  ite_shows (ite_shows (setPwr_shows _ h) (setPwr_shows _ h)) h

theorem hostArrive_shows (h : s.showsBut E) : (hostArrive s).showsBut E := by
  unfold hostArrive
  split
  · exact beginWaking_shows _ h
  · exact setPwr_shows _ h
  all_goals exact h

theorem tamperReport_shows (h : s.showsBut E) : (tamperReport s).showsBut E := by
  unfold tamperReport
  split
  · exact beginWaking_shows _ h
  · exact setPwr_shows _ h
  · exact setPwr_shows _ h
  all_goals exact h

theorem entryOne_shows (h : s.showsBut E) : (entryOne s).showsBut E := by
  have hstage : (setEntryStage 2 s).showsBut E := setPwr_shows _ h
  refine ite_shows (nvBegin_shows ?_) h
  cases hw : requestWear (setEntryStage 2 s) with
  | none => exact hstage
  | some t => exact requestWear_shows hstage hw

theorem askActivation_shows (h : s.showsBut E) : (askActivation s).showsBut E := by
  unfold askActivation
  split
  · refine ite_shows h ?_
    split
    · rename_i ho
      exact setUpd_shows _ (offerOp_shows h ho)
    · exact h
  · exact h

theorem entryTwo_shows (h : s.showsBut E) : (entryTwo s).showsBut E :=
  ite_shows (nvBegin_shows (askActivation_shows (setPwr_shows _ h))) h

theorem entryThree_shows (h : s.showsBut E) : (entryThree s).showsBut E := by
  refine ite_shows ?_ h
  split
  · exact h
  · exact h
  · exact setPwr_shows _ h
  · exact ite_shows (setPwr_shows _ (setPwr_shows _ (applySwitch_shows h))) (setPwr_shows _ h)

/-- The sleep references are no part of what the conditions are read from (R156). -/
theorem takeSleepRefs_shows (h : s.showsBut E) : (takeSleepRefs s).showsBut E := by
  refine setCells_shows_of_same h ?_ ?_
  all_goals
    simp only [List.map_append, List.map_map, Function.comp_def]
    rw [← List.map_append, List.take_append_drop]

theorem enterSleep_shows (h : s.showsBut E) : (enterSleep s).showsBut E := by
  have hdown := anaPowerDown_shows (chainPowerDown_shows (setPwr_shows { (takeSleepRefs s).pwr with
    level1 := some ((takeSleepRefs s).pwr.keptRun, (takeSleepRefs s).cnd.enables) } (takeSleepRefs_shows h)))
  have hasleep : ∀ x : State, x.showsBut E → (wakeIfPending x).showsBut E := fun x hx => ite_shows (beginWaking_shows _ hx) hx
  exact hasleep _ (setPli_shows _ (suspendSupervision_shows (setPwr_shows _ (loadSleepTimer_shows hdown))))

theorem entryFour_shows (h : s.showsBut E) : (entryFour s).showsBut E :=
  ite_shows (ite_shows (enterSleep_shows h) (setPwr_shows _ (releaseSched_shows _ h))) h

end

end Sys2Proof.Machine
end

section
/-! SUPPORT. The live conditions against their causes: tamper, start-up, what every event ends with, and the life of a sweep. -/
namespace Sys2Proof.Machine

section
variable {s t : State} {E F : List Cond}

/-! ## Tamper and the end of an update (R181, R186 to R188) -/

theorem updFail_shows (reason : UpdReason) (h : s.showsBut E) : (updFail reason s).showsBut E :=
  offerRecord_shows _ _ (setCond_shows (setUpd_shows _ h) rfl)

@[simp] theorem cancelClear_latch (s : State) : (cancelClear s).tmp.latch = s.tmp.latch := by
  unfold cancelClear
  dsimp only
  (repeat' split) <;> rfl

theorem cancelClear_shows (h : s.showsBut E) : (cancelClear s).showsBut E := by
  have hdropped := dropOps_shows (· == .anchorClear) h
  refine ite_shows ?_ h
  dsimp only
  split
  · exact ite_shows (hdropped.mono (by simp)) (hdropped.mono (by simp))
  · exact hdropped.mono (by simp)

theorem tamperUpdate_shows (h : s.showsBut E) : (tamperUpdate s).showsBut E := by
  unfold tamperUpdate
  split
  · exact h
  · exact updFail_shows _ h
  · exact updFail_shows _ h
  · exact ite_shows (updFail_shows _ (dropOps_shows _ h)) (setUpd_shows _ h)

theorem tamperMark_shows (h : s.showsBut E) : (tamperMark s).showsBut E := by
  unfold tamperMark
  split
  · exact offerSure_shows _ (setUpd_shows _ h)
  · exact h

theorem tamperActivation_shows (h : s.showsBut E) : (tamperActivation s).showsBut E :=
  ite_shows (setUpd_shows _ (dropOps_shows _ h)) h

/-- The latch is set first and the condition last: between the two TAMPER lags behind (R187). -/
theorem tamperEffects_shows (h : s.showsBut E) : (tamperEffects s).showsBut E := by
  unfold tamperEffects
  extract_lets _ s1 s2 s3
  have h2 : s2.showsBut (.tamper :: E) :=
    tamperActivation_shows (tamperMark_shows (tamperUpdate_shows (cancelClear_shows (offerSure_shows _ (setTmp_shows _ h)))))
  have hlatch : s3.tmp.latch = true := by simp [s3, s2, s1]
  exact tamperReport_shows (liveCond_shows (b := true) (offerRecord_shows _ _ h2) (.inl (congrArg some hlatch)))

theorem tamperAccept_shows (h : s.showsBut E) : (tamperAccept s).showsBut E := ite_shows (h.mono (by simp)) (tamperEffects_shows h)

/-! ## Start-up (R109, R153, R175, R176) -/

theorem readAnchors_shows (h : s.showsBut E) : (readAnchors s).showsBut E := by
  unfold readAnchors
  dsimp only
  split <;> exact h.mono (by simp)

@[simp] theorem readAnchors_sel (s : State) : (readAnchors s).nvs.sel = s.nvs.sel := by
  unfold readAnchors
  dsimp only
  split <;> rfl

/-- A wear page that reads gives the counts of four channels (R170). -/
theorem readWear_counts {p : NvPage} {w : Wear} (hw : readWear p = some w) : w.counts.length = 4 := by
  obtain ⟨bs, -, rfl⟩ := Option.map_eq_some_iff.1 hw
  simp

/-- The four channels take their counts and keep their states (R109). -/
theorem takeWear_shows (x : AB) {w : Wear} (h : s.showsBut E) (hw : w.counts.length = 4) : (takeWear x w s).showsBut E := by
  obtain ⟨hlen, -⟩ := id h
  refine setKdr_shows_of_states (h.mono (by simp)) (List.ext_getElem (by simp [hlen, hw]) fun k _ _ => ?_)
  simp [loadCounts]

theorem readWears_shows (h : s.showsBut E) : (readWears s).showsBut E := by
  refine setPwr_shows _ ?_
  split
  · rename_i ha
    exact takeWear_shows _ h (readWear_counts ha)
  · rename_i hb
    exact takeWear_shows _ h (readWear_counts hb)
  · exact h

@[simp] theorem readWears_sel (s : State) : (readWears s).nvs.sel = s.nvs.sel := by
  unfold readWears
  dsimp only
  split <;> rfl

theorem takeLatch_shows (h : s.showsBut E) : (takeLatch s).showsBut E := by
  have hjudged := judgeTamper_shows (setTmp_shows { s.tmp with latch := s.nvs.anchor.latched, count := s.nvs.anchor.count } h)
  exact ite_shows (tamperEffects_shows hjudged) hjudged

theorem selectionOps_shows (h : s.showsBut E) : (selectionOps s).showsBut E := by
  have hfirst : (if s.leftPending .a then offerSure (.invalidate .a) s else s).showsBut E := ite_shows (offerSure_shows _ h) h
  refine ite_shows (ite_shows (offerSure_shows _ hfirst) hfirst) ?_
  split
  · exact offerSure_shows _ h
  · exact h

/-- Before the selection has ended NO_PROFILE has no cause (R176). -/
theorem setSel_shows {x : Nvs} (h : s.showsBut E) (hsel : s.nvs.sel ≠ .ended) (hx : (x.sel == .ended && x.active.isNone) = false) :
    (s.setNvs x).showsBut E :=
  h.of_causes (fun _ => id) rfl rfl fun c _ => by
    cases c with
    | noProfile => simp [State.cause, hsel, hx]
    | _ => rfl

theorem startupRead_shows (h : s.showsBut E) (hsel : s.nvs.sel = .unread) : (startupRead s).showsBut E := by
  have hread : (classifyBanks (readWears (readAnchors s))).showsBut E :=
    (readWears_shows (readAnchors_shows h)).mono (by simp [classifyBanks])
  exact nvBegin_shows (selectionOps_shows (takeLatch_shows (setSel_shows hread (by simp [classifyBanks, hsel]) rfl)))

/-- Every block that takes the profile judges its conditions (R153). -/
theorem takeProfile_shows (p : Profile) (h : s.showsBut E) : (takeProfile p s).showsBut E := by
  have hprof := loadSettling_shows (anaTake_shows (setProf_shows p (takePolarities_shows p h)))
  have hbreach := judgeBreach_shows (E := .moduleLost :: .cellStale :: E) (hprof.relist (by simp +contextual))
  exact replaceEnables_shows _ (thresholdTake_shows (countersTake_shows (judgeStale_shows (judgeModuleLost_shows hbreach))))

/-- The selection ends with a bank's profile, or with the factory profile and NO_PROFILE (R176). -/
theorem selectionEnd_shows (h : s.showsBut E) (hsel : s.nvs.sel = .waiting) : (selectionEnd s).showsBut E := by
  unfold selectionEnd
  split
  · exact takeProfile_shows _ (setSel_shows h (by simp [hsel]) rfl)
  · exact liveCond_shows (b := true) (takeProfile_shows _ (setNvs_shows _ h)) (.inl (by simp [State.cause]))

theorem selectionProgress_shows (h : s.showsBut E) : (selectionProgress s).showsBut E := by
  have hread : (if s.nvs.sel = .unread then startupRead s else s).showsBut E := by
    split
    · rename_i hsel
      exact startupRead_shows h hsel
    · exact h
  unfold selectionProgress
  extract_lets s1
  split
  · rename_i hsel
    obtain ⟨hwaiting, -⟩ := hsel
    exact selectionEnd_shows hread hwaiting
  · exact hread

theorem startupProgress_shows (h : s.showsBut E) : (startupProgress s).showsBut E := by
  have henum : ∀ x : State, x.showsBut E → (enumerateProgress x).showsBut E := fun x hx => ite_shows (startEnumeration_shows hx) hx
  have hsettle : ∀ x : State, x.showsBut E → (settleProgress x).showsBut E := fun x hx => ite_shows (setPwr_shows _ hx) hx
  have hend : ∀ x : State, x.showsBut E → (startupEnd x).showsBut E := fun x hx => hx.mono (by simp)
  exact ite_shows (hend _ (hsettle _ (henum _ (selectionProgress_shows h)))) h

/-- What every event ends with keeps the conditions at their causes. -/
theorem finish_shows (h : s.showsBut E) : (finish s).showsBut E := by
  have hentry := entryThree_shows (entryTwo_shows (entryOne_shows (pursue_shows (nvBegin_shows h))))
  dsimp only [finish]
  exact linkPump_shows (entryFour_shows (linkPump_shows (wakeProgress_shows (startupProgress_shows hentry))))

/-! ## The life of a sweep (R10 to R13, R19 to R36) -/

@[simp] theorem writeCell_breach (code : Nat) (u : Time) (tag : Byte) (c : Cell) : (writeCell code u tag c).breach = c.breach := rfl

/-- While a module's cells are written CELL_STALE lags behind (R19, R79). -/
theorem writeChannels_shows (tag : Byte) (tb : Time) (k : Nat) (l : List Nat) (c : Nat) (h : s.showsBut (.cellStale :: E)) :
    (writeChannels tag tb k c l s).showsBut (.cellStale :: E) := by
  induction l generalizing c s with
  | nil => exact h
  | cons code rest ih =>
    exact ih _ ((setCells_shows_of_breach h (map_set_getD (writeCell_breach ..))).relist (by simp))

theorem submitCells_shows (l : List Nat) (h : s.showsBut E) : (submitCells l s).showsBut E := by
  induction l generalizing s with
  | nil => exact h
  | cons i rest ih =>
    unfold submitCells
    split
    · exact ih (submitAlign_shows _ _ h)
    · exact ih h

theorem freshnessTaken_shows (i : Nat) (h : s.showsBut E) : (freshnessTaken i s).showsBut E :=
  ite_shows (judgeStale_shows (setCells_shows_of_breach h (map_set_getD (d := cellReset) rfl))) h

theorem takeStale_shows (l : List Nat) (h : s.showsBut E) : (takeStale l s).showsBut E := by
  induction l generalizing s with
  | nil => exact h
  | cons i rest ih => exact ih (freshnessTaken_shows i h)

theorem takeCodes_shows (k : Nat) (codes : List Nat) (w : SweepRec) (h : s.showsBut E) : (takeCodes k codes w s).showsBut E := by
  have hwritten := writeChannels_shows w.tag (w.tb.getD (takeStale (moduleCells s.prof k) s).now) k
    (codes.take (cellsAt (takeStale (moduleCells s.prof k) s).prof k)) 0 ((takeStale_shows (moduleCells s.prof k) h).lag .cellStale)
  exact submitCells_shows _ (judgeStale_shows (setSch_shows _ hwritten))

theorem readEntry_shows (k : Nat) (o : MonitorReply) (h : s.showsBut E) : (readEntry k o s).showsBut E :=
  ite_shows (judgeModuleLost_shows (setChn_shows _ h))
    (judgeModuleLost_shows (setCond_shows (occurrence_shows _ (setChn_shows _ h)) rfl))

theorem tellRunner_shows (h : s.showsBut E) : (tellRunner s).showsBut E := by
  unfold tellRunner
  split
  · exact ite_shows (runnerSwept_shows _ _ h) h
  · exact h

theorem completeSweep_shows (w : SweepRec) (h : s.showsBut E) : (completeSweep w s).showsBut E := by
  have hend : ∀ x : State, x.showsBut E → (tellPower w (arbiter (tellRunner (chainIdle (sweepDone x))))).showsBut E := fun x hx => by
    have htold := arbiter_shows (tellRunner_shows (chainIdle_shows (hx.mono (t := sweepDone x) (by simp [sweepDone]))))
    exact ite_shows (sleepDecision_shows htold) htold
  have h1 := occurrence_shows .sweepDone (setSch_shows { s.sch with summary := some (formSummary w s) } h)
  have h2 := ite_shows (p := fullSweep s.prof w = true) (snapshotCheck_shows (occurrence_shows .fullSweepDone h1)) h1
  exact hend _ (ite_shows (setPwr_shows _ (occurrence_shows _ h2)) (limitEvaluate_shows _ h2))

theorem completeIfAligned_shows (h : s.showsBut E) : (completeIfAligned s).showsBut E := by
  unfold completeIfAligned
  split
  · exact ite_shows (completeSweep_shows _ h) h
  · exact h

theorem broadcastSent_shows (h : s.showsBut E) : (broadcastSent s).showsBut E := by
  unfold broadcastSent
  split
  · exact ite_shows (submitAlign_shows _ _ (h.mono (by simp))) h
  · exact h

theorem readFrom_shows (k : Nat) (h : s.showsBut E) : (readFrom k s).showsBut E := by
  unfold readFrom
  split
  · split
    · exact h.mono (by simp [sendRead])
    · exact completeIfAligned_shows (h.mono (by simp))
  · exact h

theorem readDone_shows (k : Nat) (o : MonitorReply) (h : s.showsBut E) : (readDone k o s).showsBut E := by
  have hentry := readEntry_shows k o h
  unfold readDone
  dsimp only
  split
  · exact readFrom_shows _ (ite_shows (takeCodes_shows _ _ _ hentry) hentry)
  · exact hentry

theorem enumerationEnds_shows (k : Nat) (h : s.showsBut E) : (enumerationEnds k s).showsBut E := by
  have hidle := (endMarking_shows k h).mono
    (t := (endMarking k s).setChn { (endMarking k s).chn with st := .idle, wait := .nothing }) (by simp)
  exact arbiter_shows (chainIdle_shows (ite_shows (setPwr_shows _ hidle) hidle))

/-- A failed IDENT changes the last outcome of its position and leaves its lost mark (R32). -/
theorem identDone_shows (k : Nat) (o : MonitorReply) (h : s.showsBut E) : (identDone k o s).showsBut E := by
  have hgood : (judgeModuleLost (s.setMod k (goodEntry o (s.modEntry k)))).showsBut E := judgeModuleLost_shows (setChn_shows _ h)
  have hlost : (s.setMod k { s.modEntry k with last := o.outcome }).someLost = s.someLost := by
    have hentry : ∀ i, ((s.setMod k { s.modEntry k with last := o.outcome }).modEntry i).lost = (s.modEntry i).lost := fun i => by
      rw [modEntry_setMod]
      split
      · rename_i hi
        rw [hi.1]
      · rfl
    simp only [State.someLost, hentry, setMod_frame]
  have hbad : (s.setMod k { s.modEntry k with last := o.outcome }).showsBut E :=
    h.of_causes (fun _ => id) rfl rfl fun c _ => by
      cases c with
      | moduleLost => exact congrArg some hlost
      | _ => rfl
  exact ite_shows (ite_shows (hgood.mono (by simp [sendIdent])) (enumerationEnds_shows _ hgood))
    (enumerationEnds_shows _ (ite_shows (setCond_shows hbad rfl) hbad))

theorem advanceTo_shows (u : Time) (h : s.showsBut E) : (advanceTo u s).showsBut E := h.mono (by simp)

theorem windowEnds_shows (h : s.showsBut E) : (windowEnds s).showsBut E := by
  unfold windowEnds
  split
  · exact readFrom_shows _ (advanceTo_shows _ h)
  all_goals exact h

theorem chainReply_shows (bs : List Byte) (h : s.showsBut E) : (chainReply bs s).showsBut E := by
  unfold chainReply
  split
  · exact ite_shows (readDone_shows _ _ h) h
  · exact ite_shows (identDone_shows _ _ h) h
  all_goals exact h

theorem replyWindowEnds_shows (h : s.showsBut E) : (replyWindowEnds s).showsBut E := by
  unfold replyWindowEnds
  split
  · exact readDone_shows _ _ (advanceTo_shows _ h)
  · exact identDone_shows _ _ (advanceTo_shows _ h)
  all_goals exact h

theorem chainUp_shows (h : s.showsBut E) : (chainUp s).showsBut E := by
  unfold chainUp
  split
  · exact chainIdle_shows (h.mono (by simp))
  · exact h

end

end Sys2Proof.Machine
end

section
/-! SUPPORT. The live conditions against their causes: requests, the pack link, what is due, the tick, the conversions, the NV engine's
steps, and so every command. -/
namespace Sys2Proof.Machine

section
variable {s t : State} {E F : List Cond}

/-! ## Requests (R89, R90, R111, R139, R140, R149, R195) -/

theorem answer_ite_shows {p : Prop} [Decidable p] {a b : Answer} (ha : a.1.showsBut E) (hb : b.1.showsBut E) :
    (if p then a else b).1.showsBut E := by
  split
  · exact ha
  · exact hb

/-- No condition with a cause is among those that CLEAR_CONDITIONS clears (R83, R89). -/
theorem clearable_of_cause {c : Cond} {b : Bool} (hb : s.cause c = some b) : clearable.getLsbD c.idx = false := by
  cases c with
  | cellOv | cellUv | cellStale | moduleLost | overCurrent | analogFault | contactorFault | logThreshold | tamper | noProfile
  | counterOverflow => rfl
  | _ => exact nomatch hb

theorem ownClearConditions_shows (set : BitVec 32) (h : s.showsBut E) : (ownClearConditions set s).1.showsBut E := by
  refine answer_ite_shows ?_ h
  obtain ⟨hlen, hc⟩ := h
  refine ⟨hlen, fun c hcE b hb => ?_⟩
  rw [← hc c hcE b hb]
  simp only [okWith, State.condSet, State.setCnd_cnd, BitVec.getLsbD_and, BitVec.getLsbD_not, clearable_of_cause hb]
  simp [c.idx_lt]

theorem ownSetAlertEnable_shows (set : BitVec 32) (h : s.showsBut E) : (ownSetAlertEnable set s).1.showsBut E :=
  answer_ite_shows (replaceEnables_shows _ h) h

theorem ownSaveWear_shows (h : s.showsBut E) : (ownSaveWear s).1.showsBut E := by
  unfold ownSaveWear
  split
  · rename_i hw
    exact requestWear_shows h hw
  · exact h

theorem ownClearContactorFault_shows (channel : Byte) (h : s.showsBut E) : (ownClearContactorFault channel s).1.showsBut E :=
  answer_ite_shows h (answer_ite_shows h (answer_ite_shows h (handOn_shows (setChan_shows _ _ h))))

theorem ownRunSequence_shows (id : Byte) (h : s.showsBut E) : (ownRunSequence id s).1.showsBut E :=
  answer_ite_shows h (answer_ite_shows h (answer_ite_shows h (answer_ite_shows h (proceed_shows _ (setRun_shows _ h)))))

theorem ownSetCounter_shows (number kind flags : Byte) (value reload : BitVec 24) (h : s.showsBut E) :
    (ownSetCounter number kind flags value reload s).1.showsBut E := by
  unfold ownSetCounter
  split
  · exact answer_ite_shows (setCtr_shows_of_overflow h rfl) h
  · exact h

theorem ownClearOverflow_shows (numbers : List Byte) (h : s.showsBut E) : (ownClearOverflow numbers s).1.showsBut E :=
  answer_ite_shows (judgeOverflow_shows (setCtr_shows _ h)) h

theorem ownLogRelease_shows (n : Byte) (h : s.showsBut E) : (ownLogRelease n s).1.showsBut E :=
  answer_ite_shows h (judgeThreshold_shows (setLog_shows _ h))

theorem ownResetReferences_shows (scope : Byte) (h : s.showsBut E) : (ownResetReferences scope s).1.showsBut E := by
  refine answer_ite_shows h (mapCells_shows h ?_ ?_)
  all_goals
    intro c
    unfold clearRefs
    split <;> rfl

theorem ownActivate_shows (h : s.showsBut E) : (ownActivate s).1.showsBut E := by
  refine answer_ite_shows h ?_
  split
  · exact h
  · refine answer_ite_shows h (answer_ite_shows h ?_)
    split
    · exact h
    · rename_i ho
      exact setUpd_shows _ (offerOp_shows h ho)

theorem ownTamperClear_shows (h : s.showsBut E) : (ownTamperClear s).1.showsBut E := by
  refine answer_ite_shows h (answer_ite_shows h (answer_ite_shows h ?_))
  split
  · exact h
  · rename_i ho
    exact (offerOp_shows h ho).mono (by simp)

/-- The owning blocks' rules keep the conditions at their causes; most change neither. -/
theorem own_shows (r : Request) (h : s.showsBut E) : (own r s).1.showsBut E := by
  cases r with
  | clearConditions set => exact ownClearConditions_shows set h
  | setAlertEnable set => exact ownSetAlertEnable_shows set h
  | saveWear => exact ownSaveWear_shows h
  | clearContactorFault channel => exact ownClearContactorFault_shows channel h
  | runSequence id => exact ownRunSequence_shows id h
  | openAll => exact openForAll_shows .aborted h
  | setCounter number kind flags value reload => exact ownSetCounter_shows number kind flags value reload h
  | clearOverflow numbers => exact ownClearOverflow_shows numbers h
  | logRelease n => exact ownLogRelease_shows n h
  | resetReferences scope => exact ownResetReferences_shows scope h
  | activate => exact ownActivate_shows h
  | tamperClear => exact ownTamperClear_shows h
  | scheduleStart => exact h.mono (t := (ownScheduleStart s).1) (by simp)
  | scheduleStop => exact h.mono (t := (ownScheduleStop s).1) (by simp)
  | sampleNow mask => exact answer_ite_shows h (answer_ite_shows h (answer_ite_shows h (arbiter_shows (setSch_shows _ h))))
  | chainEnumerate => exact answer_ite_shows (startEnumeration_shows h) h
  | sleep => exact h.mono (t := (ownSleep s).1) (by simp)
  | updateBegin version length imageTag => exact h.mono (t := (ownUpdateBegin version length imageTag s).1) (by simp)
  | updateChunk offset data => exact h.mono (t := (ownUpdateChunk offset data s).1) (by simp)
  | updateCommit => exact h.mono (t := (ownUpdateCommit s).1) (by simp)
  | updateAbort => exact h.mono (t := (ownUpdateAbort s).1) (by simp)
  | readCells | readResistance | logRead | resetPart =>
    simp only [own, ownReadCells, ownReadResistance, ownLogRead, ownResetPart]
    split <;> exact h
  | _ => exact h

theorem answer_shows (f : InFrame) (h : s.showsBut E) : (answer f s).1.showsBut E := by
  refine answer_ite_shows h (answer_ite_shows h ?_)
  split
  · exact h
  · exact own_shows _ h

/-! ## The pack link (R191 to R201) -/

theorem serve_shows (f : InFrame) (h : s.showsBut E) : (serve f s).showsBut E := setPli_shows _ (answer_shows f h)

theorem offerFrame_shows (f : InFrame) (h : s.showsBut E) : (offerFrame f s).showsBut E := by
  unfold offerFrame
  split
  · exact serve_shows f (setPli_shows _ h)
  · exact setPli_shows _ h
  · exact setCond_shows h rfl

theorem frameArrives_shows (f : InFrame) (h : s.showsBut E) : (frameArrives f s).showsBut E :=
  ite_shows (hostArrive_shows h) (offerFrame_shows f h)

theorem nextFrame_shows (h : s.showsBut E) : (nextFrame s).showsBut E := by
  unfold nextFrame
  split
  · exact serve_shows _ (setPli_shows _ h)
  · exact setPli_shows _ h

/-- After a reset no condition is set and no cause holds. -/
theorem resetPart_shows (s : State) : (resetPart s).showsBut E := by
  have hpop : (resetPart s).populated = [] := rfl
  refine ⟨rfl, fun c _ b hb => ?_⟩
  have hclear : (resetPart s).condSet c = false := BitVec.getLsbD_zero
  rw [hclear]
  cases c with
  | cellOv | cellUv =>
    rw [← Option.some.inj hb, State.countBreach, hpop]
    rfl
  | cellStale =>
    rw [← Option.some.inj hb, hpop]
    rfl
  | moduleLost | overCurrent | analogFault | contactorFault | logThreshold | tamper | noProfile | counterOverflow =>
    exact Option.some.inj hb
  | _ => exact nomatch hb

theorem transmitEnds_shows (h : s.showsBut E) : (transmitEnds s).showsBut E := by
  unfold transmitEnds
  split
  · exact h
  · split
    · exact ite_shows (resetPart_shows _) (nextFrame_shows (setPli_shows _ h))
    all_goals exact setPli_shows _ h

theorem setRx_shows (r : Rx) (h : s.showsBut E) : (setRx r s).showsBut E := setPli_shows _ h

theorem linkError_shows (h : s.showsBut E) : (linkError s).showsBut E := occurrence_shows _ (setCond_shows h rfl)

theorem frameJudged_shows (h : s.showsBut E) : (frameJudged s).showsBut E := by
  unfold frameJudged
  split
  · refine ite_shows ?_ h
    dsimp only
    split
    · exact offerFrame_shows _ (setRx_shows _ h)
    · exact linkError_shows (setRx_shows _ h)
  all_goals exact h

theorem idleWaitEnds_shows (h : s.showsBut E) : (idleWaitEnds s).showsBut E := by
  unfold idleWaitEnds
  split
  · exact setRx_shows _ (advanceTo_shows _ h)
  all_goals exact h

theorem gapEnds_shows (h : s.showsBut E) : (gapEnds s).showsBut E := by
  unfold gapEnds
  split
  · exact ite_shows h (linkError_shows (setRx_shows _ (advanceTo_shows _ h)))
  all_goals exact h

theorem rxCatchUp_shows (start : Time) (h : s.showsBut E) : (rxCatchUp start s).showsBut E := by
  unfold rxCatchUp
  split
  · exact h
  · exact h
  · exact ite_shows h (setRx_shows _ h)
  · exact ite_shows (frameJudged_shows h) (ite_shows h (linkError_shows (setRx_shows _ h)))

theorem takeByte_shows (b : Byte) (h : s.showsBut E) : (takeByte b s).showsBut E := by
  unfold takeByte
  dsimp only
  split
  · exact h
  · exact setRx_shows _ h
  · exact ite_shows (setRx_shows _ h) h
  · exact setRx_shows _ h

theorem byteArrives_shows (b : Byte) (h : s.showsBut E) : (byteArrives b s).showsBut E :=
  ite_shows (hostArrive_shows h) (takeByte_shows b (rxCatchUp_shows _ h))

/-! ## Expiries and acceptances (R5, R47, R61, R94 to R107, R119, R161, R186) -/

theorem slotTaken_shows (i : Nat) (h : s.showsBut E) : (slotTaken i s).showsBut E := ite_shows (slotExpire_shows i h) h

theorem referenceTaken_shows (i : Nat) (h : s.showsBut E) : (referenceTaken i s).showsBut E := ite_shows (setCell_shows h rfl rfl) h

/-- The condition takes the state of the check's own flag before the trip is applied (R47, R80). -/
theorem overCurrentTaken_shows (h : s.showsBut E) : (overCurrentTaken s).showsBut E := by
  have hset : (s.setAna { s.ana with overCurrent := !s.ana.overCurrent, run := 0 }).showsBut (.overCurrent :: E) :=
    h.of_causes (fun c hc => by simp [hc]) rfl rfl fun c hc => by
      cases c with
      | overCurrent => simp at hc
      | _ => rfl
  have hlive := liveCond_shows hset (.inl rfl)
  exact ite_shows (ite_shows (applyTrip_shows _ _ hlive) hlive) h

theorem feedbackTaken_shows (k : Nat) (h : s.showsBut E) : (feedbackTaken k s).showsBut E := by
  have hacted := actOnFeedback_shows k (setChan_shows_of_faulted h (c := (s.chan k).accept) rfl)
  exact ite_shows (countDown_shows k (ite_shows (tellChannel_shows k hacted) hacted)) h

theorem pullInTaken_shows (k : Nat) (h : s.showsBut E) : (pullInTaken k s).showsBut E := ite_shows (setChan_shows_of_faulted h rfl) h

theorem makeMaxTaken_shows (k : Nat) (h : s.showsBut E) : (makeMaxTaken k s).showsBut E :=
  ite_shows (tellChannel_shows k (enterFault_shows _ _ _ _ h)) h

theorem breakMaxTaken_shows (k : Nat) (h : s.showsBut E) : (breakMaxTaken k s).showsBut E :=
  ite_shows (tellChannel_shows k (enterFault_shows _ _ _ _ h)) h

theorem settlingTaken_shows (k : Nat) (h : s.showsBut E) : (settlingTaken k s).showsBut E := by
  have hsettled : (s.setChan k { s.chan k with settling := none }).showsBut E := setChan_shows_of_faulted h rfl
  exact ite_shows (ite_shows (tellChannel_shows k (enterFault_shows _ _ _ _ hsettled)) hsettled) h

theorem stepTimerTaken_shows (h : s.showsBut E) : (stepTimerTaken s).showsBut E := ite_shows (runnerTimer_shows h) h

theorem sleepTimerTaken_shows (h : s.showsBut E) : (sleepTimerTaken s).showsBut E := ite_shows (sleepExpire_shows h) h

theorem tamperTaken_shows (h : s.showsBut E) : (tamperTaken s).showsBut E := ite_shows (tamperAccept_shows (h.mono (by simp))) h

theorem tamperReleaseTaken_shows (h : s.showsBut E) : (tamperReleaseTaken s).showsBut E := ite_shows (h.mono (by simp)) h

theorem takeEvent_shows {f : State → State} (hf : ∀ {x : State}, x.showsBut E → (f x).showsBut E) (due : Bool) (h : s.showsBut E) :
    (takeEvent due f s).showsBut E := ite_shows (finish_shows (hf h)) h

theorem takeEach_shows {f : Nat → State → State} (hf : ∀ i {x : State}, x.showsBut E → (f i x).showsBut E) (l : List Nat)
    (h : s.showsBut E) : (takeEach f l s).showsBut E := by
  induction l generalizing s with
  | nil => exact h
  | cons i rest ih => exact ih (hf i h)

theorem dueWork_shows (h : s.showsBut E) : (dueWork s).showsBut E := by
  unfold dueWork
  extract_lets s0 s1 s2 s3 s4 s5 s6 s7 s8 s9 s10 s11 s12
  have h0 : s0.showsBut E := takeEvent_shows id _ h
  have h1 : s1.showsBut E := takeEach_shows (fun i _ => takeEvent_shows (slotTaken_shows i) _) _ h0
  have h2 : s2.showsBut E := takeEach_shows (fun i _ => takeEvent_shows (freshnessTaken_shows i) _) _ h1
  have h3 : s3.showsBut E := takeEach_shows (fun i _ => takeEvent_shows (referenceTaken_shows i) _) _ h2
  have h4 : s4.showsBut E := takeEvent_shows overCurrentTaken_shows _ h3
  have h5 : s5.showsBut E := takeEach_shows (fun k _ => takeEvent_shows (feedbackTaken_shows k) _) _ h4
  have h6 : s6.showsBut E := takeEach_shows (fun k _ => takeEvent_shows (pullInTaken_shows k) _) _ h5
  have h7 : s7.showsBut E := takeEach_shows (fun k _ => takeEvent_shows (makeMaxTaken_shows k) _) _ h6
  have h8 : s8.showsBut E := takeEach_shows (fun k _ => takeEvent_shows (breakMaxTaken_shows k) _) _ h7
  have h9 : s9.showsBut E := takeEach_shows (fun k _ => takeEvent_shows (settlingTaken_shows k) _) _ h8
  have h10 : s10.showsBut E := takeEvent_shows stepTimerTaken_shows _ h9
  have h11 : s11.showsBut E := takeEvent_shows sleepTimerTaken_shows _ h10
  have h12 : s12.showsBut E := takeEvent_shows (fun hx => ite_shows (tamperReleaseTaken_shows hx) (tamperTaken_shows hx)) _ h11
  exact takeEvent_shows frameJudged_shows _ h12

/-! ## The tick (R40) -/

theorem tickRunner_shows (h : s.showsBut E) : (tickRunner s).showsBut E := h.mono (by simp)

theorem tickChan_shows (k : Nat) (h : s.showsBut E) : (tickChan k s).showsBut E := by
  unfold tickChan
  extract_lets c c1 s1 s2
  have h1 : s1.showsBut E := setChan_shows_of_faulted h (congrArg KState.faulted (Chan.sample_st ..))
  have h2 : s2.showsBut E := ite_shows (tellChannel_shows k (enterOpenUntimed_shows k h1)) h1
  exact ite_shows h2 (countDown_shows k h2)

theorem tickDrivers_shows (h : s.showsBut E) : (tickDrivers s).showsBut E :=
  ite_shows h (tickChan_shows 3 (tickChan_shows 2 (tickChan_shows 1 (tickChan_shows 0 h))))

theorem tickTamper_shows (h : s.showsBut E) : (tickTamper s).showsBut E :=
  ite_shows (h.mono (by simp)) (ite_shows (h.mono (by simp)) (h.mono (by simp)))

/-- A tick ages the cells; their breach states and fresh flags wait for the events that it finds (R20, log 2). -/
theorem tickWork_shows (feedback : BitVec 4) (tamper : Bool) (h : s.showsBut E) : (tickWork feedback tamper s).showsBut E := by
  have htime : ∀ x : State, x.showsBut E → (tickTime x).showsBut E := fun x hx => setTim_shows _ hx
  have hdrivers := tickDrivers_shows (tickRunner_shows (htime _ (setPins_shows { feedback := feedback, tamper := tamper } h)))
  have hslots : ∀ x : State, x.showsBut E → (tickSlots x).showsBut E := fun x hx => hx.mono (by simp)
  exact tickSleep_shows (tickTamper_shows (tickOverCurrent_shows (hslots _ (mapCells_shows hdrivers (fun _ => rfl) fun _ => rfl))))

/-! ## Conversions (R42 to R47, R53) -/

/-- The second lost conversion in a row is the fault, and its condition is set with it (R44). -/
theorem loseConversion_shows (h : s.showsBut E) : (loseConversion s).showsBut E := by
  have hfault : (setCond .analogFault (s.setAna { s.ana with lost := min 2 (s.ana.lost + 1), fault := true })).showsBut E := by
    refine liveCond_shows (b := true) (h.of_causes (fun c hc => by simp [hc]) rfl rfl fun c hc => ?_) (.inl rfl)
    cases c with
    | analogFault => simp at hc
    | _ => rfl
  exact ite_shows (ite_shows (anaReport_shows (hfault.mono (by simp))) hfault) (h.mono (by simp))

theorem sampleInstant_shows (h : s.showsBut E) : (sampleInstant s).showsBut E :=
  ite_shows (ite_shows (loseConversion_shows (h.mono (by simp))) (h.mono (by simp))) h

/-- A delivered conversion ends a fault, and its condition is cleared with it (R44). -/
theorem appendEntry_shows (e : RingEntry) (h : s.showsBut E) : (appendEntry e s).showsBut E := by
  have hended : (clearCond .analogFault (s.setAna { s.ana with fault := false, ring := [] })).showsBut E := by
    refine liveCond_shows (b := false) (h.of_causes (fun c hc => by simp [hc]) rfl rfl fun c hc => ?_) (.inl rfl)
    cases c with
    | analogFault => simp at hc
    | _ => rfl
  exact (ite_shows (p := s.ana.fault = true) hended h).mono (by simp [appendEntry])

theorem dueAtDelivery_shows (h : s.showsBut E) : (dueAtDelivery s).showsBut E :=
  takeEvent_shows stepTimerTaken_shows _ (takeEvent_shows overCurrentTaken_shows _ h)

theorem countReady_shows (h : s.showsBut E) : (countReady s).showsBut E := by
  unfold countReady
  split
  · exact h
  · exact h.mono (by simp)

theorem arrival_shows (e : RingEntry) (h : s.showsBut E) : (arrival e s).showsBut E := by
  unfold arrival
  extract_lets s1 s2 s3
  have h1 : s1.showsBut E := countReady_shows (classEntry_shows e h)
  have h2 : s2.showsBut E := completeIfAligned_shows (reclassify_shows _ h1)
  have h3 : s3.showsBut E := ite_shows (runnerArrival_shows e h2) h2
  exact ite_shows (anaReport_shows (h3.mono (by simp))) h3

theorem deliver_shows (u : Time) (current : Int) (pack link : Nat) (h : s.showsBut E) : (deliver u current pack link s).showsBut E :=
  ite_shows (arrival_shows _ (appendEntry_shows _ (dueAtDelivery_shows h))) (dueAtDelivery_shows h)

theorem deadlineTaken_shows (target : Option Nat) (h : s.showsBut E) : (deadlineTaken target s).showsBut E := by
  unfold deadlineTaken
  split
  · exact completeIfAligned_shows (makeAlignment_shows _ _ (setAln_shows _ (advanceTo_shows _ h)))
  · exact h

/-! ## The NV engine's steps and the verification (R172, R173, R180, R181, R188) -/

theorem anchorDone_shows (st : NvStep) (h : s.showsBut E) : (anchorDone st s).showsBut E := by
  unfold anchorDone
  split
  · exact anchorInForce_shows _ _ h
  all_goals exact h

theorem clearDone_shows (void : Bool) (h : s.showsBut E) : (clearDone void s).showsBut E :=
  ite_shows (ite_shows (h.mono (by simp)) h) (judgeTamper_shows (setTmp_shows _ h))

theorem operationEnds_shows (f : NvFlight) (h : s.showsBut E) : (operationEnds f s).showsBut E := by
  unfold operationEnds
  have hanchor := anchorDone_shows f.step h
  split
  · rename_i x _ _
    have hstatus := setBankStatus_shows x .valid h
    exact ite_shows (updFail_shows _ (offerSure_shows _ hstatus)) (offerRecord_shows _ _ (setCond_shows (setUpd_shows _ hstatus) rfl))
  · exact hanchor
  · exact hanchor
  · exact setUpd_shows _ hanchor
  · exact clearDone_shows _ hanchor
  · unfold wearDone
    split
    · exact h.mono (by simp)
    all_goals exact h
  · exact setBankStatus_shows _ _ h

theorem nvStepTaken_shows (h : s.showsBut E) : (nvStepTaken s).showsBut E := by
  unfold nvStepTaken
  split
  · exact h
  · dsimp only
    split
    · exact ite_shows (updFail_shows _ (h.mono (by simp))) (h.mono (by simp))
    · exact operationEnds_shows _ (h.mono (by simp))

theorem verified_shows (h : s.showsBut E) : (verified s).showsBut E := by
  unfold verified
  refine ite_shows (ite_shows (updFail_shows _ h) (ite_shows (updFail_shows _ h) ?_)) h
  dsimp only
  split
  · rename_i ho
    exact setUpd_shows _ (offerOp_shows h ho)
  · exact updFail_shows _ h

theorem wakePulseEnds_shows (h : s.showsBut E) : (wakePulseEnds s).showsBut E := h.mono (by simp)

/-! ## The commands -/

/-- An event whose own effects keep the conditions at their causes keeps them there, since its end does. -/
theorem shows_of_finish {x : State} (h : x.showsBut E) (hx : Host.Outcome.next (finish x) = (.next t : Host.Outcome State Fault Refusal)) :
    t.showsBut E := Host.Outcome.next.inj hx ▸ finish_shows h

/-- Each command's meaning keeps the conditions at their causes: an event's by its own effects, a request's as the arrival of its
frame. -/
theorem exec_shows {c : Instr} (h : s.showsBut E) (ht : exec c s = .next t) : t.showsBut E := by
  cases c with
  | powerOnReset => exact shows_of_finish (resetPart_shows s) ht
  | tick feedback tamper => exact shows_of_finish (tickWork_shows feedback tamper (dueWork_shows h)) ht
  | slotExpiry slot => exact shows_of_finish (slotTaken_shows slot h) ht
  | freshnessExpiry cell => exact shows_of_finish (freshnessTaken_shows cell h) ht
  | referenceExpiry cell => exact shows_of_finish (referenceTaken_shows cell h) ht
  | samplingInstant => exact shows_of_finish (sampleInstant_shows h) ht
  | conversionDelivered instant current pack link => exact shows_of_finish (deliver_shows instant current pack link h) ht
  | overCurrentRunComplete => exact shows_of_finish (overCurrentTaken_shows h) ht
  | alignDeadline target => exact shows_of_finish (deadlineTaken_shows target h) ht
  | sampleBroadcastSent => exact shows_of_finish (broadcastSent_shows h) ht
  | conversionWindowEnd => exact shows_of_finish (windowEnds_shows h) ht
  | chainReplyComplete bytes => exact shows_of_finish (chainReply_shows bytes h) ht
  | replyWindowEnd => exact shows_of_finish (replyWindowEnds_shows h) ht
  | chainPowerUpDone => exact shows_of_finish (chainUp_shows h) ht
  | feedbackAccepted channel => exact shows_of_finish (feedbackTaken_shows channel h) ht
  | pullInEnd channel => exact shows_of_finish (pullInTaken_shows channel h) ht
  | makeMaxExpiry channel => exact shows_of_finish (makeMaxTaken_shows channel h) ht
  | breakMaxExpiry channel => exact shows_of_finish (breakMaxTaken_shows channel h) ht
  | settlingEnd channel => exact shows_of_finish (settlingTaken_shows channel h) ht
  | stepTimerExpiry => exact shows_of_finish (stepTimerTaken_shows h) ht
  | sleepTimerExpiry => exact shows_of_finish (sleepTimerTaken_shows h) ht
  | hostArrival => exact shows_of_finish (hostArrive_shows h) ht
  | wakePulseEnd => exact shows_of_finish (wakePulseEnds_shows h) ht
  | nvStepComplete => exact shows_of_finish (nvStepTaken_shows h) ht
  | verificationComplete => exact shows_of_finish (verified_shows h) ht
  | tamperAccepted => exact shows_of_finish (tamperTaken_shows h) ht
  | tamperReleaseAccepted => exact shows_of_finish (tamperReleaseTaken_shows h) ht
  | receiverIdleWaitEnd => exact shows_of_finish (idleWaitEnds_shows h) ht
  | frameGapTimeout => exact shows_of_finish (gapEnds_shows h) ht
  | frameComplete => exact shows_of_finish (frameJudged_shows h) ht
  | unknownRequest type tag payload => exact shows_of_finish (frameArrives_shows _ h) ht
  | transmitFrameEnd => exact shows_of_finish (transmitEnds_shows h) ht
  | linkByteReceived byte => exact shows_of_finish (byteArrives_shows byte h) ht
  | _ => exact shows_of_finish (frameArrives_shows _ h) ht

end

/-- Settles O7: a command from the queue keeps the conditions at their causes by `exec_shows`, the idle step by what is due and the
passing of time, which no cause is read from. -/
theorem conditionsKeepShowingTheirCauses : Obligations.ConditionsKeepShowingTheirCauses := by
  intro s t h hstep
  rw [← showsBut_nil_iff] at h ⊢
  unfold step at hstep
  split at hstep
  · rw [← Host.Outcome.next.inj hstep]
    exact (dueWork_shows h).mono (t := passTime (dueWork s)) (by simp)
  · exact exec_shows (setPending_shows _ h) hstep

end Sys2Proof.Machine
end

section
/-! SUPPORT. The transmit path: what the end of a frame serves next (R194, R196), which frame a free path begins (R87, R166, R197), and the
bytes of a frame that leaves (R191, R198, R202). -/
namespace Sys2Proof.Machine

/-! ## The end of a frame (R194, R196, R201) -/

section
variable {s : State} {type tag : Byte} {r : Reply}

theorem exec_transmitFrameEnd (s : State) : exec .transmitFrameEnd s = .next (finish (transmitEnds s)) := rfl

theorem transmitEnds_of_conditions {n : Byte} {a b : CondMask} (h : s.pli.sending = some (.conditions n a b)) :
    transmitEnds s = s.setPli { s.pli with sending := none } := by
  simp only [transmitEnds, h]

theorem transmitEnds_of_woke {n : Byte} {w : Option WakeSet} (h : s.pli.sending = some (.woke n w)) :
    transmitEnds s = s.setPli { s.pli with sending := none } := by
  simp only [transmitEnds, h]

/-- After a reply other than OK to RESET_PART the next frame is served. -/
theorem transmitEnds_of_reply (h : s.pli.sending = some (.reply type tag r)) (hr : type ≠ 0x23 ∨ r.status ≠ .ok) :
    transmitEnds s = nextFrame (s.setPli { s.pli with sending := none }) := by
  have hreset : (OutFrame.reply type tag r).isReset = false := by
    simpa [OutFrame.isReset, imp_iff_not_or] using hr
  simp [transmitEnds, h, hreset]

theorem nextFrame_of_none_waiting (h : s.pli.holding.length ≤ 1) : nextFrame s = s.setPli { s.pli with holding := [] } := by
  unfold nextFrame
  split
  · rename_i hhold
    rw [hhold] at h
    simp at h
  · rfl

theorem nextFrame_of_waiting {f g : InFrame} (h : s.pli.holding = [f, g]) :
    nextFrame s = serve g (s.setPli { s.pli with holding := [g] }) := by
  simp only [nextFrame, h]

end

/-! ## What a free path begins (R87, R166, R196, R197) -/

section
variable {s : State}

theorem noticesOffered_iff (m : Mode) : m.noticesOffered = true ↔ ¬ (m = .sleep ∨ m = .sleepSweep) := by
  cases m <;> simp [Mode.noticesOffered]

theorem wokeOffered_iff {m : Mode} (h : ¬ (m = .sleep ∨ m = .sleepSweep)) : m.wokeOffered = true ↔ m ≠ .startup := by
  cases m <;> simp_all [Mode.wokeOffered]

theorem linkPump_of_taken (h : s.pli.sending.isSome = true ∨ s.pwr.mode = .sleep ∨ s.pwr.mode = .sleepSweep) : linkPump s = s := by
  refine if_pos ?_
  rcases h with h | h
  · simp [h]
  · have hoff : s.pwr.mode.noticesOffered = false := by rw [Bool.eq_false_iff, ne_eq, noticesOffered_iff, not_not]; exact h
    simp [hoff]

end

section
variable {s : State} (hs : s.pli.sending = none) (hm : ¬ (s.pwr.mode = .sleep ∨ s.pwr.mode = .sleepSweep))
include hs hm

theorem linkPump_of_reply {f : OutFrame} (hf : s.pli.reply = some f) :
    linkPump s = s.setPli { s.pli with reply := none, sending := some f } := by
  simp [linkPump, hs, (noticesOffered_iff _).2 hm, hf]

theorem linkPump_of_woke (hf : s.pli.reply = none) (hw : s.pwr.wokeFlag = true ∧ s.pwr.mode ≠ .startup) :
    linkPump s = beginWoke s := by
  simp [linkPump, hs, (noticesOffered_iff _).2 hm, hf, wokeOffered_iff hm, hw]

theorem linkPump_of_conditions (hf : s.pli.reply = none) (hw : ¬ (s.pwr.wokeFlag = true ∧ s.pwr.mode ≠ .startup))
    (hn : s.cnd.noticePending = true) : linkPump s = beginConditions s := by
  simp only [linkPump, hs, (noticesOffered_iff _).2 hm, hf, Bool.and_eq_true, wokeOffered_iff hm, if_neg hw, if_pos hn]
  simp

theorem linkPump_of_no_claimant (hf : s.pli.reply = none) (hw : ¬ (s.pwr.wokeFlag = true ∧ s.pwr.mode ≠ .startup))
    (hn : s.cnd.noticePending = false) : linkPump s = s := by
  simp only [linkPump, hs, (noticesOffered_iff _).2 hm, hf, Bool.and_eq_true, wokeOffered_iff hm, if_neg hw, hn]
  simp

end

/-! ## The bytes of a frame (R191, R202) -/

theorem Status.code_eq_idxOf (x : Status) :
    x.code = BitVec.ofNat 8 ([Status.ok, .accepted, .busy, .live, .notReady, .badArgument, .unknownRequest, .tampered, .rollback,
      .badLength, .outOfOrder, .updateOpen, .noPending].idxOf x) := by cases x <;> rfl

/-- Sync value, type, tag, length, payload and the check of what stands between. -/
theorem frameBytes_eq (type tag : Byte) (payload : List Byte) :
    frameBytes type tag payload =
      [0xA5] ++ ([type, tag] ++ ((List.range 1).map fun j => BitVec.ofNat 8 (payload.length / 256 ^ j)) ++ payload)
        ++ (List.range 2).map fun j => BitVec.ofNat 8 ((crc16 ([type, tag]
          ++ ((List.range 1).map fun j => BitVec.ofNat 8 (payload.length / 256 ^ j)) ++ payload)).toNat / 256 ^ j) := by
  simp only [leBytes_one, frameBytes, le16, leBytes_eq_map 2]
  rfl

/-- The four bytes of a set of conditions. -/
theorem le32_condMask (m : CondMask) : le32 (m.setWidth 32) = (List.range 4).map fun j => BitVec.ofNat 8 (m.toNat / 256 ^ j) := by
  rw [le32, leBytes_eq_map, BitVec.toNat_setWidth_of_le (by decide)]

/-- A reply's payload is its status byte and its fields. -/
theorem replyPayload_eq (x : Status) (fields : List Byte) :
    x.code :: fields = ((List.range 1).map fun j => BitVec.ofNat 8 (([Status.ok, .accepted, .busy, .live, .notReady, .badArgument,
      .unknownRequest, .tampered, .rollback, .badLength, .outOfOrder, .updateOpen, .noPending].idxOf x) / 256 ^ j)) ++ fields := by
  rw [leBytes_one, ← Status.code_eq_idxOf]
  rfl

/-- A wake-cause set without a breach: its cause byte and a breach byte of zero. -/
theorem wakeBytes_of_no_breach (host tamper : Bool) :
    wakeBytes (some { host := host, tamper := tamper, breach := none }) =
      ((List.range 1).map fun j => BitVec.ofNat 8 (((if host then 1 else 0) + (if tamper then 2 else 0) + 0) / 256 ^ j)) ++ [0] := by
  rw [leBytes_one, wakeBytes, flagByte_three, Option.getD_none, flagByte_four]
  rfl

/-- A wake-cause set with a breach: its cause byte and the byte of its breach kinds. -/
theorem wakeBytes_of_breach (host tamper : Bool) (b : Breaches) :
    wakeBytes (some { host := host, tamper := tamper, breach := some b }) =
      ((List.range 1).map fun j => BitVec.ofNat 8 (((if host then 1 else 0) + (if tamper then 2 else 0) + 4) / 256 ^ j))
        ++ (List.range 1).map fun j => BitVec.ofNat 8 (((if b.ov then 1 else 0) + (if b.uv then 2 else 0)
          + (if b.selfDischarge then 4 else 0) + (if b.chain then 8 else 0)) / 256 ^ j) := by
  rw [leBytes_one, leBytes_one, wakeBytes, flagByte_three, Option.getD_some, flagByte_four]
  rfl

/-- Settles O57: the end of a frame by its kind, the free path by its claimants, the bytes by the frame's layout. -/
theorem transmitEndServesTheNextFrame : Obligations.TransmitEndServesTheNextFrame := by
  refine ⟨fun s n a b h => ?_, fun s n w h => ?_, fun s type tag r h hr => ⟨fun hlen => ?_, fun f g hhold => ?_⟩, fun s => ?_,
    fun n type tag set enables causes r => ⟨?_, ?_, ?_⟩⟩
  · rw [exec_transmitFrameEnd, transmitEnds_of_conditions h]
  · rw [exec_transmitFrameEnd, transmitEnds_of_woke h]
  · rw [exec_transmitFrameEnd, transmitEnds_of_reply h hr, nextFrame_of_none_waiting (by simpa using hlen)]
    rfl
  · rw [exec_transmitFrameEnd, transmitEnds_of_reply h hr, nextFrame_of_waiting (by simpa using hhold)]
    rfl
  · exact ⟨linkPump_of_taken, fun hs hm => ⟨fun _ hf => linkPump_of_reply hs hm hf, fun hf hw => linkPump_of_woke hs hm hf hw,
      fun hf hw hn => linkPump_of_conditions hs hm hf hw hn, fun hf hw hn => linkPump_of_no_claimant hs hm hf hw hn⟩⟩
  · simp only [OutFrame.bytes, frameBytes_eq, le32_condMask]
  · rw [OutFrame.bytes]
    match causes with
    | none => exact frameBytes_eq ..
    | some ⟨host, tamper, none⟩ =>
      rw [wakeBytes_of_no_breach]
      exact frameBytes_eq ..
    | some ⟨host, tamper, some b⟩ =>
      rw [wakeBytes_of_breach]
      exact frameBytes_eq ..
  · rw [OutFrame.bytes, replyPayload_eq]
    exact frameBytes_eq ..

end Sys2Proof.Machine
end

section
/-! SUPPORT. The limit monitor: a cell's move on its reading (R74 to R76), the evaluation of a sweep's cells (R77, R78), and the trip action
(R80, R130). -/
namespace Sys2Proof.Machine

/-! ## A cell's move (R74 to R76) -/

section
variable {p : Profile} {c : Cell} {v : Nat}

theorem readingClass_eq (hv : c.code = some v) :
    readingClass p c = if c.range = .outOfRange ∨ p.ovLimit < v then .high else if v < p.uvLimit then .low else .inside := by
  rw [readingClass, hv]
  rfl

/-- Out of breach a high reading counts toward OV, from 1 unless a run toward OV goes on (R75). -/
theorem moveBreach_of_high (hc : readingClass p c = .high) (hov : c.breach ≠ .ov) (huv : c.breach ≠ .uv) :
    moveBreach p c = towardOv p (if c.breach = .ovPending then c.breachCount + 1 else 1) c := by
  unfold moveBreach
  rw [hc]
  cases hb : c.breach with
  | ov => exact absurd hb hov
  | uv => exact absurd hb huv
  | normal | ovPending | uvPending => rfl

/-- Out of breach a low reading counts toward UV, from 1 unless a run toward UV goes on (R75). -/
theorem moveBreach_of_low (hc : readingClass p c = .low) (hov : c.breach ≠ .ov) (huv : c.breach ≠ .uv) :
    moveBreach p c = towardUv p (if c.breach = .uvPending then c.breachCount + 1 else 1) c := by
  unfold moveBreach
  rw [hc]
  cases hb : c.breach with
  | ov => exact absurd hb hov
  | uv => exact absurd hb huv
  | normal | ovPending | uvPending => rfl

/-- Out of breach a reading inside returns the cell to NORMAL (R75). -/
theorem moveBreach_of_inside (hc : readingClass p c = .inside) (hov : c.breach ≠ .ov) (huv : c.breach ≠ .uv) :
    moveBreach p c = { c with breach := .normal, breachCount := 0 } := by
  unfold moveBreach
  rw [hc]
  cases hb : c.breach with
  | ov => exact absurd hb hov
  | uv => exact absurd hb huv
  | normal | ovPending | uvPending => rfl

theorem moveBreach_of_ov (hb : c.breach = .ov) : moveBreach p c = towardExit p (inOvExit p c) c := by
  rw [moveBreach, hb]

theorem moveBreach_of_uv (hb : c.breach = .uv) : moveBreach p c = towardExit p (inUvExit p c) c := by
  rw [moveBreach, hb]

end

/-! ## The evaluation of a sweep (R77, R78) -/

/-- Each cell of a list has made its move, and no other. -/
def movedCells (l : List Nat) (s : State) : State :=
  s.setCells ((List.range s.cells.length).map fun i => if i ∈ l then moveBreach s.prof (s.cell i) else s.cell i)

/-- A cell's move in a state is a breach entry. -/
def State.entering (s : State) (i : Nat) : Bool := entersBreach (s.cell i) (moveBreach s.prof (s.cell i))

theorem cell_setCell_of_ne {s : State} {i j : Nat} (h : j ≠ i) (c : Cell) : (s.setCell i c).cell j = s.cell j := by
  simp [cell_setCell, h]

theorem movedCells_cons {i : Nat} {l : List Nat} (hi : i ∉ l) (s : State) :
    movedCells l (s.setCell i (moveBreach s.prof (s.cell i))) = movedCells (i :: l) s := by
  have hcells : ∀ j, j < s.cells.length →
      (if j ∈ l then moveBreach s.prof ((s.setCell i (moveBreach s.prof (s.cell i))).cell j)
        else (s.setCell i (moveBreach s.prof (s.cell i))).cell j)
      = if j ∈ i :: l then moveBreach s.prof (s.cell j) else s.cell j := fun j hj => by
    by_cases hji : j = i
    · subst hji
      simp [cell_setCell, hi, hj]
    · simp [cell_setCell_of_ne hji, hji]
  have hlist := List.map_congr_left (l := List.range s.cells.length) fun j hj => hcells j (List.mem_range.1 hj)
  unfold movedCells
  rw [setCell_length, (setCell_frame s i _).2.2.2.2.2.2.2.2.2.2.2.2.2.1, hlist]
  rfl

theorem entering_setCell_of_ne {s : State} {i j : Nat} (h : j ≠ i) (c : Cell) : (s.setCell i c).entering j = s.entering j := by
  simp [State.entering, cell_setCell_of_ne h]

/-- The moves of different cells do not meet: each is made on the cell as the sweep left it (R77). -/
theorem moveCells_eq {l : List Nat} (hl : l.Nodup) (s : State) : moveCells l s = (movedCells l s, l.countP s.entering) := by
  induction l generalizing s with
  | nil =>
    have hsame : (List.range s.cells.length).map s.cell = s.cells :=
      List.ext_getElem (by simp) fun i hi _ => by simp [State.cell, show i < s.cells.length by simpa using hi]
    simp [moveCells, movedCells, hsame]
  | cons i rest ih =>
    obtain ⟨hi, hrest⟩ := List.nodup_cons.1 hl
    have hcount : rest.countP (s.setCell i (moveBreach s.prof (s.cell i))).entering = rest.countP s.entering :=
      List.countP_congr fun j hj => by rw [entering_setCell_of_ne (ne_of_mem_of_not_mem hj hi)]
    rw [moveCells, ih hrest, movedCells_cons hi, hcount, List.countP_cons]
    by_cases he : s.entering i = true
    · rw [if_pos he]
      exact congrArg (Prod.mk _) (if_pos he)
    · rw [if_neg he]
      exact congrArg (Prod.mk _) (if_neg he)

theorem occurrences_eq_iterate (k : EventKind) (n : Nat) (s : State) : occurrences k n s = (occurrence k)^[n] s := by
  induction n generalizing s with
  | zero => rfl
  | succ n ih => exact ih (occurrence k s)

theorem countBreach_pos (s : State) (b : BreachState) : decide (0 < s.countBreach b) = s.populated.any fun c => c.breach == b := by
  rw [Bool.eq_iff_iff, decide_eq_true_eq, State.countBreach, List.countP_pos_iff, List.any_eq_true]

/-- A condition has gone from clear to set. -/
def newlySet (c : Cond) (s t : State) : Bool := !s.condSet c && t.condSet c

theorem newlySet_iff (c : Cond) (s t : State) : newlySet c s t = true ↔ s.condSet c = false ∧ t.condSet c = true := by
  simp [newlySet]

/-- The trip action of CELL_OV is applied first, when it was newly set (R78, R80). -/
def ovTripped (s j : State) : State := if newlySet .cellOv s j then applyTrip .cellOv s.prof.tripOv j else j

theorem ovTripped_prof (s j : State) : (ovTripped s j).prof = j.prof := by
  unfold ovTripped
  split <;> simp

/-- The moves, the entries counted, CELL_OV and CELL_UV judged, and the trip action of each that was newly set (R77, R78). -/
theorem limitEvaluate_eq {l : List Nat} {s m j : State} {n : Nat} (hm : moveCells l s = (m, n))
    (hj : judgeBreach (occurrences .cellBreachEnter n m) = j) :
    limitEvaluate l s = if newlySet .cellUv s j then applyTrip .cellUv s.prof.tripUv (ovTripped s j) else ovTripped s j := by
  obtain ⟨hcnd, hmoved⟩ : m.cnd = s.cnd ∧ m.prof = s.prof := by
    rw [show m = (moveCells l s).1 by rw [hm]]
    simp
  have hclear : ∀ c, m.condSet c = s.condSet c := condSet_of_same (congrArg Cnd.set hcnd)
  have hprof : j.prof = s.prof := by simp [← hj, hmoved]
  have hov : (if newlySet .cellOv m j then applyTrip .cellOv j.prof.tripOv j else j) = ovTripped s j := by
    rw [ovTripped, newlySet, newlySet, hclear, hprof]
  have huv : newlySet .cellUv m j = newlySet .cellUv s j := by rw [newlySet, newlySet, hclear]
  rw [← huv, ← hprof, ← ovTripped_prof s j, ← hov, ← hj]
  unfold limitEvaluate
  rw [hm]
  rfl

theorem ovTripped_of_set {s j : State} (h : newlySet .cellOv s j = true) : ovTripped s j = applyTrip .cellOv s.prof.tripOv j := if_pos h

theorem ovTripped_of_not {s j : State} (h : ¬ newlySet .cellOv s j = true) : ovTripped s j = j := if_neg h

/-- CELL_OV and CELL_UV are judged by the populated cells in breach (R78). -/
theorem judgeBreach_eq {s t : State} (hcells : s.cells = t.cells) (hprof : s.prof = t.prof) :
    judgeBreach s = liveCond .cellUv (t.populated.any fun c => c.breach == .uv)
      (liveCond .cellOv (t.populated.any fun c => c.breach == .ov) s) := by
  have hpop : s.populated = t.populated := by rw [State.populated, State.populated, hcells, hprof]
  rw [judgeBreach, countBreach_pos, countBreach_pos, hpop]

/-! ## The trip action (R80, R130) -/

theorem openForAll_of_running {s : State} (h : s.seq.run.isSome = true) (reason : SeqReason) :
    openForAll reason s = endSequence reason [] s := if_pos h

theorem openForAll_of_idle {s : State} (h : s.seq.run = none) (reason : SeqReason) :
    openForAll reason s = openEvery s := if_neg (by simp [h])

theorem openForAll_now (reason : SeqReason) (s : State) : (openForAll reason s).now = s.tim.packTime := by
  simp [State.now]

/-- Settles O47: the move by breach state and class of the reading, the evaluation by the moves of different cells, the trip action by
action, mode and runner. -/
theorem breachMovesByDebounce : Obligations.BreachMovesByDebounce := by
  refine ⟨fun p c v hv => ?_, fun l s hl => ?_, fun s cause action => ⟨fun hno => ?_, fun ha hm hrun => ?_, fun ha hm hrun => ?_⟩⟩
  · have hclass := readingClass_eq (p := p) hv
    refine ⟨fun hov huv hhigh => ?_, fun hov huv hlow => ?_, fun hov huv hhigh hlow => ?_, fun hb => ?_, fun hb => ?_⟩
    · exact moveBreach_of_high (hclass.trans (if_pos hhigh)) hov huv
    · exact moveBreach_of_low ((hclass.trans (if_neg hlow.1)).trans (if_pos hlow.2)) hov huv
    · exact moveBreach_of_inside ((hclass.trans (if_neg hhigh)).trans (if_neg fun h => hlow ⟨hhigh, h⟩)) hov huv
    · rw [moveBreach_of_ov hb]
      simp only [towardExit, inOvExit, hv, Option.getD_some, decide_eq_true_eq]
    · rw [moveBreach_of_uv hb]
      simp only [towardExit, inUvExit, hv, Option.getD_some, decide_eq_true_eq]
  · intro enters moved a j ov uv
    have hcount : l.countP s.entering = l.countP fun i => decide (enters i) := List.countP_congr fun i _ => by
      simp [State.entering, entersBreach, enters]
    have hj : judgeBreach (occurrences .cellBreachEnter (l.countP s.entering) (movedCells l s)) = j := by
      have hcells : (occurrences .cellBreachEnter (l.countP s.entering) (movedCells l s)).cells = moved.cells := by
        simp only [occurrences_frame]
        rfl
      have hprof : (occurrences .cellBreachEnter (l.countP s.entering) (movedCells l s)).prof = moved.prof := by
        simp only [occurrences_frame]
        rfl
      rw [judgeBreach_eq hcells hprof, occurrences_eq_iterate, hcount]
      rfl
    have hov := newlySet_iff .cellOv s j
    have huv := newlySet_iff .cellUv s j
    rw [limitEvaluate_eq (moveCells_eq hl s) hj]
    refine ⟨fun h1 h2 => ?_, fun h1 h2 => ?_, fun h1 h2 => ?_, fun h1 h2 => ?_⟩
    · rw [if_neg (mt huv.1 h2), ovTripped_of_not (mt hov.1 h1)]
    · rw [if_neg (mt huv.1 h2), ovTripped_of_set (hov.2 h1)]
    · rw [if_pos (huv.2 h2), ovTripped_of_not (mt hov.1 h1)]
    · rw [if_pos (huv.2 h2), ovTripped_of_set (hov.2 h1)]
  · exact applyTrip_of_not hno cause
  · rw [ha, applyTrip_of_run hm, openForAll_now, openForAll_of_running hrun]
  · rw [ha, applyTrip_of_run hm, openForAll_now, openForAll_of_idle hrun]
    rfl

end Sys2Proof.Machine
end

section
/-! SUPPORT. The contactor drivers, operation by operation: one channel replaced, what an open and a close command come to, what a
transition hands on, and the entry into a faulted state (R93 to R105). -/
namespace Sys2Proof.Machine

/-! ## Channels -/

theorem KState.faulted_iff (x : KState) : x.faulted = true ↔ x = .closeFailed ∨ x = .dropout ∨ x = .weldSuspect := by
  cases x <;> decide

theorem KState.faulted_eq (x : KState) : x.faulted = (x == .closeFailed || x == .dropout || x == .weldSuspect) := by
  cases x <;> rfl

/-- A number beyond the channels names none, and reads as a channel at its reset value. -/
theorem chan_of_length_le {s : State} {k : Nat} (h : s.kdr.chans.length ≤ k) : s.chan k = chanReset :=
  List.getD_eq_default _ _ h

/-- A channel in another state than OPEN is one that the part has. -/
theorem lt_length_of_st {s : State} {k : Nat} (h : (s.chan k).st ≠ .opened) : k < s.kdr.chans.length := by
  by_contra hk
  exact h (by rw [chan_of_length_le (Nat.le_of_not_lt hk)]; rfl)

theorem chan_setChan_self {s : State} {k : Nat} (hk : k < s.kdr.chans.length) (c : Chan) : (s.setChan k c).chan k = c := by
  rw [chan_setChan, if_pos ⟨rfl, hk⟩]

@[simp] theorem chan_occurrence (e : EventKind) (s : State) (j : Nat) : (occurrence e s).chan j = s.chan j := chan_of_chans (by simp) j

section
variable {s : State} {k : Nat}

/-! ## What a transition hands on (R104, R105) -/

@[simp] theorem chan_handOn (i : Nat) (left entered : KState) (tm : Times) (hardBreak : Bool) (instant : Time) (s : State) (j : Nat) :
    (handOn i left entered tm hardBreak instant s).chan j = s.chan j := chan_of_chans (by simp) j

theorem anyFaulted_offerRecord (fault : Bool) (body : RecordBody) (s : State) : (offerRecord fault body s).anyFaulted = s.anyFaulted := by
  simp [State.anyFaulted]

/-- The record is offered in the class of the state entered, with the entry nearest its instant; CONTACTOR_FAULT follows the channels. -/
theorem handOn_eq (k : Nat) (left entered : KState) (tm : Times) (hardBreak : Bool) (instant : Time) (s : State) :
    handOn k left entered tm hardBreak instant s = liveCond .contactorFault s.anyFaulted
      (offerRecord entered.faulted (.contactor k left entered s.tim.packTime tm.make tm.brk hardBreak (s.nearest instant)) s) := by
  simp only [handOn, judgeContactorFault, anyFaulted_offerRecord]
  rfl

/-- The runner is told the state that the channel has. -/
theorem tellChannel_of_st {x : KState} (h : (s.chan k).st = x) : tellChannel k s = runnerReport k x s := by rw [tellChannel, h]

theorem tellChannel_of_handOn {left entered : KState} {tm : Times} {hardBreak : Bool} {instant : Time} {c : Chan}
    (hk : k < s.kdr.chans.length) (hc : c.st = entered) :
    tellChannel k (handOn k left entered tm hardBreak instant (s.setChan k c))
      = runnerReport k entered (handOn k left entered tm hardBreak instant (s.setChan k c)) :=
  tellChannel_of_st (by rw [chan_handOn, chan_setChan_self hk, hc])

/-! ## The entry into a faulted state (R103) -/

/-- From CLOSING and CLOSED the coil is released. -/
theorem enterFault_of_energized {x : KState} (hst : (s.chan k).st = x) (h : x = .closing ∨ x = .closed) (entered : KState)
    (hardBreak : Bool) (instant : Time) :
    enterFault k entered hardBreak instant s = handOn k x entered noTimes hardBreak instant (s.setChan k { s.chan k with
      st := entered, coil := .off, releaseAt := s.tim.packTime, pullIn := none, superv := none, settling := none }) := by
  have hrel : ((s.chan k).st == .closing || (s.chan k).st == .closed) = true := by simpa [hst] using h
  rw [enterFault, if_pos hrel, hst]
  rfl

/-- From the other states the coil is left as it is. -/
theorem enterFault_of_released {x : KState} (hst : (s.chan k).st = x) (h1 : x ≠ .closing) (h2 : x ≠ .closed) (entered : KState)
    (hardBreak : Bool) (instant : Time) :
    enterFault k entered hardBreak instant s = handOn k x entered noTimes hardBreak instant (s.setChan k { s.chan k with
      st := entered, pullIn := none, superv := none, settling := none }) := by
  have hrel : ¬ ((s.chan k).st == .closing || (s.chan k).st == .closed) = true := by simp [hst, h1, h2]
  rw [enterFault, if_neg hrel, hst]

/-! ## Close and open commands (R93, R96, R97, R100 to R102) -/

theorem closeCmd_of_open (huse : s.inUse k = true) (hst : (s.chan k).st = .opened) :
    closeCmd k s = s.setChan k { s.chan k with
      st := .closing, coil := .pullIn, pullIn := some (s.chanCfg k).pullIn, energizeAt := s.tim.packTime,
      superv := some (s.chanCfg k).makeMax, underLoad := false } := by
  rw [closeCmd, huse, hst]
  rfl

theorem closeCmd_of_not (h : s.inUse k = false ∨ (s.chan k).st ≠ .opened) : closeCmd k s = s :=
  if_neg (by rcases h with h | h <;> simp [h])

theorem openCmd_of_not (h : s.inUse k = false ∨ ((s.chan k).st ≠ .closing ∧ (s.chan k).st ≠ .closed)) : openCmd k s = s :=
  if_neg (by rcases h with h | h <;> simp [h])

/-- Channel k as an open command takes it: in OPENING, the coil released, the break max loaded, a hard break flagged and counted. -/
def State.opening (s : State) (k : Nat) (hard : Bool) : Chan :=
  { s.chan k with
    st := .opening, coil := .off, pullIn := none, releaseAt := s.tim.packTime, superv := some (s.chanCfg k).breakMax, underLoad := hard,
    hardBreaks := if hard then min 4294967295 ((s.chan k).hardBreaks + 1) else (s.chan k).hardBreaks }

/-- The part with channel k taken into OPENING, a hard break raised (R102). -/
def State.released (s : State) (k : Nat) (hard : Bool) : State :=
  if hard then occurrence .hardBreak (s.setChan k (s.opening k hard)) else s.setChan k (s.opening k hard)

/-- The open of a contactor in CLOSED breaks hard by the newest entry (R102). -/
def State.breaksHard (s : State) (k : Nat) : Bool := (s.chan k).st == .closed && hardBreakTest s

theorem hardBreakTest_iff (s : State) :
    hardBreakTest s = true ↔ ∃ e, s.ana.ring.getLast? = some e ∧ s.prof.hardBreakLimit ≤ e.current.natAbs := by
  unfold hardBreakTest State.newest
  cases s.ana.ring.getLast? <;> simp

theorem breaksHard_iff (s : State) (k : Nat) : s.breaksHard k = true ↔
    (s.chan k).st = .closed ∧ ∃ e, s.ana.ring.getLast? = some e ∧ s.prof.hardBreakLimit ≤ e.current.natAbs := by
  rw [State.breaksHard, Bool.and_eq_true, beq_iff_eq, hardBreakTest_iff]

/-- An open command that is taken: the contactor is in OPENING, and in OPEN at once with its feedback open and no closing change. -/
theorem openCmd_of_taken (huse : s.inUse k = true) (hst : (s.chan k).st = .closing ∨ (s.chan k).st = .closed) :
    openCmd k s = if (s.chan k).closedFb = false ∧ (s.chan k).debounce = 0 then enterOpenUntimed k (s.released k (s.breaksHard k))
      else s.released k (s.breaksHard k) := by
  have htaken : (s.inUse k && ((s.chan k).st == .closing || (s.chan k).st == .closed)) = true := by simpa [huse] using hst
  rw [openCmd, if_pos htaken]
  refine if_congr ?_ rfl rfl
  cases hfb : (s.chan k).closedFb <;> simp [Chan.closingChange, hfb]

/-- What an open command can come to: nothing, or a contactor of the part in OPENING or OPEN (R100, R101). -/
theorem openCmd_cases (k : Nat) (s : State) : openCmd k s = s
    ∨ k < s.kdr.chans.length ∧ (openCmd k s = s.released k (s.breaksHard k)
      ∨ openCmd k s = enterOpenUntimed k (s.released k (s.breaksHard k))) := by
  by_cases huse : s.inUse k = true
  · by_cases hst : (s.chan k).st = .closing ∨ (s.chan k).st = .closed
    · refine .inr ⟨lt_length_of_st (by rcases hst with e | e <;> simp [e]), ?_⟩
      rw [openCmd_of_taken huse hst]
      split
      · exact .inr rfl
      · exact .inl rfl
    · exact .inl (openCmd_of_not (.inr (not_or.1 hst)))
  · exact .inl (openCmd_of_not (.inl (Bool.eq_false_iff.2 huse)))

theorem chan_released (hk : k < s.kdr.chans.length) (hard : Bool) : (s.released k hard).chan k = s.opening k hard := by
  cases hard <;> simp [State.released, chan_setChan_self hk]

theorem released_now (s : State) (k : Nat) (hard : Bool) : (s.released k hard).now = s.tim.packTime := by
  cases hard <;> simp [State.released, State.now]

/-- The contactor that an open command takes and that is OPEN at once (R101). -/
theorem enterOpenUntimed_released (hk : k < s.kdr.chans.length) (hard : Bool) :
    enterOpenUntimed k (s.released k hard) = handOn k .opening .opened noTimes hard s.tim.packTime
      ((s.released k hard).setChan k { s.opening k hard with st := .opened, superv := none }) := by
  rw [enterOpenUntimed, chan_released hk, released_now]
  rfl

end

end Sys2Proof.Machine
end

section
/-! SUPPORT. Coils against contactor states (R93), channel by channel: every rewriting of a channel keeps its coil right, and what rewrites
no channel keeps them all. -/
namespace Sys2Proof.Machine

/-! ## One channel -/

/-- Coil and contactor state are all that the rule reads of a channel. -/
theorem Chan.coilRight.of_same {c d : Chan} (h : c.coilRight) (hcoil : d.coil = c.coil) (hst : d.st = c.st) : d.coilRight := by
  rwa [Chan.coilRight, hcoil, hst]

/-- In a state other than CLOSING and CLOSED the coil is off. -/
theorem Chan.coilRight.off {c : Chan} (h : c.coilRight) (h1 : c.st ≠ .closing) (h2 : c.st ≠ .closed) : c.coil = .off := by
  by_contra hon
  exact (h.1 hon).elim h1 h2

/-- An energized coil is right in CLOSING and in CLOSED. -/
theorem Chan.coilRight_of_on {c : Chan} (hcoil : c.coil ≠ .off) (hst : c.st = .closing ∨ c.st = .closed) : c.coilRight :=
  iff_of_true hcoil hst

/-- A coil that is off is right in the five other states. -/
theorem Chan.coilRight_of_off {c : Chan} (hcoil : c.coil = .off) (h1 : c.st ≠ .closing) (h2 : c.st ≠ .closed) : c.coilRight :=
  iff_of_false (not_not_intro hcoil) (not_or_intro h1 h2)

theorem chanReset_coilRight : chanReset.coilRight := Chan.coilRight_of_off rfl (by decide) (by decide)

@[simp] theorem Chan.sample_coil (sample : Bool) (u : Time) (c : Chan) : (c.sample sample u).coil = c.coil := by
  unfold Chan.sample
  (repeat' split) <;> rfl

@[simp] theorem rereadFeedback_coil_st (old new : ChanCfg) (level : Bool) (c : Chan) :
    (rereadFeedback old new level c).coil = c.coil ∧ (rereadFeedback old new level c).st = c.st := by
  unfold rereadFeedback
  split <;> exact ⟨rfl, rfl⟩

/-! ## The channels -/

section
variable {s t : State}

theorem State.coilsRight.mono (h : s.coilsRight) (hchans : t.kdr.chans = s.kdr.chans) : t.coilsRight := by
  rwa [State.coilsRight, hchans]

theorem State.coilsRight.chan (h : s.coilsRight) (k : Nat) : (s.chan k).coilRight := by
  rw [State.chan, List.getD_eq_getElem?_getD]
  cases hk : s.kdr.chans[k]? with
  | none => exact chanReset_coilRight
  | some c => exact h c (List.mem_of_getElem? hk)

theorem ite_coils {p : Prop} [Decidable p] (hs : s.coilsRight) (ht : t.coilsRight) : (if p then s else t).coilsRight := by
  split
  · exact hs
  · exact ht

/-- A channel is rewritten by one whose coil is right. -/
theorem setChan_coils {k : Nat} {c : Chan} (h : s.coilsRight) (hc : c.coilRight) : (s.setChan k c).coilsRight := fun d hd =>
  (List.mem_or_eq_of_mem_set hd).elim (h d) fun e => e ▸ hc

/-- A channel is rewritten with its coil and its state kept. -/
theorem setChan_coils_of_same {k : Nat} {c : Chan} (h : s.coilsRight) (hcoil : c.coil = (s.chan k).coil) (hst : c.st = (s.chan k).st) :
    (s.setChan k c).coilsRight := setChan_coils h ((h.chan k).of_same hcoil hst)

/-- A channel is rewritten in a state other than CLOSING and CLOSED, its coil off. -/
theorem setChan_coils_of_off {k : Nat} {c : Chan} (h : s.coilsRight) (hcoil : c.coil = .off) (h1 : c.st ≠ .closing)
    (h2 : c.st ≠ .closed) : (s.setChan k c).coilsRight := setChan_coils h (Chan.coilRight_of_off hcoil h1 h2)

/-- The channels are rewritten one by one by their numbers, coil and state of each kept. -/
theorem mapChans_coils {x : Kdr} {f : Nat → Chan} (h : s.coilsRight) (hx : x.chans = (List.range s.kdr.chans.length).map f)
    (hf : ∀ k, (f k).coil = (s.chan k).coil ∧ (f k).st = (s.chan k).st) : (s.setKdr x).coilsRight := fun d hd => by
  rw [State.setKdr_kdr, hx] at hd
  obtain ⟨k, -, rfl⟩ := List.mem_map.1 hd
  obtain ⟨hcoil, hst⟩ := hf k
  exact (h.chan k).of_same hcoil hst

/-! ## Contactor drivers (R91 to R108) -/

theorem handOn_coils {k : Nat} {left entered : KState} {tm : Times} {hardBreak : Bool} {instant : Time} (h : s.coilsRight) :
    (handOn k left entered tm hardBreak instant s).coilsRight := h.mono (by simp)

/-- A contactor in OPENING comes to OPEN with its coil off already (R101). -/
theorem enterOpenUntimed_coils {k : Nat} (h : s.coilsRight) (hst : (s.chan k).st = .opening) : (enterOpenUntimed k s).coilsRight :=
  handOn_coils (setChan_coils_of_off h ((h.chan k).off (by simp [hst]) (by simp [hst])) nofun nofun)

theorem released_coils (k : Nat) (hard : Bool) (h : s.coilsRight) : (s.released k hard).coilsRight := by
  have hset : (s.setChan k (s.opening k hard)).coilsRight := setChan_coils_of_off h rfl nofun nofun
  exact ite_coils (p := hard = true) (hset.mono (t := occurrence .hardBreak (s.setChan k (s.opening k hard))) (by simp)) hset

theorem openCmd_coils (k : Nat) (h : s.coilsRight) : (openCmd k s).coilsRight := by
  rcases openCmd_cases k s with e | ⟨hk, e | e⟩ <;> rw [e]
  · exact h
  · exact released_coils k _ h
  · exact enterOpenUntimed_coils (released_coils k _ h) (by rw [chan_released hk]; rfl)

theorem closeCmd_coils (k : Nat) (h : s.coilsRight) : (closeCmd k s).coilsRight :=
  ite_coils (setChan_coils h (Chan.coilRight_of_on nofun (.inl rfl))) h

theorem openEvery_coils (h : s.coilsRight) : (openEvery s).coilsRight :=
  openCmd_coils 3 (openCmd_coils 2 (openCmd_coils 1 (openCmd_coils 0 h)))

/-- A contactor that becomes faulted releases its coil, or has it off already (R103). -/
theorem enterFault_coils (k : Nat) {entered : KState} (hardBreak : Bool) (instant : Time) (hf : entered.faulted = true)
    (h : s.coilsRight) : (enterFault k entered hardBreak instant s).coilsRight := by
  refine handOn_coils (setChan_coils_of_off h ?_ ?_ ?_)
  · dsimp only
    split
    · rfl
    · rename_i hst
      simp only [Bool.or_eq_true, beq_iff_eq, not_or] at hst
      obtain ⟨h1, h2⟩ := hst
      exact (h.chan k).off h1 h2
  all_goals
    rintro rfl
    exact nomatch hf

theorem actOnFeedback_coils (k : Nat) (h : s.coilsRight) : (actOnFeedback k s).1.coilsRight := by
  unfold actOnFeedback
  dsimp only
  split
  · exact h
  · split
    · rename_i hst _
      have hon : (s.chan k).coil ≠ .off := (h.chan k).2 (.inl hst)
      have hclosed : (s.setChan k { s.chan k with
          st := .closed, superv := none, lastMake := some (measured ((s.chan k).edge + us 2000) (s.chan k).energizeAt),
          closes := min maxCount ((s.chan k).closes + 1) }).coilsRight := setChan_coils h (Chan.coilRight_of_on hon (.inr rfl))
      exact handOn_coils (hclosed.mono (by simp))
    · exact enterFault_coils k _ _ rfl h
    · rename_i hst _
      have hoff : (s.chan k).coil = .off := (h.chan k).off (by simp [hst]) (by simp [hst])
      exact handOn_coils (setChan_coils_of_off h hoff nofun nofun)
    · split
      · exact h
      · exact enterFault_coils k _ _ rfl h
    · exact h

theorem takePolarities_coils (p : Profile) (h : s.coilsRight) : (takePolarities p s).coilsRight :=
  mapChans_coils h rfl fun _ => by simp

theorem loadSettling_coils (h : s.coilsRight) : (loadSettling s).coilsRight := mapChans_coils h rfl fun _ => ⟨rfl, rfl⟩

theorem switchWeld_coils (k : Nat) (h : s.coilsRight) : (switchWeld k s).coilsRight := ite_coils (enterFault_coils k _ _ rfl h) h

theorem switchWelds_coils (h : s.coilsRight) : (switchWelds s).coilsRight :=
  switchWeld_coils 3 (switchWeld_coils 2 (switchWeld_coils 1 (switchWeld_coils 0 h)))

theorem suspendSupervision_coils (h : s.coilsRight) : (suspendSupervision s).coilsRight := h

theorem resumeSupervision_coils (h : s.coilsRight) : (resumeSupervision s).coilsRight := fun d hd => by
  obtain ⟨c, hc, rfl⟩ := List.mem_map.1 hd
  exact (h c hc).of_same rfl rfl

/-! ## Sequence runner and limit monitor (R77 to R80, R113 to R131) -/

theorem endSequence_coils (reason : SeqReason) (terms : List GateTerm) (h : s.coilsRight) : (endSequence reason terms s).coilsRight := by
  have hopen := openEvery_coils h
  unfold endSequence
  split
  · exact h
  · rename_i r _
    exact (ite_coils (p := r.eventReq = true) (hopen.mono (t := withdrawEvent (openEvery s)) (by simp)) hopen).mono (by simp)

theorem startClose_coils (k : Nat) (h : s.coilsRight) : (startClose k s).state.coilsRight := by
  unfold startClose
  dsimp only
  split
  · exact h
  · split
    · exact (closeCmd_coils k h).mono (by simp)
    · exact h
    · exact h.mono (by simp)
    · exact h.mono (by simp)
    all_goals exact h

theorem startOpen_coils (k : Nat) (h : s.coilsRight) : (startOpen k s).state.coilsRight := by
  have hopened : (if ((openCmd k s).chan k).st = .opened then StepResult.completes false (openCmd k s)
      else .waits (awaiting (.contactor k) (openCmd k s))).state.coilsRight := by
    split
    · exact openCmd_coils k h
    · exact (openCmd_coils k h).mono (by simp)
  unfold startOpen
  split
  · exact hopened
  · exact hopened
  · exact h.mono (by simp)
  all_goals exact h

/-- CLOSE and OPEN alone of the steps command a contactor. -/
theorem startStep_coils (st : SeqStep) (h : s.coilsRight) : (startStep st s).state.coilsRight := by
  unfold startStep
  split
  · exact startClose_coils _ h
  · exact startOpen_coils _ h
  case h_8 =>
    split
    · exact h.mono (by simp)
    · exact h
  all_goals exact h.mono (by simp)

theorem runSteps_coils (n idx : Nat) (h : s.coilsRight) : (runSteps n idx s).coilsRight := by
  induction n generalizing idx s with
  | zero => exact h
  | succ n ih =>
    unfold runSteps
    split
    · exact h
    · rename_i r _
      split
      · exact h
      · rename_i st _
        have hstep := startStep_coils st (h.mono (t := enterStep idx r s) (by simp))
        split <;> rename_i hres <;> rw [hres] at hstep
        · exact hstep
        · exact ih _ hstep
        · exact endSequence_coils _ _ hstep
        · exact hstep

theorem proceed_coils (idx : Nat) (h : s.coilsRight) : (proceed idx s).coilsRight := (runSteps_coils 13 idx h).mono (by simp [proceed])

theorem settleStep_coils (idx : Nat) {x : StepResult} (h : x.state.coilsRight) : (settleStep idx x).coilsRight := by
  cases x with
  | waits s => exact h
  | completes skip s => exact proceed_coils _ h
  | fails reason terms s => exact endSequence_coils _ _ h
  | ends s => exact h

theorem runnerReport_coils (k : Nat) (entered : KState) (h : s.coilsRight) : (runnerReport k entered s).coilsRight := by
  unfold runnerReport
  split
  · exact h
  · refine ite_coils (endSequence_coils _ _ h) (ite_coils ?_ h)
    split
    · exact proceed_coils _ h
    · exact proceed_coils _ h
    · exact proceed_coils _ h
    · exact h

theorem runnerSwept_coils (requested received : ModMask) (h : s.coilsRight) : (runnerSwept requested received s).coilsRight := by
  unfold runnerSwept
  split
  · exact h
  · rename_i r _
    have hrun : (s.setRun { r with eventReq := false }).coilsRight := h.mono (by simp)
    exact ite_coils (ite_coils (runSteps_coils _ _ hrun) (endSequence_coils _ _ hrun)) h

theorem runnerArrival_coils (e : RingEntry) (h : s.coilsRight) : (runnerArrival e s).coilsRight := by
  have htest := fun holds => h.mono (t := (awaitTest holds e s).state) (by simp)
  unfold runnerArrival
  split
  · exact ite_coils (settleStep_coils _ (htest _)) h
  · exact ite_coils (settleStep_coils _ (htest _)) h
  · exact h

theorem runnerTimer_coils (h : s.coilsRight) : (runnerTimer s).coilsRight := by
  unfold runnerTimer
  split
  · exact proceed_coils _ h
  · exact endSequence_coils _ _ h
  · exact endSequence_coils _ _ h
  · exact h

theorem openForAll_coils (reason : SeqReason) (h : s.coilsRight) : (openForAll reason s).coilsRight :=
  ite_coils (endSequence_coils _ _ h) (openEvery_coils h)

theorem tellChannel_coils (k : Nat) (h : s.coilsRight) : (tellChannel k s).coilsRight := runnerReport_coils _ _ h

theorem applyTrip_coils (cause : TripCause) (action : Bool) (h : s.coilsRight) : (applyTrip cause action s).coilsRight :=
  ite_coils ((openForAll_coils .trip h).mono (by simp)) h

theorem limitEvaluate_coils (written : List Nat) (h : s.coilsRight) : (limitEvaluate written s).coilsRight := by
  have hjudged : (judgeBreach (occurrences .cellBreachEnter (moveCells written s).2 (moveCells written s).1)).coilsRight :=
    h.mono (by simp)
  exact ite_coils (applyTrip_coils _ _ (ite_coils (applyTrip_coils _ _ hjudged) hjudged))
    (ite_coils (applyTrip_coils _ _ hjudged) hjudged)

end

end Sys2Proof.Machine
end

section
/-! SUPPORT. Coils against contactor states (R93): the profile switch, the power controller, start-up, the end of an event and the life of a
sweep, which reach the contactors by the operations above alone. -/
namespace Sys2Proof.Machine

section
variable {s t : State}

/-! ## The profile switch and the power controller (R154 to R166, R184, R185) -/

theorem applySwitch_coils (h : s.coilsRight) : (applySwitch s).coilsRight := by
  unfold applySwitch
  split
  · exact h
  · rename_i m _
    extract_lets p _ s1 s2 s3 s4 s5 _ s6 s7
    have h2 : s2.coilsRight := takePolarities_coils p (h.mono (by simp [s1]))
    have h4 : s4.coilsRight := h2.mono (by simp [s4, s3])
    have hwelded := switchWelds_coils h4
    exact hwelded.mono (by simp [s7, s6, s5, replaceEnables_frame])

theorem lookAgain_coils (h : s.coilsRight) : (lookAgain s).coilsRight :=
  ite_coils ((applySwitch_coils h).mono (by simp)) (h.mono (by simp))

theorem pursue_coils (h : s.coilsRight) : (pursue s).coilsRight := by
  have hheld : (if !s.upd.holding && s.quiet then holdSched s else s).coilsRight := ite_coils (h.mono (by simp)) h
  exact ite_coils (ite_coils (lookAgain_coils hheld) hheld) h

theorem beginWaking_coils (w : WakeSet) (h : s.coilsRight) : (beginWaking w s).coilsRight := by
  have hresumed := resumeSupervision_coils (s := s.setPwr { s.pwr with
    mode := .waking, lastWake := some w, pendHost := false, pendTamper := false, sleepTimer := none, wakeStage := 1 }) h
  exact hresumed.mono (by simp [beginWaking])

theorem sleepDecision_coils (h : s.coilsRight) : (sleepDecision s).coilsRight := ite_coils (beginWaking_coils _ h) (h.mono (by simp))

theorem launchIfReady_coils (h : s.coilsRight) : (launchIfReady s).coilsRight :=
  ite_coils (ite_coils (sleepDecision_coils h) (h.mono (by simp))) h

theorem chainReport_coils (h : s.coilsRight) : (chainReport s).coilsRight := launchIfReady_coils (h.mono (by simp))

theorem anaReport_coils (h : s.coilsRight) : (anaReport s).coilsRight := launchIfReady_coils (h.mono (by simp))

theorem chainIdle_coils (h : s.coilsRight) : (chainIdle s).coilsRight :=
  ite_coils (h.mono (by simp)) (ite_coils (chainReport_coils (h.mono (by simp))) h)

theorem hostArrive_coils (h : s.coilsRight) : (hostArrive s).coilsRight := by
  unfold hostArrive
  split
  · exact beginWaking_coils _ h
  all_goals exact h

theorem tamperReport_coils (h : s.coilsRight) : (tamperReport s).coilsRight := by
  unfold tamperReport
  split
  · exact beginWaking_coils _ h
  all_goals exact h

/-- The NV engine marks the wear save and leaves the channels (R110, R172). -/
theorem nvBegin_coils (h : s.coilsRight) : (nvBegin s).coilsRight := h.mono (nvBegin_keeps s).1

theorem requestWear_coils (h : s.coilsRight) (hw : requestWear s = some t) : t.coilsRight := by
  unfold requestWear at hw
  split at hw
  · cases hw
    exact h
  · obtain ⟨u, hu, rfl⟩ := Option.map_eq_some_iff.1 hw
    exact h.mono (by simp [offerOp_frame _ _ _ hu])

theorem entryOne_coils (h : s.coilsRight) : (entryOne s).coilsRight := by
  have hstage : (setEntryStage 2 s).coilsRight := h.mono (by simp)
  refine ite_coils (nvBegin_coils ?_) h
  cases hw : requestWear (setEntryStage 2 s) with
  | none => exact hstage
  | some t => exact requestWear_coils hstage hw

theorem entryTwo_coils (h : s.coilsRight) : (entryTwo s).coilsRight := ite_coils (nvBegin_coils (h.mono (by simp))) h

theorem entryThree_coils (h : s.coilsRight) : (entryThree s).coilsRight := by
  refine ite_coils ?_ h
  split
  · exact h
  · exact h
  · exact h.mono (by simp)
  · exact ite_coils ((applySwitch_coils h).mono (by simp)) (h.mono (by simp))

theorem enterSleep_coils (h : s.coilsRight) : (enterSleep s).coilsRight := by
  unfold enterSleep
  extract_lets s1 _ s2 s3 _ s4
  have h3 : s3.coilsRight := h.mono (by simp [s3, s2, s1])
  have h4 : s4.coilsRight := suspendSupervision_coils (h3.mono rfl)
  exact ite_coils (beginWaking_coils _ (h4.mono rfl)) (h4.mono rfl)

theorem entryFour_coils (h : s.coilsRight) : (entryFour s).coilsRight := ite_coils (ite_coils (enterSleep_coils h) (h.mono (by simp))) h

/-! ## Tamper, start-up and the end of an event (R109, R153, R175, R176, R187) -/

theorem tamperEffects_coils (h : s.coilsRight) : (tamperEffects s).coilsRight := tamperReport_coils (h.mono (by simp))

theorem tamperAccept_coils (h : s.coilsRight) : (tamperAccept s).coilsRight := ite_coils (h.mono (by simp)) (tamperEffects_coils h)

/-- The counts of a wear page leave coil and state of the channels that take them (R109). -/
theorem takeWear_coils (x : AB) (w : Wear) (h : s.coilsRight) : (takeWear x w s).coilsRight := fun d hd => by
  obtain ⟨k, hk, rfl⟩ := List.mem_iff_getElem.1 hd
  simp only [takeWear, State.setKdr_kdr, State.setNvs_kdr, List.getElem_zipWith]
  exact (h _ (List.getElem_mem _)).of_same rfl rfl

theorem readWears_coils (h : s.coilsRight) : (readWears s).coilsRight := by
  unfold readWears
  dsimp only
  split
  · exact takeWear_coils _ _ h
  · exact takeWear_coils _ _ h
  · exact h

theorem takeLatch_coils (h : s.coilsRight) : (takeLatch s).coilsRight :=
  ite_coils (tamperEffects_coils (h.mono (by simp))) (h.mono (by simp))

theorem startupRead_coils (h : s.coilsRight) : (startupRead s).coilsRight := by
  have hread : (readWears (readAnchors s)).coilsRight := readWears_coils (h.mono (by simp))
  have hlatch := takeLatch_coils (hread.mono (t := (classifyBanks (readWears (readAnchors s))).setNvs
    { (classifyBanks (readWears (readAnchors s))).nvs with sel := .waiting }) (by simp))
  exact nvBegin_coils (hlatch.mono (by simp))

theorem takeProfile_coils (p : Profile) (h : s.coilsRight) : (takeProfile p s).coilsRight := by
  have hpol : (anaTake ((takePolarities p s).setProf p)).coilsRight := (takePolarities_coils p h).mono (by simp)
  exact (loadSettling_coils hpol).mono (by simp [takeProfile])

theorem selectionEnd_coils (h : s.coilsRight) : (selectionEnd s).coilsRight := by
  unfold selectionEnd
  split
  · exact takeProfile_coils _ (h.mono (by simp))
  · have hended : (s.setNvs { s.nvs with active := none, activeVer := none, sel := .ended }).coilsRight := h
    exact (takeProfile_coils factoryProfile hended).mono (by simp)

theorem selectionProgress_coils (h : s.coilsRight) : (selectionProgress s).coilsRight := by
  have hread : (if s.nvs.sel = .unread then startupRead s else s).coilsRight := ite_coils (startupRead_coils h) h
  exact ite_coils (selectionEnd_coils hread) hread

theorem startupProgress_coils (h : s.coilsRight) : (startupProgress s).coilsRight :=
  ite_coils ((selectionProgress_coils h).mono (by simp)) h

/-- What every event ends with keeps the coils right. -/
theorem finish_coils (h : s.coilsRight) : (finish s).coilsRight := by
  have hentry := startupProgress_coils (entryThree_coils (entryTwo_coils (entryOne_coils (pursue_coils (nvBegin_coils h)))))
  have hwoken := hentry.mono (t := linkPump (wakeProgress (startupProgress (entryThree (entryTwo (entryOne (pursue (nvBegin s))))))))
    (by simp)
  dsimp only [finish]
  exact (entryFour_coils hwoken).mono (by simp)

/-! ## The life of a sweep (R10 to R13, R24 to R36) -/

theorem tellRunner_coils (h : s.coilsRight) : (tellRunner s).coilsRight := by
  unfold tellRunner
  split
  · exact ite_coils (runnerSwept_coils _ _ h) h
  · exact h

theorem completeSweep_coils (w : SweepRec) (h : s.coilsRight) : (completeSweep w s).coilsRight := by
  have hend : ∀ x : State, x.coilsRight → (tellPower w (arbiter (tellRunner (chainIdle (sweepDone x))))).coilsRight := fun x hx => by
    have htold := (tellRunner_coils (chainIdle_coils (hx.mono (t := sweepDone x) (by simp)))).mono
      (t := arbiter (tellRunner (chainIdle (sweepDone x)))) (by simp)
    exact ite_coils (sleepDecision_coils htold) htold
  unfold completeSweep
  refine hend _ (ite_coils ?_ (limitEvaluate_coils _ ?_)) <;> split <;> exact h.mono (by simp)

theorem completeIfAligned_coils (h : s.coilsRight) : (completeIfAligned s).coilsRight := by
  unfold completeIfAligned
  split
  · exact ite_coils (completeSweep_coils _ h) h
  · exact h

theorem readFrom_coils (k : Nat) (h : s.coilsRight) : (readFrom k s).coilsRight := by
  unfold readFrom
  split
  · split
    · exact h.mono (by simp)
    · exact completeIfAligned_coils (h.mono (by simp))
  · exact h

theorem readDone_coils (k : Nat) (o : MonitorReply) (h : s.coilsRight) : (readDone k o s).coilsRight := by
  have hentry : (readEntry k o s).coilsRight := h.mono (by simp)
  unfold readDone
  dsimp only
  split
  · exact readFrom_coils _ (ite_coils (hentry.mono (by simp)) hentry)
  · exact hentry

theorem enumerationEnds_coils (k : Nat) (h : s.coilsRight) : (enumerationEnds k s).coilsRight := by
  have hstopped : (enumerationStopped k s).coilsRight := ite_coils (h.mono (by simp)) (h.mono (by simp))
  rw [enumerationEnds_eq]
  exact (chainIdle_coils hstopped).mono (by simp)

theorem identDone_coils (k : Nat) (o : MonitorReply) (h : s.coilsRight) : (identDone k o s).coilsRight :=
  ite_coils (ite_coils (h.mono (by simp)) (enumerationEnds_coils _ (h.mono (by simp))))
    (enumerationEnds_coils _ (ite_coils (h.mono (by simp)) (h.mono (by simp))))

theorem windowEnds_coils (h : s.coilsRight) : (windowEnds s).coilsRight := by
  unfold windowEnds
  split
  · exact readFrom_coils _ (h.mono (by simp))
  all_goals exact h

theorem chainReply_coils (bs : List Byte) (h : s.coilsRight) : (chainReply bs s).coilsRight := by
  unfold chainReply
  split
  · exact ite_coils (readDone_coils _ _ h) h
  · exact ite_coils (identDone_coils _ _ h) h
  all_goals exact h

theorem replyWindowEnds_coils (h : s.coilsRight) : (replyWindowEnds s).coilsRight := by
  unfold replyWindowEnds
  split
  · exact readDone_coils _ _ (h.mono (by simp))
  · exact identDone_coils _ _ (h.mono (by simp))
  all_goals exact h

theorem chainUp_coils (h : s.coilsRight) : (chainUp s).coilsRight := by
  unfold chainUp
  split
  · exact chainIdle_coils (h.mono (by simp))
  · exact h

end

end Sys2Proof.Machine
end

section
/-! SUPPORT. Coils against contactor states (R93): requests, the pack link, expiries, the tick and the NV engine's steps, and so every command. -/
namespace Sys2Proof.Machine

section
variable {s t : State}

/-! ## Requests and the pack link (R110, R111, R116, R129, R191 to R201) -/

theorem ownSaveWear_coils (h : s.coilsRight) : (ownSaveWear s).1.coilsRight := by
  unfold ownSaveWear
  split
  · rename_i hw
    exact requestWear_coils h hw
  · exact h

/-- A faulted contactor is cleared to OPEN with its coil off already (R103, R111). -/
theorem ownClearContactorFault_coils (channel : Byte) (h : s.coilsRight) : (ownClearContactorFault channel s).1.coilsRight := by
  unfold ownClearContactorFault
  dsimp only
  split
  · exact h
  · split
    · exact h
    · rename_i hk
      have hoff : (s.chan channel.toNat).coil = .off := (h.chan _).off (fun e => hk (.inr (by rw [e]; rfl)))
        fun e => hk (.inr (by rw [e]; rfl))
      split
      · exact h
      · exact handOn_coils (setChan_coils_of_off h hoff nofun nofun)

theorem ownRunSequence_coils (id : Byte) (h : s.coilsRight) : (ownRunSequence id s).1.coilsRight := by
  unfold ownRunSequence
  split
  · exact h
  · split
    · exact h
    · split
      · exact h
      · split
        · exact h
        · exact proceed_coils 0 (h.mono (by simp))

/-- Of the requests four reach the contactor drivers. -/
theorem own_coils (r : Request) (h : s.coilsRight) : (own r s).1.coilsRight := by
  cases r with
  | saveWear => exact ownSaveWear_coils h
  | clearContactorFault channel => exact ownClearContactorFault_coils channel h
  | runSequence id => exact ownRunSequence_coils id h
  | openAll => exact openForAll_coils .aborted h
  | readCells | readResistance | logRead | resetPart =>
    simp only [own, ownReadCells, ownReadResistance, ownLogRead, ownResetPart]
    split <;> exact h
  | _ => exact h.mono (by simp [own, ownReadSweep, ownReadModules, ownReadAnalog, ownReadConditions, ownReadContactors, ownReadRunner,
      ownReadCounters, ownReadProfileInfo, ownStatus, ownIdentify, okWith])

theorem answer_coils (f : InFrame) (h : s.coilsRight) : (answer f s).1.coilsRight := by
  unfold answer
  split
  · exact h
  · split
    · exact h
    · split
      · exact h
      · exact own_coils _ h

theorem serve_coils (f : InFrame) (h : s.coilsRight) : (serve f s).coilsRight := (answer_coils f h).mono rfl

theorem offerFrame_coils (f : InFrame) (h : s.coilsRight) : (offerFrame f s).coilsRight := by
  unfold offerFrame
  split
  · exact serve_coils f (h.mono (by simp))
  · exact h
  · exact h.mono (by simp)

theorem frameArrives_coils (f : InFrame) (h : s.coilsRight) : (frameArrives f s).coilsRight :=
  ite_coils (hostArrive_coils h) (offerFrame_coils f h)

theorem nextFrame_coils (h : s.coilsRight) : (nextFrame s).coilsRight := by
  unfold nextFrame
  split
  · exact serve_coils _ (h.mono (by simp))
  · exact h

/-- After a reset every contactor is OPEN and its coil off (R92). -/
theorem resetPart_coils (s : State) : (resetPart s).coilsRight := fun c hc => by
  have hreset : c = chanReset := List.eq_of_mem_replicate (n := 4) hc
  exact hreset ▸ chanReset_coilRight

theorem transmitEnds_coils (h : s.coilsRight) : (transmitEnds s).coilsRight := by
  unfold transmitEnds
  split
  · exact h
  · split
    · exact ite_coils (resetPart_coils _) (nextFrame_coils (h.mono (by simp)))
    all_goals exact h

theorem frameJudged_coils (h : s.coilsRight) : (frameJudged s).coilsRight := by
  unfold frameJudged
  split
  · refine ite_coils ?_ h
    dsimp only
    split
    · exact offerFrame_coils _ (h.mono (by simp))
    · exact h.mono (by simp)
  all_goals exact h

theorem rxCatchUp_coils (start : Time) (h : s.coilsRight) : (rxCatchUp start s).coilsRight := by
  unfold rxCatchUp
  split
  · exact h
  · exact h
  · exact ite_coils h (h.mono (by simp))
  · exact ite_coils (frameJudged_coils h) (ite_coils h (h.mono (by simp)))

theorem byteArrives_coils (b : Byte) (h : s.coilsRight) : (byteArrives b s).coilsRight :=
  ite_coils (hostArrive_coils h) ((rxCatchUp_coils (s.now - us 10) h).mono (by simp))

/-! ## Expiries and acceptances (R47, R94 to R107, R119, R186) -/

theorem overCurrentTaken_coils (h : s.coilsRight) : (overCurrentTaken s).coilsRight := by
  unfold overCurrentTaken
  extract_lets on _ s1
  have h1 : s1.coilsRight := h.mono (by simp [s1])
  exact ite_coils (ite_coils (applyTrip_coils _ _ h1) h1) h

theorem countDown_coils (k : Nat) (h : s.coilsRight) : (s.setChan k (s.chan k).countDown).coilsRight := setChan_coils_of_same h rfl rfl

theorem feedbackTaken_coils (k : Nat) (h : s.coilsRight) : (feedbackTaken k s).coilsRight := by
  have hacted := actOnFeedback_coils k (setChan_coils_of_same (k := k) (c := (s.chan k).accept) h rfl rfl)
  exact ite_coils (countDown_coils k (ite_coils (tellChannel_coils k hacted) hacted)) h

/-- At the end of PULL_IN the coil goes on in HOLD (R94). -/
theorem pullInTaken_coils (k : Nat) (h : s.coilsRight) : (pullInTaken k s).coilsRight := by
  unfold pullInTaken
  split
  · rename_i hdue
    rw [Bool.and_eq_true, beq_iff_eq, beq_iff_eq] at hdue
    obtain ⟨hcoil, -⟩ := hdue
    have hst := (h.chan k).1 (by simp [hcoil])
    exact setChan_coils h (Chan.coilRight_of_on nofun hst)
  · exact h

theorem makeMaxTaken_coils (k : Nat) (h : s.coilsRight) : (makeMaxTaken k s).coilsRight :=
  ite_coils (tellChannel_coils k (enterFault_coils k _ _ rfl h)) h

theorem breakMaxTaken_coils (k : Nat) (h : s.coilsRight) : (breakMaxTaken k s).coilsRight :=
  ite_coils (tellChannel_coils k (enterFault_coils k _ _ rfl h)) h

theorem settlingTaken_coils (k : Nat) (h : s.coilsRight) : (settlingTaken k s).coilsRight := by
  have hsettled : (s.setChan k { s.chan k with settling := none }).coilsRight := setChan_coils_of_same h rfl rfl
  exact ite_coils (ite_coils (tellChannel_coils k (enterFault_coils k _ _ rfl hsettled)) hsettled) h

theorem stepTimerTaken_coils (h : s.coilsRight) : (stepTimerTaken s).coilsRight := ite_coils (runnerTimer_coils h) h

theorem tamperTaken_coils (h : s.coilsRight) : (tamperTaken s).coilsRight := ite_coils (tamperAccept_coils (h.mono (by simp))) h

theorem takeEvent_coils {f : State → State} (hf : ∀ {x : State}, x.coilsRight → (f x).coilsRight) (due : Bool) (h : s.coilsRight) :
    (takeEvent due f s).coilsRight := ite_coils (finish_coils (hf h)) h

theorem takeEach_coils {f : Nat → State → State} (hf : ∀ i {x : State}, x.coilsRight → (f i x).coilsRight) (l : List Nat)
    (h : s.coilsRight) : (takeEach f l s).coilsRight := by
  induction l generalizing s with
  | nil => exact h
  | cons i rest ih => exact ih (hf i h)

theorem dueWork_coils (h : s.coilsRight) : (dueWork s).coilsRight := by
  unfold dueWork
  extract_lets s0 s1 s2 s3 s4 s5 s6 s7 s8 s9 s10 s11 s12
  have h0 : s0.coilsRight := takeEvent_coils id _ h
  have h1 : s1.coilsRight := takeEach_coils (fun i _ => takeEvent_coils (f := slotTaken i) (fun hx => hx.mono (by simp)) _) _ h0
  have h2 : s2.coilsRight := takeEach_coils (fun i _ => takeEvent_coils (f := freshnessTaken i) (fun hx => hx.mono (by simp)) _) _ h1
  have h3 : s3.coilsRight := takeEach_coils (fun i _ => takeEvent_coils (f := referenceTaken i) (fun hx => hx.mono (by simp)) _) _ h2
  have h4 : s4.coilsRight := takeEvent_coils overCurrentTaken_coils _ h3
  have h5 : s5.coilsRight := takeEach_coils (fun k _ => takeEvent_coils (feedbackTaken_coils k) _) _ h4
  have h6 : s6.coilsRight := takeEach_coils (fun k _ => takeEvent_coils (pullInTaken_coils k) _) _ h5
  have h7 : s7.coilsRight := takeEach_coils (fun k _ => takeEvent_coils (makeMaxTaken_coils k) _) _ h6
  have h8 : s8.coilsRight := takeEach_coils (fun k _ => takeEvent_coils (breakMaxTaken_coils k) _) _ h7
  have h9 : s9.coilsRight := takeEach_coils (fun k _ => takeEvent_coils (settlingTaken_coils k) _) _ h8
  have h10 : s10.coilsRight := takeEvent_coils stepTimerTaken_coils _ h9
  have h11 : s11.coilsRight := takeEvent_coils (f := sleepTimerTaken) (fun hx => hx.mono (by simp)) _ h10
  have h12 : s12.coilsRight := takeEvent_coils (fun hx => ite_coils (hx.mono (by simp)) (tamperTaken_coils hx)) _ h11
  exact takeEvent_coils frameJudged_coils _ h12

/-! ## The tick, the conversions and the NV engine's steps (R40 to R53, R110, R172) -/

/-- A tick of a channel leaves its coil, and an abandoned closing run finds it off in OPENING (R95, R101). -/
theorem tickChan_coils (k : Nat) (h : s.coilsRight) : (tickChan k s).coilsRight := by
  unfold tickChan
  extract_lets c c1 s1 s2
  have h1 : s1.coilsRight := setChan_coils_of_same h (Chan.sample_coil ..) (Chan.sample_st ..)
  have h2 : s2.coilsRight := by
    unfold s2
    split
    · rename_i habandoned
      obtain ⟨hopening, -, -⟩ : (s.chan k).st = .opening ∧ _ := habandoned
      have hst : (s1.chan k).st = .opening := by
        rw [chan_setChan_self (lt_length_of_st (by simp [hopening])), Chan.sample_st, hopening]
      exact tellChannel_coils k (enterOpenUntimed_coils h1 hst)
    · exact h1
  exact ite_coils h2 (countDown_coils k h2)

theorem tickDrivers_coils (h : s.coilsRight) : (tickDrivers s).coilsRight :=
  ite_coils h (tickChan_coils 3 (tickChan_coils 2 (tickChan_coils 1 (tickChan_coils 0 h))))

theorem tickWork_coils (feedback : BitVec 4) (tamper : Bool) (h : s.coilsRight) : (tickWork feedback tamper s).coilsRight :=
  (tickDrivers_coils (s := tickRunner (tickTime (s.setPins { feedback := feedback, tamper := tamper }))) (h.mono (by simp))).mono
    (by simp [tickWork])

theorem loseConversion_coils (h : s.coilsRight) : (loseConversion s).coilsRight := by
  unfold loseConversion
  extract_lets n _ s1 _ s2
  have h2 : s2.coilsRight := h.mono (by simp [s2, s1])
  exact ite_coils (ite_coils (anaReport_coils (h2.mono (by simp))) h2) (h.mono (by simp [s1]))

theorem sampleInstant_coils (h : s.coilsRight) : (sampleInstant s).coilsRight :=
  ite_coils (ite_coils (loseConversion_coils (h.mono (by simp))) (h.mono (by simp))) h

theorem arrival_coils (e : RingEntry) (h : s.coilsRight) : (arrival e s).coilsRight := by
  unfold arrival
  extract_lets s1 s2 s3
  have h2 : s2.coilsRight := completeIfAligned_coils (h.mono (by simp [s1]))
  have h3 : s3.coilsRight := ite_coils (runnerArrival_coils e h2) h2
  exact ite_coils (anaReport_coils (h3.mono (by simp))) h3

theorem deliver_coils (u : Time) (current : Int) (pack link : Nat) (h : s.coilsRight) : (deliver u current pack link s).coilsRight := by
  have hdue : (dueAtDelivery s).coilsRight := takeEvent_coils stepTimerTaken_coils _ (takeEvent_coils overCurrentTaken_coils _ h)
  exact ite_coils (arrival_coils _ (hdue.mono (by simp))) hdue

theorem deadlineTaken_coils (target : Option Nat) (h : s.coilsRight) : (deadlineTaken target s).coilsRight := by
  unfold deadlineTaken
  split
  · exact completeIfAligned_coils (h.mono (by simp))
  · exact h

@[simp] theorem wearDone_chans (st : NvStep) (s : State) : (wearDone st s).kdr.chans = s.kdr.chans := by
  unfold wearDone
  split <;> rfl

@[simp] theorem operationEnds_chans (f : NvFlight) (s : State) : (operationEnds f s).kdr.chans = s.kdr.chans := by
  unfold operationEnds
  dsimp only
  (repeat' split) <;> simp

theorem nvStepTaken_coils (h : s.coilsRight) : (nvStepTaken s).coilsRight := by
  unfold nvStepTaken
  dsimp only
  (repeat' split) <;> exact h.mono (by simp)

/-! ## The commands -/

/-- An event whose own effects keep the coils right keeps them so, since its end does. -/
theorem coils_of_finish {x : State} (h : x.coilsRight) (hx : Host.Outcome.next (finish x) = (.next t : Host.Outcome State Fault Refusal)) :
    t.coilsRight := Host.Outcome.next.inj hx ▸ finish_coils h

/-- Each command's meaning keeps the coils right: an event's by its own effects, a request's as the arrival of its frame. -/
theorem exec_coils {c : Instr} (h : s.coilsRight) (ht : exec c s = .next t) : t.coilsRight := by
  cases c with
  | powerOnReset => exact coils_of_finish (resetPart_coils s) ht
  | tick feedback tamper => exact coils_of_finish (tickWork_coils feedback tamper (dueWork_coils h)) ht
  | slotExpiry slot => exact coils_of_finish (h.mono (t := slotTaken slot s) (by simp)) ht
  | freshnessExpiry cell => exact coils_of_finish (h.mono (t := freshnessTaken cell s) (by simp)) ht
  | referenceExpiry cell => exact coils_of_finish (h.mono (t := referenceTaken cell s) (by simp)) ht
  | samplingInstant => exact coils_of_finish (sampleInstant_coils h) ht
  | conversionDelivered instant current pack link => exact coils_of_finish (deliver_coils instant current pack link h) ht
  | overCurrentRunComplete => exact coils_of_finish (overCurrentTaken_coils h) ht
  | alignDeadline target => exact coils_of_finish (deadlineTaken_coils target h) ht
  | sampleBroadcastSent => exact coils_of_finish (h.mono (t := broadcastSent s) (by simp)) ht
  | conversionWindowEnd => exact coils_of_finish (windowEnds_coils h) ht
  | chainReplyComplete bytes => exact coils_of_finish (chainReply_coils bytes h) ht
  | replyWindowEnd => exact coils_of_finish (replyWindowEnds_coils h) ht
  | chainPowerUpDone => exact coils_of_finish (chainUp_coils h) ht
  | feedbackAccepted channel => exact coils_of_finish (feedbackTaken_coils channel h) ht
  | pullInEnd channel => exact coils_of_finish (pullInTaken_coils channel h) ht
  | makeMaxExpiry channel => exact coils_of_finish (makeMaxTaken_coils channel h) ht
  | breakMaxExpiry channel => exact coils_of_finish (breakMaxTaken_coils channel h) ht
  | settlingEnd channel => exact coils_of_finish (settlingTaken_coils channel h) ht
  | stepTimerExpiry => exact coils_of_finish (stepTimerTaken_coils h) ht
  | sleepTimerExpiry => exact coils_of_finish (h.mono (t := sleepTimerTaken s) (by simp)) ht
  | hostArrival => exact coils_of_finish (hostArrive_coils h) ht
  | wakePulseEnd => exact coils_of_finish (h.mono (t := wakePulseEnds s) (by simp)) ht
  | nvStepComplete => exact coils_of_finish (nvStepTaken_coils h) ht
  | verificationComplete => exact coils_of_finish (h.mono (t := verified s) (by simp)) ht
  | tamperAccepted => exact coils_of_finish (tamperTaken_coils h) ht
  | tamperReleaseAccepted => exact coils_of_finish (h.mono (t := tamperReleaseTaken s) (by simp)) ht
  | receiverIdleWaitEnd => exact coils_of_finish (h.mono (t := idleWaitEnds s) (by simp)) ht
  | frameGapTimeout => exact coils_of_finish (h.mono (t := gapEnds s) (by simp)) ht
  | frameComplete => exact coils_of_finish (frameJudged_coils h) ht
  | unknownRequest type tag payload => exact coils_of_finish (frameArrives_coils _ h) ht
  | transmitFrameEnd => exact coils_of_finish (transmitEnds_coils h) ht
  | linkByteReceived byte => exact coils_of_finish (byteArrives_coils byte h) ht
  | _ => exact coils_of_finish (frameArrives_coils _ h) ht

end

/-- Settles O4: a command from the queue keeps the coils right by `exec_coils`, the idle step by what is due and the passing of time. -/
theorem coilsStayRight : Obligations.CoilsStayRight := by
  intro s t h hstep
  unfold step at hstep
  split at hstep
  · rw [← Host.Outcome.next.inj hstep]
    exact (dueWork_coils h).mono (t := passTime (dueWork s)) (by simp)
  · rename_i c rest _
    exact exec_coils (s := s.setPending rest) h hstep

end Sys2Proof.Machine
end

section
/-! SUPPORT. The requests of the contactor drivers (R110 to R112), the reports of the runner and the profile store (R132, R190), and the
state after reset. -/
namespace Sys2Proof.Machine

/-! ## CLEAR_CONTACTOR_FAULT (R111) -/

section
variable {s : State} {channel : Byte}

theorem ownClearContactorFault_of_running (hrun : s.seq.run.isSome = true) :
    ownClearContactorFault channel s = (s, plain .busy) := if_pos hrun

theorem ownClearContactorFault_of_sound (hrun : s.seq.run = none)
    (h : 4 ≤ channel.toNat ∨ ¬ (s.chan channel.toNat).st.faulted = true) :
    ownClearContactorFault channel s = (s, plain .badArgument) := by
  rw [ownClearContactorFault, if_neg (by simp [hrun]), if_pos (by simpa using h)]
  rfl

theorem ownClearContactorFault_of_closed (hrun : s.seq.run = none) (hk : channel.toNat < 4)
    (hst : (s.chan channel.toNat).st.faulted = true) (hfb : (s.chan channel.toNat).closedFb = true) :
    ownClearContactorFault channel s = (s, plain .notReady) := by
  rw [ownClearContactorFault, if_neg (by simp [hrun]), if_neg (by simp [hk, hst]), if_pos hfb]
  rfl

theorem ownClearContactorFault_of_open (hrun : s.seq.run = none) (hk : channel.toNat < 4)
    (hst : (s.chan channel.toNat).st.faulted = true) (hfb : (s.chan channel.toNat).closedFb = false) :
    ownClearContactorFault channel s = (handOn channel.toNat (s.chan channel.toNat).st .opened noTimes false s.tim.packTime
      (s.setChan channel.toNat { s.chan channel.toNat with st := .opened }), plain .ok) := by
  rw [ownClearContactorFault, if_neg (by simp [hrun]), if_neg (by simp [hk, hst]), if_neg (by simp [hfb])]
  rfl

end

/-- Settles O21: each of the four checks by the lemma of the part that it stops; past them the transition is handed on. -/
theorem clearContactorFaultChecks : Obligations.ClearContactorFaultChecks := by
  intro s tag channel hs r h k c faulted
  have hfaulted : c.st.faulted = true ↔ faulted := KState.faulted_iff c.st
  refine ⟨fun hrun => ?_, fun hrun hno => ?_, fun hrun hk hst hfb => ?_, fun hrun hk hst hfb => ?_⟩ <;>
    refine request_of_serving (r := r) hs rfl ?_
  · exact ownClearContactorFault_of_running hrun
  · exact ownClearContactorFault_of_sound hrun (hno.imp_right (mt hfaulted.1))
  · exact ownClearContactorFault_of_closed hrun hk (hfaulted.2 hst) hfb
  · exact ownClearContactorFault_of_open hrun hk (hfaulted.2 hst) hfb

/-! ## SAVE_WEAR (R110, R171) -/

section
variable {s : State}

theorem ownSaveWear_of_queued (h : s.kdr.wearSave = .queued) : ownSaveWear s = (s, plain .accepted) := by
  rw [ownSaveWear, requestWear, if_pos h]

theorem ownSaveWear_of_room (h : s.kdr.wearSave ≠ .queued) (hq : NvOp.wearSave ∉ s.nvs.queue) (hroom : s.nvs.queue.length < 4) :
    ownSaveWear s = ((s.setNvs { s.nvs with queue := s.nvs.queue ++ [.wearSave] }).setKdr { s.kdr with wearSave := .queued },
      plain .accepted) := by
  have hoffer : offerOp .wearSave s = some (s.setNvs { s.nvs with queue := s.nvs.queue ++ [.wearSave] }) := by
    rw [offerOp, if_neg (by simp [hq]), if_pos (show _ < NvOp.wearSave.room from hroom)]
  rw [ownSaveWear, requestWear, if_neg h, hoffer]
  rfl

theorem ownSaveWear_of_full (h : s.kdr.wearSave ≠ .queued) (hq : NvOp.wearSave ∉ s.nvs.queue) (hfull : 4 ≤ s.nvs.queue.length) :
    ownSaveWear s = (s, plain .busy) := by
  have hoffer : offerOp .wearSave s = none := by
    rw [offerOp, if_neg (by simp [hq]), if_neg (show ¬ _ < NvOp.wearSave.room from Nat.not_lt.2 hfull)]
  rw [ownSaveWear, requestWear, if_neg h, hoffer]
  rfl

end

/-- Settles O20: the wear-save state, then the queue's room, choose the answer. -/
theorem saveWearQueuesOnce : Obligations.SaveWearQueuesOnce := by
  intro s tag hs h
  exact ⟨fun hw => request_of_serving (r := .saveWear) hs rfl (ownSaveWear_of_queued hw),
    fun hw hq hroom => request_of_serving (r := .saveWear) hs rfl (ownSaveWear_of_room hw hq hroom),
    fun hw hq hfull => request_of_serving (r := .saveWear) hs rfl (ownSaveWear_of_full hw hq hfull)⟩

/-! ## Reports (R112, R132, R190) -/

/-- The step in progress is the one that the run's number and index name (R132). -/
theorem runView_eq (s : State) :
    (s.seq.run.map fun r => ({ run := r, step := s.currentStep } : RunView))
      = s.seq.run.map fun r => { run := r, step := (s.sequence r.id)[r.idx]? } := by
  unfold State.currentStep
  cases s.seq.run <;> rfl

/-- Settles O14: each rule of the three is an OK with fields of the part as it stands; the runner's names its step by its run. -/
theorem reportsOfContactorsRunnerProfile : Obligations.ReportsOfContactorsRunnerProfile := by
  intro s tag hs bank
  refine ⟨report_of_serving (r := .readContactors) hs rfl rfl, report_of_serving (r := .readRunner) hs rfl ?_,
    report_of_serving (r := .readProfileInfo) hs rfl rfl⟩
  show okWith (.runner (s.seq.run.map fun r => { run := r, step := s.currentStep }) s.seq.last (failingTerms s)) _ = _
  rw [runView_eq]
  rfl

/-! ## The state after reset (R92, R142, R178, R84) -/

/-- A reset of the part after reset leaves it as it is. -/
theorem resetPart_reset : resetPart State.reset = State.reset := rfl

/-- Settles O3: a reset leaves every state with the invariants, and the state after reset is what a reset makes of it. -/
theorem resetStateHasTheInvariants : Obligations.ResetStateHasTheInvariants := by
  have hcoils := resetPart_coils State.reset
  have hsized := resetPart_sized State.reset
  have hshows := (showsBut_nil_iff _).1 (resetPart_shows State.reset)
  rw [resetPart_reset] at hcoils hsized hshows
  exact ⟨hcoils, ⟨Nat.zero_le _, Nat.zero_le _, trivial⟩, hsized, hshows⟩

end Sys2Proof.Machine
end

section
/-! SUPPORT. What an accepted feedback and the ends of a channel's countdowns make of its contactor (R94 to R107). -/
namespace Sys2Proof.Machine

/-- An event comes to the end of what its own effects come to. -/
theorem event_congr {f : State → State} {s t : State} (h : f s = t) : event f s = .next (finish t) := by rw [event, h]

section
variable {s : State} {k : Nat}

/-! ## An accepted feedback, by the state of the contactor (R97 to R99, R101, R103) -/

/-- The part with an accepted change of channel k taken into the channel (R95). -/
def State.accepted (s : State) (k : Nat) : State := s.setChan k (s.chan k).accept

theorem chan_accepted (hk : k < s.kdr.chans.length) : (s.accepted k).chan k = (s.chan k).accept := chan_setChan_self hk _

theorem accepted_setChan (s : State) (k : Nat) (c : Chan) : (s.accepted k).setChan k c = s.setChan k c := setChan_setChan ..

theorem actOnFeedback_of_make (hk : k < s.kdr.chans.length) (huse : s.inUse k = true) (hst : (s.chan k).st = .closing)
    (hfb : (s.chan k).closedFb = false) :
    actOnFeedback k (s.accepted k) =
      let mk := measured ((s.chan k).edge + us 2000) (s.chan k).energizeAt
      (handOn k .closing .closed { make := some mk, brk := none } false (s.chan k).edge (occurrence .contactorClosed
        (s.setChan k { (s.chan k).accept with
          st := .closed, superv := none, lastMake := some mk, closes := min maxCount ((s.chan k).closes + 1) })), true) := by
  have huse' : (s.accepted k).inUse k = true := huse
  simp only [actOnFeedback, huse', chan_accepted hk, accepted_setChan, Chan.accept, hst, hfb, Bool.not_true, Bool.not_false,
    Bool.false_eq_true, if_false]

theorem actOnFeedback_of_dropout (hk : k < s.kdr.chans.length) (huse : s.inUse k = true) (hst : (s.chan k).st = .closed)
    (hfb : (s.chan k).closedFb = true) :
    actOnFeedback k (s.accepted k) = (handOn k .closed .dropout noTimes false (s.chan k).edge
      (s.setChan k { (s.chan k).accept with
        st := .dropout, coil := .off, releaseAt := s.tim.packTime, pullIn := none, superv := none, settling := none }), true) := by
  have huse' : (s.accepted k).inUse k = true := huse
  have hst' : ((s.accepted k).chan k).st = .closed := by rw [chan_accepted hk]; exact hst
  have hfault := enterFault_of_energized hst' (.inr rfl) .dropout false (s.chan k).edge
  rw [chan_accepted hk, accepted_setChan] at hfault
  simp only [actOnFeedback, huse', chan_accepted hk, Chan.accept, hst, hfb, Bool.not_true, Bool.false_eq_true, if_false, hfault]
  rfl

theorem actOnFeedback_of_break (hk : k < s.kdr.chans.length) (huse : s.inUse k = true) (hst : (s.chan k).st = .opening)
    (hfb : (s.chan k).closedFb = true) :
    actOnFeedback k (s.accepted k) =
      let br := measured ((s.chan k).edge + us 2000) (s.chan k).releaseAt
      (handOn k .opening .opened { make := none, brk := some br } (s.chan k).underLoad (s.chan k).edge
        (s.setChan k { (s.chan k).accept with st := .opened, superv := none, lastBreak := some br }), true) := by
  have huse' : (s.accepted k).inUse k = true := huse
  simp only [actOnFeedback, huse', chan_accepted hk, accepted_setChan, Chan.accept, hst, hfb, Bool.not_true, Bool.false_eq_true, if_false]

theorem actOnFeedback_of_weld (hk : k < s.kdr.chans.length) (huse : s.inUse k = true) (hst : (s.chan k).st = .opened)
    (hfb : (s.chan k).closedFb = false) (hset : (s.chan k).settling = none) :
    actOnFeedback k (s.accepted k) = (handOn k .opened .weldSuspect noTimes false (s.chan k).edge
      (s.setChan k { (s.chan k).accept with st := .weldSuspect, pullIn := none, superv := none, settling := none }), true) := by
  have huse' : (s.accepted k).inUse k = true := huse
  have hst' : ((s.accepted k).chan k).st = .opened := by rw [chan_accepted hk]; exact hst
  have hfault := enterFault_of_released hst' nofun nofun .weldSuspect false (s.chan k).edge
  rw [chan_accepted hk, accepted_setChan] at hfault
  simp only [actOnFeedback, huse', chan_accepted hk, Chan.accept, hst, hfb, hset, Option.isSome_none, Bool.not_true, Bool.not_false,
    Bool.false_eq_true, if_false, hfault]

/-- A change that answers to no expectation of the state, or on a channel not in use, moves nothing. -/
theorem actOnFeedback_of_level (hk : k < s.kdr.chans.length)
    (h : s.inUse k = false ∨ ((s.chan k).st = .closing ∧ (s.chan k).closedFb = true)
      ∨ ((s.chan k).st = .closed ∧ (s.chan k).closedFb = false) ∨ ((s.chan k).st = .opening ∧ (s.chan k).closedFb = false)
      ∨ ((s.chan k).st = .opened ∧ ((s.chan k).closedFb = true ∨ (s.chan k).settling.isSome = true))
      ∨ (s.chan k).st = .closeFailed ∨ (s.chan k).st = .dropout ∨ (s.chan k).st = .weldSuspect) :
    actOnFeedback k (s.accepted k) = (s.accepted k, false) := by
  have huse' : (s.accepted k).inUse k = s.inUse k := rfl
  simp only [actOnFeedback, huse', chan_accepted hk, Chan.accept]
  rcases h with huse | ⟨hst, hfb⟩ | ⟨hst, hfb⟩ | ⟨hst, hfb⟩ | ⟨hst, hfb | hset⟩ | hst | hst | hst
  · simp [huse]
  · simp [hst, hfb]
  · simp [hst, hfb]
  · simp [hst, hfb]
  · simp [hst, hfb]
  · cases (s.chan k).closedFb <;> simp [hst, hset]
  all_goals simp [hst]

/-! ## The event of an accepted feedback (R95, log 19) -/

/-- A transition that the channel makes is told to the runner, and then the channel's countdowns go down. -/
theorem feedbackTaken_of_told {x : State} (hsup : s.kdr.suspended = false) (hdue : (s.chan k).acceptDue = true)
    (hact : actOnFeedback k (s.accepted k) = (x, true)) {st : KState} (hst : (x.chan k).st = st) :
    feedbackTaken k s = (runnerReport k st x).setChan k ((runnerReport k st x).chan k).countDown := by
  have htaken : ((s.chan k).acceptDue && !s.kdr.suspended) = true := by simp [hsup, hdue]
  rw [feedbackTaken, if_pos htaken, ← State.accepted, hact]
  dsimp only
  rw [if_pos rfl, tellChannel_of_st hst]

/-- Of a change that moves nothing the level is all, with the channel's countdowns. -/
theorem feedbackTaken_of_level (hk : k < s.kdr.chans.length) (hsup : s.kdr.suspended = false) (hdue : (s.chan k).acceptDue = true)
    (hact : actOnFeedback k (s.accepted k) = (s.accepted k, false)) :
    feedbackTaken k s = s.setChan k (s.chan k).accept.countDown := by
  have htaken : ((s.chan k).acceptDue && !s.kdr.suspended) = true := by simp [hsup, hdue]
  rw [feedbackTaken, if_pos htaken, ← State.accepted, hact]
  dsimp only
  rw [if_neg Bool.false_ne_true, chan_accepted hk, accepted_setChan]

/-! ## A closing run that is abandoned in OPENING (R101) -/

theorem tickChan_of_abandoned (hk : k < s.kdr.chans.length) (hst : (s.chan k).st = .opening) (hfb : (s.chan k).closedFb = false)
    (hdeb : 0 < (s.chan k).debounce)
    (hopen : readFeedback (s.chanCfg k).polarity (s.pins.feedback.getLsbD k) = false) :
    let x := runnerReport k .opened (handOn k .opening .opened noTimes (s.chan k).underLoad s.tim.packTime
      (s.setChan k { s.chan k with st := .opened, superv := none, debounce := 0, acceptDue := false }))
    tickChan k s = x.setChan k (x.chan k).countDown := by
  intro x
  have hsample : (s.chan k).sample false s.now = { s.chan k with debounce := 0, acceptDue := false } := if_pos hfb.symm
  have hchange : (s.chan k).closingChange = true := by simp [Chan.closingChange, hfb, hdeb]
  have hopened : enterOpenUntimed k (s.setChan k { s.chan k with debounce := 0, acceptDue := false })
      = handOn k .opening .opened noTimes (s.chan k).underLoad s.tim.packTime
        (s.setChan k { s.chan k with st := .opened, superv := none, debounce := 0, acceptDue := false }) := by
    rw [enterOpenUntimed, chan_setChan_self hk, setChan_setChan]
    rfl
  rw [tickChan, hopen, hsample]
  dsimp only
  rw [if_pos (show _ ∧ _ ∧ 0 = 0 from ⟨hst, hchange, rfl⟩), if_neg Bool.false_ne_true, hopened,
    tellChannel_of_st (x := .opened) (by rw [chan_handOn, chan_setChan_self hk])]

end

/-- Settles O48: the state, the accepted level and the settling choose the lemma of the change; a level alone moves nothing. -/
theorem acceptedFeedbackMovesTheContactor : Obligations.AcceptedFeedbackMovesTheContactor := by
  refine ⟨fun s k hsup hdue hk => ?_, fun s k hk => ?_⟩
  · intro c a at_ mk br ends
    have hends : ∀ {x : State} (st : KState), actOnFeedback k (s.accepted k) = (x, true) → (x.chan k).st = st →
        exec (.feedbackAccepted k) s = ends (runnerReport k st x) := fun _ hact hst =>
      event_congr (feedbackTaken_of_told hsup hdue hact hst)
    refine ⟨fun huse => ⟨fun hst hfb => ?_, fun hst hfb => ?_, fun hst hfb => ?_, fun hst hfb hset => ?_⟩, fun hlevel => ?_⟩
    · exact hends .closed (actOnFeedback_of_make hk huse hst hfb) (by simp [chan_setChan_self hk])
    · exact hends .dropout (actOnFeedback_of_dropout hk huse hst hfb) (by simp [chan_setChan_self hk])
    · exact hends .opened (actOnFeedback_of_break hk huse hst hfb) (by simp [chan_setChan_self hk])
    · exact hends .weldSuspect (actOnFeedback_of_weld hk huse hst hfb hset) (by simp [chan_setChan_self hk])
    · refine event_congr ?_
      rw [feedbackTaken_of_level hk hsup hdue (actOnFeedback_of_level hk hlevel), Chan.countDown_eq]
      rfl
  · intro c closed hst hfb hdeb hopen
    refine tickChan_of_abandoned hk hst hfb hdeb ?_
    rw [← hopen]
    cases hp : (s.chanCfg k).polarity <;> simp [readFeedback, closed, hp]

/-! ## The ends of the countdowns (R94, R97, R101, R103, R107) -/

section
variable {s : State} {k : Nat}

theorem pullInTaken_of_due (hcoil : (s.chan k).coil = .pullIn) (hzero : (s.chan k).pullIn = some 0) :
    pullInTaken k s = s.setChan k { s.chan k with coil := .hold, pullIn := none } := if_pos (by simp [hcoil, hzero])

theorem makeMaxTaken_of_due (hst : (s.chan k).st = .closing) (hzero : (s.chan k).superv = some 0) :
    makeMaxTaken k s = runnerReport k .closeFailed (handOn k .closing .closeFailed noTimes false s.tim.packTime
      (s.setChan k { s.chan k with
        st := .closeFailed, coil := .off, releaseAt := s.tim.packTime, pullIn := none, superv := none, settling := none })) := by
  have hfault := enterFault_of_energized hst (.inl rfl) .closeFailed false s.tim.packTime
  rw [makeMaxTaken, if_pos (by simp [hst, hzero])]
  exact (congrArg _ hfault).trans (tellChannel_of_handOn (lt_length_of_st (by simp [hst])) rfl)

theorem breakMaxTaken_of_due (hst : (s.chan k).st = .opening) (hzero : (s.chan k).superv = some 0) :
    breakMaxTaken k s = runnerReport k .weldSuspect
      (handOn k .opening .weldSuspect noTimes (s.chan k).underLoad s.tim.packTime
        (s.setChan k { s.chan k with st := .weldSuspect, pullIn := none, superv := none, settling := none })) := by
  have hfault := enterFault_of_released hst nofun nofun .weldSuspect (s.chan k).underLoad s.tim.packTime
  rw [breakMaxTaken, if_pos (by simp [hst, hzero])]
  exact (congrArg _ hfault).trans (tellChannel_of_handOn (lt_length_of_st (by simp [hst])) rfl)

theorem settlingTaken_of_weld (hk : k < s.kdr.chans.length) (hzero : (s.chan k).settling = some 0) (huse : s.inUse k = true)
    (hfb : (s.chan k).closedFb = true) (hst : (s.chan k).st = .opened) :
    settlingTaken k s = runnerReport k .weldSuspect (handOn k .opened .weldSuspect noTimes false s.tim.packTime
      (s.setChan k { s.chan k with st := .weldSuspect, pullIn := none, superv := none, settling := none })) := by
  have hsettled := chan_setChan_self hk { s.chan k with settling := none }
  have hst' : ((s.setChan k { s.chan k with settling := none }).chan k).st = .opened := by rw [hsettled]; exact hst
  have hfault := enterFault_of_released hst' nofun nofun .weldSuspect false s.tim.packTime
  rw [hsettled, setChan_setChan] at hfault
  rw [settlingTaken, if_pos (by simp [hzero])]
  dsimp only
  rw [if_pos (by simp [huse, hfb, hst])]
  exact (congrArg _ hfault).trans (tellChannel_of_handOn hk rfl)

theorem settlingTaken_of_settled (hzero : (s.chan k).settling = some 0)
    (h : s.inUse k = false ∨ (s.chan k).closedFb = false ∨ (s.chan k).st ≠ .opened) :
    settlingTaken k s = s.setChan k { s.chan k with settling := none } := by
  rw [settlingTaken, if_pos (by simp [hzero])]
  exact if_neg (by rcases h with h | h | h <;> simp [h])

end

/-- Settles O49: each countdown's end by its lemma. -/
theorem channelCountdownsEnd : Obligations.ChannelCountdownsEnd := fun _ _ hk =>
  ⟨fun hcoil hzero => event_congr (pullInTaken_of_due hcoil hzero), fun hst hzero => event_congr (makeMaxTaken_of_due hst hzero),
    fun hst hzero => event_congr (breakMaxTaken_of_due hst hzero),
    fun hzero huse hfb hst => event_congr (settlingTaken_of_weld hk hzero huse hfb hst),
    fun hzero h => event_congr (settlingTaken_of_settled hzero h)⟩

end Sys2Proof.Machine
end

section
/-! SUPPORT. The end of a sequence without success, with the open command to every channel (R96, R100 to R105, R128). -/
namespace Sys2Proof.Machine

section
variable {s : State} {k j : Nat}

/-! ## An open command to every channel (R96, R128) -/

theorem chan_released_of_ne (hjk : j ≠ k) (hard : Bool) : (s.released k hard).chan j = s.chan j := by
  cases hard <;> simp [State.released, chan_setChan_of_ne hjk]

theorem chan_enterOpenUntimed_of_ne (hjk : j ≠ k) : (enterOpenUntimed k s).chan j = s.chan j := by
  rw [enterOpenUntimed, chan_handOn, chan_setChan_of_ne hjk]

/-- A command to one channel leaves the others. -/
theorem chan_openCmd_of_ne (hjk : j ≠ k) : (openCmd k s).chan j = s.chan j := by
  rcases openCmd_cases k s with e | ⟨-, e | e⟩ <;> rw [e]
  · exact chan_released_of_ne hjk _
  · rw [chan_enterOpenUntimed_of_ne hjk, chan_released_of_ne hjk]

/-- An in-use contactor is in neither CLOSING nor CLOSED after an open command. -/
theorem openCmd_opens (huse : s.inUse k = true) : ((openCmd k s).chan k).st ≠ .closing ∧ ((openCmd k s).chan k).st ≠ .closed := by
  by_cases hst : (s.chan k).st = .closing ∨ (s.chan k).st = .closed
  · have hk : k < s.kdr.chans.length := lt_length_of_st (by rcases hst with e | e <;> simp [e])
    rw [openCmd_of_taken huse hst]
    split
    · rw [enterOpenUntimed_released hk, chan_handOn, chan_setChan, chan_released hk]
      split <;> exact ⟨nofun, nofun⟩
    · rw [chan_released hk]
      exact ⟨nofun, nofun⟩
  · rw [openCmd_of_not (.inr (not_or.1 hst))]
    exact not_or.1 hst

theorem inUse_openCmd (s : State) (j k : Nat) : (openCmd k s).inUse j = s.inUse j := by simp [State.inUse, State.chanCfg]

/-- Each of the four in-use contactors is opened by its own command, and the others leave it. -/
theorem openEvery_opens (hk : k < 4) (huse : s.inUse k = true) :
    ((openEvery s).chan k).st ≠ .closing ∧ ((openEvery s).chan k).st ≠ .closed := by
  have hopens : ∀ x : State, x.inUse k = s.inUse k → ((openCmd k x).chan k).st ≠ .closing ∧ ((openCmd k x).chan k).st ≠ .closed :=
    fun x hx => openCmd_opens (hx.trans huse)
  unfold openEvery
  match k, hk with
  | 0, _ =>
    rw [chan_openCmd_of_ne (by decide), chan_openCmd_of_ne (by decide), chan_openCmd_of_ne (by decide)]
    exact hopens s rfl
  | 1, _ =>
    rw [chan_openCmd_of_ne (by decide), chan_openCmd_of_ne (by decide)]
    exact hopens _ (by simp [inUse_openCmd])
  | 2, _ =>
    rw [chan_openCmd_of_ne (by decide)]
    exact hopens _ (by simp [inUse_openCmd])
  | 3, _ => exact hopens _ (by simp [inUse_openCmd])

/-! ## An open command, by the newest entry and the feedback (R101, R102) -/

theorem openCmd_of_waiting (huse : s.inUse k = true) (hst : (s.chan k).st = .closing ∨ (s.chan k).st = .closed)
    (hfree : ¬ ((s.chan k).closedFb = false ∧ (s.chan k).debounce = 0)) : openCmd k s = s.released k (s.breaksHard k) := by
  rw [openCmd_of_taken huse hst, if_neg hfree]

theorem openCmd_of_free (huse : s.inUse k = true) (hst : (s.chan k).st = .closing ∨ (s.chan k).st = .closed)
    (hfree : (s.chan k).closedFb = false ∧ (s.chan k).debounce = 0) :
    openCmd k s = handOn k .opening .opened noTimes (s.breaksHard k) s.tim.packTime
      ((s.released k (s.breaksHard k)).setChan k { s.opening k (s.breaksHard k) with st := .opened, superv := none }) := by
  rw [openCmd_of_taken huse hst, if_pos hfree,
    enterOpenUntimed_released (lt_length_of_st (by rcases hst with e | e <;> simp [e]))]

/-! ## The withdrawal of an event request (R8) -/

theorem withdrawEvent_of_pending {m : ModMask} (h : s.sch.pendEvent = some m) :
    withdrawEvent s = s.setSch { s.sch with pendEvent := none } := if_pos (by simp [h])

theorem withdrawEvent_of_granted {w : SweepRec} (h : s.sch.pendEvent = none) (hw : s.sch.sweep = some w) (hsrc : w.source = .event)
    (hst : w.stage ≠ .done) : withdrawEvent s = s.setSch { s.sch with sweep := some { w with unreported := true } } := by
  rw [withdrawEvent, if_neg (by simp [h]), hw]
  exact if_pos ⟨hsrc, hst⟩

theorem withdrawEvent_of_neither (h : s.sch.pendEvent = none)
    (hw : ∀ w, s.sch.sweep = some w → w.source ≠ .event ∨ w.stage = .done) : withdrawEvent s = s := by
  rw [withdrawEvent, if_neg (by simp [h])]
  cases hsw : s.sch.sweep with
  | none => rfl
  | some w => exact if_neg fun ⟨hsrc, hst⟩ => (hw w hsw).elim (· hsrc) hst

/-! ## The end of a sequence without success (R128) -/

/-- What is left to be done of the end of a run when its contactors have been commanded open and its event request withdrawn: the record,
the counter, the condition and the outcome (R128). -/
def runFailed (r : Run) (t : Time) (reason : SeqReason) (terms : List GateTerm) (u : State) : State :=
  (setCond .seqFailed (occurrence .seqFailed (offerRecord true (.sequence r.id (some (r.idx, reason)) t) u))).setSeq
    { run := none, last := some (.failed r.id t r.idx reason terms) }

theorem endSequence_eq {r : Run} (hr : s.seq.run = some r) (reason : SeqReason) (terms : List GateTerm) :
    endSequence reason terms s
      = runFailed r s.tim.packTime reason terms (if r.eventReq then withdrawEvent (openEvery s) else openEvery s) := by
  have hnow : (if r.eventReq then withdrawEvent (openEvery s) else openEvery s).now = s.tim.packTime := by
    split <;> simp [State.now]
  have hnow' : ∀ u : State, u.now = s.tim.packTime → ∀ body,
      (setCond .seqFailed (occurrence .seqFailed (offerRecord true body u))).now = s.tim.packTime := fun u hu body => by
    simpa [State.now] using hu
  simp only [endSequence, hr, hnow, hnow' _ hnow, runFailed]

@[simp] theorem runFailed_frame (r : Run) (t : Time) (reason : SeqReason) (terms : List GateTerm) (u : State) :
    (runFailed r t reason terms u).seq = { run := none, last := some (.failed r.id t r.idx reason terms) }
    ∧ (runFailed r t reason terms u).kdr = u.kdr ∧ (runFailed r t reason terms u).tim = u.tim
    ∧ (runFailed r t reason terms u).cells = u.cells ∧ (runFailed r t reason terms u).chn = u.chn := by
  simp [runFailed]

theorem runFailed_condSet (r : Run) (t : Time) (reason : SeqReason) (terms : List GateTerm) (u : State) :
    (runFailed r t reason terms u).condSet .seqFailed = true := by
  show (setCond .seqFailed _).condSet .seqFailed = true
  simp [condSet_setCond]

/-- The withdrawal of a request is the scheduler's alone. -/
theorem ite_withdrawEvent_keeps (p : Prop) [Decidable p] (s : State) :
    (if p then withdrawEvent s else s).kdr = s.kdr ∧ (if p then withdrawEvent s else s).tim = s.tim
    ∧ (if p then withdrawEvent s else s).cells = s.cells ∧ (if p then withdrawEvent s else s).chn = s.chn := by
  split <;> simp

theorem endSequence_leaves {r : Run} (hr : s.seq.run = some r) (reason : SeqReason) (terms : List GateTerm) :
    (endSequence reason terms s).seq = { run := none, last := some (.failed r.id s.tim.packTime r.idx reason terms) }
    ∧ (endSequence reason terms s).condSet .seqFailed = true ∧ (endSequence reason terms s).kdr = (openEvery s).kdr
    ∧ (endSequence reason terms s).tim = s.tim ∧ (endSequence reason terms s).cells = s.cells
    ∧ (endSequence reason terms s).chn = s.chn := by
  obtain ⟨hkdr, htim, hcells, hchn⟩ := ite_withdrawEvent_keeps (r.eventReq = true) (openEvery s)
  rw [endSequence_eq hr]
  simp only [runFailed_frame, runFailed_condSet, hkdr, htim, hcells, hchn, openEvery_frame, and_self]

end

/-- Settles O50: the four commands by the channel each leaves alone, the end of a run by `endSequence_eq` and the request it withdraws,
the open command by its two tests, and a transition by `handOn_eq`. -/
theorem endingASequenceOpensTheContactors : Obligations.EndingASequenceOpensTheContactors := by
  refine ⟨fun s k hk _ huse => openEvery_opens hk huse, fun s r reason terms hr => ?_, fun s k => ?_,
    fun s k left entered times hard instant => ?_⟩
  · intro t o ends
    have hends : ∀ u, (if r.eventReq then withdrawEvent (openEvery s) else openEvery s) = u → ends u := fun u hu =>
      (endSequence_eq hr reason terms).trans (by rw [hu]; rfl)
    have hsch : (openEvery s).sch = s.sch := by simp
    have hwithdrawn : r.eventReq = true → ∀ u, withdrawEvent (openEvery s) = u → ends u := fun hreq u hu =>
      hends u (by rw [if_pos hreq, hu])
    refine ⟨fun hreq => hends o (if_neg (by simp [hreq])),
      fun hreq => ⟨fun m hm => ?_, fun w hnone hw hsrc hst => ?_, fun hnone hw => ?_⟩, ?_⟩
    · refine hwithdrawn hreq _ ?_
      rw [withdrawEvent_of_pending (m := m) (by rw [hsch, hm]), hsch]
      rfl
    · refine hwithdrawn hreq _ ?_
      rw [withdrawEvent_of_granted (w := w) (by rw [hsch, hnone]) (by rw [hsch, hw]) hsrc hst, hsch]
      rfl
    · refine hwithdrawn hreq _ ?_
      rw [withdrawEvent_of_neither (by rw [hsch, hnone]) (by rw [hsch]; exact hw)]
      rfl
    · exact endSequence_leaves hr reason terms
  · intro c
    refine ⟨closeCmd_of_open, closeCmd_of_not, openCmd_of_not, fun huse hk hst => ?_⟩
    intro hard rel loaded atOnce free
    have hhard : s.breaksHard k = true ↔ hard := breaksHard_iff s k
    have hyes : hard → s.breaksHard k = true := hhard.2
    have hno : ¬ hard → s.breaksHard k = false := fun h => by simpa using mt hhard.1 h
    refine ⟨fun h hfree => ?_, fun h hfree => ?_, fun h hfree => ?_, fun h hfree => ?_⟩
    · rw [openCmd_of_waiting huse hst hfree, hyes h]
      rfl
    · rw [openCmd_of_free huse hst hfree, hyes h]
      rfl
    · rw [openCmd_of_waiting huse hst hfree, hno h]
      rfl
    · rw [openCmd_of_free huse hst hfree, hno h]
      rfl
  · intro fault told
    have hclass : decide fault = entered.faulted := Bool.eq_iff_iff.2 (decide_eq_true_iff.trans (KState.faulted_iff entered).symm)
    have hany : s.anyFaulted = s.kdr.chans.any fun c => c.st == .closeFailed || c.st == .dropout || c.st == .weldSuspect := by
      simp only [State.anyFaulted, KState.faulted_eq]
    rw [handOn_eq, ← hclass, hany]

end Sys2Proof.Machine
end

section
/-! SUPPORT. The requests of the sequence runner and the closing gate, term by term (R116, R117, R129). -/
namespace Sys2Proof.Machine

/-! ## The closing gate (R117) -/

section
variable {s : State}

theorem gatePasses_allFresh_iff : gatePasses s .allFresh = true ↔ ∀ c ∈ s.populated, c.fresh = true := List.all_eq_true

theorem gatePasses_noBreach_iff : gatePasses s .noBreach = true ↔ ∀ c ∈ s.populated, c.breach ≠ .ov ∧ c.breach ≠ .uv := by
  simp [gatePasses]

theorem gatePasses_noContactorFault_iff : gatePasses s .noContactorFault = true
    ↔ ∀ c ∈ s.kdr.chans, c.st ≠ .closeFailed ∧ c.st ≠ .dropout ∧ c.st ≠ .weldSuspect := by
  simp [gatePasses, State.anyFaulted, ← Bool.not_eq_true, KState.faulted_iff]

theorem gatePasses_noOverCurrent_iff : gatePasses s .noOverCurrent = true ↔ s.ana.overCurrent = false := by
  simp [gatePasses]

theorem activating_iff : s.activating = true ↔ s.upd.act ≠ .none := bne_iff_ne

theorem gatePasses_noActivation_iff : gatePasses s .noActivation = true ↔ s.upd.act = .none := by
  simp [gatePasses, State.activating]

/-- The gate reads neither the runner nor the link. -/
@[simp] theorem gatePasses_setSeq (x : Seq) (t : GateTerm) : gatePasses (s.setSeq x) t = gatePasses s t := by cases t <;> rfl

@[simp] theorem gatePasses_held (tag : Byte) (r : Request) (t : GateTerm) : gatePasses (held tag r s) t = gatePasses s t := by
  cases t <;> rfl

@[simp] theorem failingTerms_setSeq (x : Seq) : failingTerms (s.setSeq x) = failingTerms s := by simp [failingTerms]

@[simp] theorem failingTerms_held (tag : Byte) (r : Request) : failingTerms (held tag r s) = failingTerms s := by
  simp [failingTerms]

/-! ## RUN_SEQUENCE (R116) -/

theorem any_isClose_iff (l : List SeqStep) : l.any SeqStep.isClose = true ↔ ∃ k, SeqStep.close k ∈ l := by
  rw [List.any_eq_true]
  constructor
  · rintro ⟨st, hmem, hclose⟩
    cases st with
    | close k => exact ⟨k, hmem⟩
    | opn _ | wait _ | awaitLink _ _ | awaitDecay _ _ | skipIf _ | sweep | endSeq => simp [SeqStep.isClose] at hclose
  · exact fun ⟨k, hmem⟩ => ⟨.close k, hmem, rfl⟩

variable {id : Byte}

theorem ownRunSequence_of_busy (h : s.seq.run.isSome = true ∨ s.upd.act ≠ .none) : ownRunSequence id s = (s, plain .busy) := by
  unfold ownRunSequence
  split
  · rfl
  · next hrun => exact if_pos (activating_iff.2 (h.resolve_left hrun))

/-- Past the first two checks the sequence named is judged. -/
theorem ownRunSequence_of_idle (hrun : s.seq.run = none) (hact : s.upd.act = .none) :
    ownRunSequence id s =
      if 6 ≤ id.toNat ∨ s.sequence id.toNat = [] then refuse .badArgument s
      else if (s.sequence id.toNat).any SeqStep.isClose && !(failingTerms s).isEmpty then
        (s, { status := .notReady, body := .gate (failingTerms s) })
      else (proceed 0 (s.setRun (runStart id.toNat s.now)), plain .accepted) := by
  rw [ownRunSequence, if_neg (by simp [hrun]), if_neg (by simp [activating_iff, hact])]

theorem ownRunSequence_of_absent (hrun : s.seq.run = none) (hact : s.upd.act = .none)
    (h : 6 ≤ id.toNat ∨ s.sequence id.toNat = []) : ownRunSequence id s = (s, plain .badArgument) :=
  (ownRunSequence_of_idle hrun hact).trans (if_pos h)

theorem ownRunSequence_of_gate (hrun : s.seq.run = none) (hact : s.upd.act = .none) (hid : id.toNat < 6)
    (hclose : ∃ k, SeqStep.close k ∈ s.sequence id.toNat) (hgate : failingTerms s ≠ []) :
    ownRunSequence id s = (s, { status := .notReady, body := .gate (failingTerms s) }) := by
  have hsteps : s.sequence id.toNat ≠ [] := fun h => by simp [h] at hclose
  rw [ownRunSequence_of_idle hrun hact, if_neg (by simp [hid, hsteps]),
    if_pos (by simpa [(any_isClose_iff _).2 hclose] using hgate)]

theorem ownRunSequence_of_started (hrun : s.seq.run = none) (hact : s.upd.act = .none) (hid : id.toNat < 6)
    (hsteps : s.sequence id.toNat ≠ []) (h : (∀ k, SeqStep.close k ∉ s.sequence id.toNat) ∨ failingTerms s = []) :
    ownRunSequence id s = (proceed 0 (s.setRun (runStart id.toNat s.now)), plain .accepted) := by
  have hpass : ¬ ((s.sequence id.toNat).any SeqStep.isClose && !(failingTerms s).isEmpty) = true := by
    rw [Bool.and_eq_true, any_isClose_iff]
    rintro ⟨⟨k, hk⟩, hgate⟩
    exact h.elim (fun hno => hno k hk) fun hnil => by simp [hnil] at hgate
  rw [ownRunSequence_of_idle hrun hact, if_neg (by simp [hid, hsteps]), if_neg hpass]

end

/-- Settles O22: the checks in order by the lemma of the one that stops the request; past them step 0 starts. -/
theorem runSequenceChecks : Obligations.RunSequenceChecks := by
  intro s tag id hs r h steps failing
  have hfailing : failingTerms h = failing := failingTerms_held tag r
  refine ⟨fun hbusy => ?_, fun hrun hact hno => ?_, fun hrun hact hid hclose hgate => ?_,
    fun hrun hact hid hsteps hpass => ?_⟩ <;>
    refine request_of_serving (r := r) hs rfl ?_
  · exact ownRunSequence_of_busy (s := h) hbusy
  · exact ownRunSequence_of_absent (s := h) hrun hact hno
  · exact hfailing ▸ ownRunSequence_of_gate (s := h) hrun hact hid hclose (hfailing ▸ hgate)
  · exact ownRunSequence_of_started (s := h) hrun hact hid hsteps (hfailing ▸ hpass)

/-! ## OPEN_ALL (R129) -/

/-- Settles O23: a running sequence ends, and with none the four commands are given. -/
theorem openAllOpensOrAborts : Obligations.OpenAllOpensOrAborts := by
  intro s tag hs
  refine ⟨fun hrun => ?_, fun hrun => ?_⟩ <;> refine request_of_serving (r := .openAll) hs rfl ?_
  · exact congrArg (·, plain .ok) (openForAll_of_running (s := held tag .openAll s) hrun .aborted)
  · exact congrArg (·, plain .ok) (openForAll_of_idle (s := held tag .openAll s) hrun .aborted)

end Sys2Proof.Machine
end

section
/-! SUPPORT. The steps of a sequence: what the start of each kind comes to, by kind and case, and how the run goes on from it (R118 to
R126). -/
namespace Sys2Proof.Machine

/-! ## The run, entered and awaiting -/

section
variable {s : State} {r : Run} {k n idx t p : Nat}

theorem awaiting_of_run (hr : s.seq.run = some r) (a : Awaited) : awaiting a s = s.setRun { r with awaited := a } := by
  rw [awaiting, hr]

theorem loadTimer_of_run (hr : s.seq.run = some r) (t : Nat) : loadTimer t s = s.setRun { r with timer := some t } := by
  rw [loadTimer, hr]

/-- The timer loaded and an item awaited are one replacement of the run. -/
theorem awaiting_loadTimer_of_run (hr : s.seq.run = some r) (a : Awaited) (t : Nat) :
    awaiting a (loadTimer t s) = s.setRun { r with timer := some t, awaited := a } := by
  rw [loadTimer_of_run hr, awaiting_of_run (r := { r with timer := some t }) rfl]
  rfl

/-! ## CLOSE steps (R117, R120) -/

theorem startClose_of_gate (h : failingTerms s ≠ []) : startClose k s = .fails .gate (failingTerms s) s := if_pos h

theorem startClose_of_open (hr : s.seq.run = some r) (h : failingTerms s = []) (hst : (s.chan k).st = .opened) :
    startClose k s = .waits ((closeCmd k s).setRun { r with awaited := .contactor k }) := by
  simp only [startClose, h, hst, ne_eq, not_true_eq_false, if_false]
  rw [awaiting_of_run (by simpa using hr)]

theorem startClose_of_closed (h : failingTerms s = []) (hst : (s.chan k).st = .closed) :
    startClose k s = .completes false s := by
  simp [startClose, h, hst]

theorem startClose_of_moving (hr : s.seq.run = some r) (h : failingTerms s = [])
    (hst : (s.chan k).st = .closing ∨ (s.chan k).st = .opening) :
    startClose k s = .waits (s.setRun { r with awaited := .contactor k }) := by
  rcases hst with hst | hst <;> simp [startClose, h, hst, awaiting_of_run hr]

/-! ## OPEN steps (R121) -/

theorem startOpen_of_free (hst : (s.chan k).st = .closing ∨ (s.chan k).st = .closed)
    (ho : ((openCmd k s).chan k).st = .opened) : startOpen k s = .completes false (openCmd k s) := by
  rcases hst with hst | hst <;> simp [startOpen, hst, ho]

theorem startOpen_of_commanded (hr : s.seq.run = some r) (hst : (s.chan k).st = .closing ∨ (s.chan k).st = .closed)
    (ho : ((openCmd k s).chan k).st ≠ .opened) :
    startOpen k s = .waits ((openCmd k s).setRun { r with awaited := .contactor k }) := by
  have hro : (openCmd k s).seq.run = some r := by simpa using hr
  rcases hst with hst | hst <;> simp [startOpen, hst, ho, awaiting_of_run hro]

theorem startOpen_of_opening (hr : s.seq.run = some r) (hst : (s.chan k).st = .opening) :
    startOpen k s = .waits (s.setRun { r with awaited := .contactor k }) := by
  simp [startOpen, hst, awaiting_of_run hr]

theorem startOpen_of_open (hst : (s.chan k).st = .opened) : startOpen k s = .completes false s := by
  simp [startOpen, hst]

theorem startOpen_of_faulted (hst : (s.chan k).st = .closeFailed ∨ (s.chan k).st = .dropout ∨ (s.chan k).st = .weldSuspect) :
    startOpen k s = .fails .fault [] s := by
  rcases hst with hst | hst | hst <;> simp [startOpen, hst]

/-! ## AWAIT steps (R122, R123) -/

/-- The link test of an AWAIT_LINK or an AWAIT_DECAY step. -/
def awaitHolds (link : Bool) (p : Nat) : RingEntry → Bool := if link then linkAtLeast p else linkAtMost p

theorem awaitHolds_iff (link : Bool) (p : Nat) (x : RingEntry) :
    awaitHolds link p x = true ↔ if link then p * x.pack ≤ 100 * x.link else 100 * x.link ≤ p * x.pack := by
  cases link <;> simp [awaitHolds, linkAtLeast, linkAtMost]

section
variable {holds : RingEntry → Bool} {x : RingEntry}

/-- The pack voltage is checked at the step's first test alone. -/
theorem awaitTest_of_low (hr : s.seq.run = some r) (hfirst : r.tested = false) (hlow : x.pack < 500) :
    awaitTest holds x s = .fails .noPackVoltage [] s := by
  simp [awaitTest, hr, hfirst, minPack, hlow]

theorem awaitTest_of_tested (hr : s.seq.run = some r) (h : r.tested = true ∨ 500 ≤ x.pack) :
    awaitTest holds x s = if holds x then .completes false s else .waits (s.setRun { r with tested := true }) := by
  have hpack : ¬ (!r.tested && decide (x.pack < minPack)) = true := by
    rcases h with h | h
    · simp [h]
    · simp [minPack, Nat.not_lt.2 h]
  simp only [awaitTest, hr, if_neg hpack]

theorem startAwait_of_untested (hr : s.seq.run = some r) (h : s.ana.fault = true ∨ s.ana.ring.getLast? = none) :
    startAwait t holds s = .waits (s.setRun { r with timer := some t, awaited := .arrival }) := by
  rw [startAwait, awaiting_loadTimer_of_run hr]
  rcases h with h | h
  · exact if_pos h
  · simp only [State.newest, setRun_frame, h]
    exact ite_self _

theorem startAwait_of_entry (hr : s.seq.run = some r) (hf : s.ana.fault = false) (hx : s.ana.ring.getLast? = some x) :
    startAwait t holds s = awaitTest holds x (s.setRun { r with timer := some t, awaited := .arrival }) := by
  rw [startAwait, awaiting_loadTimer_of_run hr]
  simp [State.newest, hf, hx]

end

/-! ## SKIP_IF steps (R124) -/

theorem startSkip_of_untested (h : s.ana.fault = true ∨ s.ana.ring.getLast? = none) :
    startSkip (.linkAtLeast p) s = .completes false s := by
  rcases h with h | h <;> simp [startSkip, State.newest, h]

theorem startSkip_of_entry {x : RingEntry} (hf : s.ana.fault = false) (hx : s.ana.ring.getLast? = some x) :
    startSkip (.linkAtLeast p) s
      = if x.pack < 500 then .fails .noPackVoltage [] s else .completes (linkAtLeast p x) s := by
  simp only [startSkip, State.newest, hf, hx, Bool.false_eq_true, if_false]
  rfl

/-! ## SWEEP steps (R8, R125) -/

theorem startSweep_of_run (hr : s.seq.run = some r) :
    startSweep s = .waits ((s.setSch { s.sch with pendEvent := some (popMask s.prof) }).setRun
      { r with awaited := .sweep, eventReq := true }) := by
  simp [startSweep, hr]

/-! ## The start of a step, by its kind -/

theorem startStep_close (k : Nat) (s : State) : startStep (.close k) s = startClose k s := rfl

theorem startStep_opn (k : Nat) (s : State) : startStep (.opn k) s = startOpen k s := rfl

theorem startStep_wait (hr : s.seq.run = some r) :
    startStep (.wait t) s = .waits (s.setRun { r with timer := some t, awaited := .timer }) :=
  congrArg StepResult.waits (awaiting_loadTimer_of_run hr .timer t)

theorem startStep_await (link : Bool) (p t : Nat) (s : State) :
    startStep (if link then .awaitLink p t else .awaitDecay p t) s = startAwait t (awaitHolds link p) s := by
  cases link <;> rfl

theorem startStep_skipIf (c : SkipCond) (s : State) : startStep (.skipIf c) s = startSkip c s := rfl

theorem startStep_sweep (s : State) : startStep .sweep s = startSweep s := rfl

theorem startStep_endSeq (hr : s.seq.run = some r) : startStep .endSeq s = .ends (completeSequence r s) := by
  rw [startStep, hr]

/-! ## How the run goes on (R118) -/

theorem runSteps_of_past (hr : s.seq.run = some r) (hst : (s.sequence r.id)[idx]? = none) : runSteps (n + 1) idx s = s := by
  simp only [runSteps, hr, hst]

/-- The run goes on from what the start of the step at an index comes to, with n starts left. -/
def StepResult.goOn (n idx : Nat) : StepResult → State
  | .waits s => s
  | .completes skip s => runSteps n (if skip then idx + 2 else idx + 1) s
  | .fails reason terms s => endSequence reason terms s
  | .ends s => s

theorem runSteps_of_step {st : SeqStep} (hr : s.seq.run = some r) (hst : (s.sequence r.id)[idx]? = some st) :
    runSteps (n + 1) idx s = (startStep st (enterStep idx r s)).goOn n idx := by
  simp only [runSteps, hr, hst]
  rfl

@[simp] theorem StepResult.goOn_waits : (StepResult.waits s).goOn n idx = s := rfl

@[simp] theorem StepResult.goOn_next : (StepResult.completes false s).goOn n idx = runSteps n (idx + 1) s := rfl

@[simp] theorem StepResult.goOn_skip (c : Prop) [Decidable c] :
    (StepResult.completes (decide c) s).goOn n idx = runSteps n (if c then idx + 2 else idx + 1) s := by
  simp only [StepResult.goOn, decide_eq_true_eq]

@[simp] theorem StepResult.goOn_fails (reason : SeqReason) (terms : List GateTerm) :
    (StepResult.fails reason terms s).goOn n idx = endSequence reason terms s := rfl

@[simp] theorem StepResult.goOn_ends : (StepResult.ends s).goOn n idx = s := rfl

/-! ## The events that reach the runner (R119, R120 to R123, R127) -/

theorem currentStep_of_run (hr : s.seq.run = some r) : s.currentStep = (s.sequence r.id)[r.idx]? := by
  rw [State.currentStep, hr, Option.bind_some]

/-- The end of a step timer that stands at 0 reaches the runner. -/
theorem exec_stepTimerExpiry_of_due (hr : s.seq.run = some r) (ht : r.timer = some 0) :
    exec .stepTimerExpiry s = .next (finish (runnerTimer s)) :=
  congrArg (fun u => Host.Outcome.next (finish u)) (if_pos ((timerDue_iff s).2 ⟨r, hr, ht⟩))

theorem runnerReport_of_none {entered : KState} (hr : s.seq.run = none) : runnerReport k entered s = s := by
  rw [runnerReport, hr]

theorem runnerReport_of_fault {entered : KState} (hr : s.seq.run = some r) (hf : entered.faulted = true) :
    runnerReport k entered s = endSequence (faultReason s k entered) [] s := by
  simp only [runnerReport, hr, hf, if_true]

theorem runnerReport_of_unawaited {entered : KState} (hr : s.seq.run = some r) (hf : ¬ entered.faulted = true)
    (ha : r.awaited ≠ .contactor k) : runnerReport k entered s = s := by
  simp only [runnerReport, hr, if_neg hf, if_neg ha]

section
variable {j : Nat}

/-- The contactor that a CLOSE step waits for has closed: the next step starts (R120). -/
theorem runnerReport_of_closed (hr : s.seq.run = some r) (hst : (s.sequence r.id)[r.idx]? = some (.close j))
    (ha : r.awaited = .contactor k) : runnerReport k .closed s = proceed (r.idx + 1) s := by
  simp [runnerReport, hr, ha, currentStep_of_run hr, hst, KState.faulted]

/-- The contactor that a CLOSE step waits for has opened: the step starts again (R120). -/
theorem runnerReport_of_reopened (hr : s.seq.run = some r) (hst : (s.sequence r.id)[r.idx]? = some (.close j))
    (ha : r.awaited = .contactor k) : runnerReport k .opened s = proceed r.idx s := by
  simp [runnerReport, hr, ha, currentStep_of_run hr, hst, KState.faulted]

/-- The contactor that an OPEN step waits for has opened: the next step starts (R121). -/
theorem runnerReport_of_opened (hr : s.seq.run = some r) (hst : (s.sequence r.id)[r.idx]? = some (.opn j))
    (ha : r.awaited = .contactor k) : runnerReport k .opened s = proceed (r.idx + 1) s := by
  simp [runnerReport, hr, ha, currentStep_of_run hr, hst, KState.faulted]

theorem faultReason_of_close (hr : s.seq.run = some r) (hst : (s.sequence r.id)[r.idx]? = some (.close j))
    (ha : r.awaited = .contactor k) : faultReason s k .closeFailed = .closeFailed := by
  simp [faultReason, hr, ha, currentStep_of_run hr, hst]

theorem faultReason_of_opn (hr : s.seq.run = some r) (hst : (s.sequence r.id)[r.idx]? = some (.opn j))
    (ha : r.awaited = .contactor k) : faultReason s k .weldSuspect = .weldSuspect := by
  simp [faultReason, hr, ha, currentStep_of_run hr, hst]

end

/-- A fault that the step in progress does not wait for has the reason FAULT (R127). -/
theorem faultReason_of_other {entered : KState} (hr : s.seq.run = some r)
    (hc : ¬ (((∃ j, (s.sequence r.id)[r.idx]? = some (.close j)) ∧ r.awaited = .contactor k) ∧ entered = .closeFailed))
    (ho : ¬ (((∃ j, (s.sequence r.id)[r.idx]? = some (.opn j)) ∧ r.awaited = .contactor k) ∧ entered = .weldSuspect)) :
    faultReason s k entered = .fault := by
  rw [faultReason, currentStep_of_run hr, hr, Option.map_some]
  split
  · next i j hst ha =>
    rw [Option.some.injEq] at ha
    exact if_neg fun ⟨hjk, hent⟩ => hc ⟨⟨⟨i, hst⟩, hjk ▸ ha⟩, hent⟩
  · next i j hst ha =>
    rw [Option.some.injEq] at ha
    exact if_neg fun ⟨hjk, hent⟩ => ho ⟨⟨⟨i, hst⟩, hjk ▸ ha⟩, hent⟩
  · rfl

theorem runnerArrival_of_await {x : RingEntry} {link : Bool} (hr : s.seq.run = some r) (ha : r.awaited = .arrival)
    (hst : (s.sequence r.id)[r.idx]? = some (if link then .awaitLink p t else .awaitDecay p t)) :
    runnerArrival x s = settleStep r.idx (awaitTest (awaitHolds link p) x s) := by
  have haw : s.awaitsArrival = true := (awaitsArrival_iff s).2 (by rw [hr, Option.map_some, ha])
  rw [runnerArrival, currentStep_of_run hr, hst, hr]
  cases link <;> exact if_pos haw

/-- The run replaced in a part whose runner is that of an earlier state. -/
theorem setRun_of_seq {u : State} (h : u.seq = s.seq) (x : Run) : u.setRun x = u.setSeq { s.seq with run := some x } := by
  rw [State.setRun, h]

end

/-! ## The claim -/

/-- Settles O51: the timer's end by the step in progress, the gate term by term, each kind of step by the lemma of its case and the way
the run goes on from it, a report by the fault that it tells or the step that waits for it, an arrival by its link test. -/
theorem stepTimerEndsTheStep : Obligations.StepTimerEndsTheStep := by
  refine ⟨fun s r hr ht => ?_, fun s => ⟨gatePasses_allFresh_iff, gatePasses_noBreach_iff, gatePasses_noContactorFault_iff,
    gatePasses_noOverCurrent_iff, gatePasses_noActivation_iff, fun idx => rfl⟩, fun s r n idx hr => ?_,
    fun s k entered => ?_, fun s r x p t link hr ha hst => ?_⟩
  · intro step
    have hstep : s.currentStep = step := currentStep_of_run hr
    rw [exec_stepTimerExpiry_of_due hr ht]
    refine ⟨fun n h => ?_, fun p n h => ?_, fun p n h => ?_⟩ <;> simp only [runnerTimer, hr, hstep, h]
  · intro start step q e waits failing last
    have hgate : failingTerms e = failing := failingTerms_setSeq _
    clear_value failing
    subst hgate
    have hgo {st : SeqStep} (hst : step = some st) : start = (startStep st e).goOn n idx := runSteps_of_step hr hst
    refine ⟨runSteps_of_past hr, fun k hst => ⟨fun h => ?_, fun h hk => ?_, fun h hk => ?_, fun h hk => ?_⟩,
      fun k hst => ⟨fun hk ho => ?_, fun hk ho => ?_, fun hk => ?_, fun hk => ?_, fun hk => ?_⟩, fun t hst => ?_,
      fun p t link hst => ⟨fun h => ?_, fun x hf hx => ?_⟩, fun p hst => ⟨fun h => ?_, fun x hf hx => ?_⟩,
      fun k hst => ?_, fun k hst => ?_, fun hst => ?_, fun hst => ?_, fun hst => ?_⟩
    -- CLOSE
    · rw [hgo hst, startStep_close, startClose_of_gate h, StepResult.goOn_fails]
    · rw [hgo hst, startStep_close, startClose_of_open (s := e) rfl h hk, StepResult.goOn_waits]
      exact setRun_of_seq (s := e) (by simp) _
    · rw [hgo hst, startStep_close, startClose_of_closed (s := e) h hk, StepResult.goOn_next]
    · rw [hgo hst, startStep_close, startClose_of_moving (s := e) rfl h hk, StepResult.goOn_waits]
      rfl
    -- OPEN
    · rw [hgo hst, startStep_opn, startOpen_of_free (s := e) hk ho, StepResult.goOn_next]
    · rw [hgo hst, startStep_opn, startOpen_of_commanded (s := e) rfl hk ho, StepResult.goOn_waits]
      exact setRun_of_seq (s := e) (by simp) _
    · rw [hgo hst, startStep_opn, startOpen_of_opening (s := e) rfl hk, StepResult.goOn_waits]
      rfl
    · rw [hgo hst, startStep_opn, startOpen_of_open (s := e) hk, StepResult.goOn_next]
    · rw [hgo hst, startStep_opn, startOpen_of_faulted (s := e) hk, StepResult.goOn_fails]
    -- WAIT
    · rw [hgo hst, startStep_wait (s := e) rfl, StepResult.goOn_waits]
      rfl
    -- AWAIT
    · rw [hgo hst, startStep_await, startAwait_of_untested (s := e) rfl h, StepResult.goOn_waits]
      rfl
    · rw [hgo hst, startStep_await, startAwait_of_entry (s := e) rfl hf hx]
      refine ⟨fun hlow => ?_, fun hpack hholds => ?_, fun hpack hholds => ?_⟩
      · rw [awaitTest_of_low rfl rfl hlow, StepResult.goOn_fails]
        rfl
      · rw [awaitTest_of_tested rfl (.inr hpack), if_pos ((awaitHolds_iff link p x).2 hholds), StepResult.goOn_next]
        rfl
      · rw [awaitTest_of_tested rfl (.inr hpack), if_neg (mt (awaitHolds_iff link p x).1 hholds), StepResult.goOn_waits]
        rfl
    -- SKIP_IF
    · rw [hgo hst, startStep_skipIf, startSkip_of_untested (s := e) h, StepResult.goOn_next]
    · rw [hgo hst, startStep_skipIf, startSkip_of_entry (s := e) hf hx]
      refine ⟨fun hlow => ?_, fun hpack => ?_⟩
      · rw [if_pos hlow, StepResult.goOn_fails]
      · rw [if_neg (Nat.not_lt.2 hpack), linkAtLeast, StepResult.goOn_skip]
    · exact (hgo hst).trans (StepResult.goOn_skip ((s.chan k).st = .closed))
    · exact (hgo hst).trans (StepResult.goOn_skip ((s.chan k).st = .opened))
    · exact hgo hst
    -- SWEEP and END
    · rw [hgo hst, startStep_sweep, startSweep_of_run (s := e) rfl, StepResult.goOn_waits]
      rfl
    · rw [hgo hst, startStep_endSeq (s := e) rfl, StepResult.goOn_ends]
      simp [completeSequence, State.now, q, e]
  · intro fault
    have hfault : entered.faulted = true ↔ fault := KState.faulted_iff entered
    refine ⟨runnerReport_of_none, fun r hr => ?_⟩
    intro step closes opens fails
    have hends (reason : SeqReason) (hf : entered.faulted = true) (h : faultReason s k entered = reason) : fails reason :=
      (runnerReport_of_fault hr hf).trans (by rw [h])
    refine ⟨?_, ?_, ?_, ?_, ?_, ?_, ?_⟩
    · rintro ⟨⟨j, hst⟩, ha⟩ rfl
      exact hends _ rfl (faultReason_of_close hr hst ha)
    · rintro ⟨⟨j, hst⟩, ha⟩ rfl
      exact hends _ rfl (faultReason_of_opn hr hst ha)
    · exact fun hf hc ho => hends _ (hfault.2 hf) (faultReason_of_other hr hc ho)
    · rintro ⟨⟨j, hst⟩, ha⟩ rfl
      exact runnerReport_of_closed hr hst ha
    · rintro ⟨⟨j, hst⟩, ha⟩ rfl
      exact runnerReport_of_reopened hr hst ha
    · rintro ⟨⟨j, hst⟩, ha⟩ rfl
      exact runnerReport_of_opened hr hst ha
    · exact fun hf ha => runnerReport_of_unawaited hr (mt hfault.1 hf) ha
  · intro holds
    have hholds : awaitHolds link p x = true ↔ holds := awaitHolds_iff link p x
    rw [runnerArrival_of_await hr ha hst]
    refine ⟨fun hfirst hlow => ?_, fun hpast => ⟨fun h => ?_, fun h => ?_⟩⟩
    · rw [awaitTest_of_low hr hfirst hlow]
      rfl
    · rw [awaitTest_of_tested hr hpast, if_pos (hholds.2 h)]
      rfl
    · rw [awaitTest_of_tested hr hpast, if_neg (mt hholds.1 h)]
      rfl

end Sys2Proof.Machine
end

section
/-! SUPPORT. The capture log (R142 to R149): what an offer comes to, what keeps a log right, and the first of the blocks that write
records: the counters' snapshot, the contactor drivers, the sequence runner and the limit monitor. -/
namespace Sys2Proof.Machine

/-! ## Records offered and released (R144, R145, R149) -/

theorem offerRecord_of_room {fault : Bool} {s : State} (h : s.log.records.length < admitLimit fault) (body : RecordBody) :
    offerRecord fault body s = judgeThreshold (s.setLog { s.log with
      records := s.log.records ++ [{ number := s.log.nextNo, faultClass := fault, body := body }]
      nextNo := s.log.nextNo + 1 }) := if_pos h

theorem offerRecord_of_full {fault : Bool} {s : State} (h : admitLimit fault ≤ s.log.records.length) (body : RecordBody) :
    offerRecord fault body s = setCond .logFull s := if_neg (Nat.not_lt.2 h)

theorem offerRecord_log_of_room {fault : Bool} {s : State} (h : s.log.records.length < admitLimit fault) (body : RecordBody) :
    (offerRecord fault body s).log = { s.log with
      records := s.log.records ++ [{ number := s.log.nextNo, faultClass := fault, body := body }]
      nextNo := s.log.nextNo + 1 } := by simp [offerRecord_of_room h]

theorem offerRecord_log_of_full {fault : Bool} {s : State} (h : admitLimit fault ≤ s.log.records.length) (body : RecordBody) :
    (offerRecord fault body s).log = s.log := by simp [offerRecord_of_full h]

/-! ## A right log (R142, R144) -/

/-- One record more, numbered as the next, moves every place by one as it moves the next number. -/
theorem numbersRight_append {next : BitVec 16} {l : List LogRecord} {r : LogRecord} (h : numbersRight next l) (hr : r.number = next) :
    numbersRight (next + 1) (l ++ [r]) := by
  induction l with
  | nil => exact ⟨by rw [hr]; rfl, trivial⟩
  | cons a rest ih =>
    obtain ⟨ha, hrest⟩ := h
    refine ⟨?_, ih hrest⟩
    show a.number + BitVec.ofNat 16 ((rest ++ [r]).length + 1) = next + 1
    rw [← ha, List.length_append, List.length_singleton, BitVec.ofNat_add _ 1, BitVec.add_assoc]
    rfl

theorem numbersRight_drop {next : BitVec 16} {l : List LogRecord} (h : numbersRight next l) (n : Nat) : numbersRight next (l.drop n) := by
  induction l generalizing n with
  | nil => rwa [List.drop_nil]
  | cons a rest ih =>
    obtain ⟨-, hrest⟩ := id h
    cases n with
    | zero => exact h
    | succ n => exact ih hrest n

theorem logReset_right : logReset.right := ⟨Nat.zero_le _, Nat.zero_le _, trivial⟩

/-- The threshold is no part of what makes a log right. -/
theorem CapLog.right.setThreshold {l : CapLog} (h : l.right) (n : Nat) : ({ l with threshold := n } : CapLog).right := h

theorem CapLog.right.drop {l : CapLog} (h : l.right) (n : Nat) : ({ l with records := l.records.drop n } : CapLog).right := by
  obtain ⟨hlen, hgen, hnum⟩ := h
  have hsub := List.drop_sublist n l.records
  exact ⟨hsub.length_le.trans hlen, (hsub.countP_le).trans hgen, numbersRight_drop hnum n⟩

/-- A record admitted below its class's limit: 64 at most in all, and a general one joins fewer than 60 of either class (R144). -/
theorem CapLog.right.append {l : CapLog} {fault : Bool} (h : l.right) (hroom : l.records.length < admitLimit fault) (body : RecordBody) :
    ({ l with
      records := l.records ++ [{ number := l.nextNo, faultClass := fault, body := body }]
      nextNo := l.nextNo + 1 } : CapLog).right := by
  obtain ⟨-, hgen, hnum⟩ := h
  have hlimit : admitLimit fault ≤ 64 := by cases fault <;> decide
  refine ⟨?_, ?_, numbersRight_append hnum rfl⟩
  · rw [List.length_append]
    exact (Nat.succ_le_of_lt hroom).trans hlimit
  · rw [List.countP_append]
    cases fault with
    | true => exact hgen
    | false =>
      have hfewer : l.records.countP (fun r => !r.faultClass) < 60 := List.countP_le_length.trans_lt hroom
      exact hfewer

section
variable {s t : State}

theorem CapLog.right.mono (h : s.log.right) (hlog : t.log = s.log) : t.log.right := hlog ▸ h

theorem ite_logRight {p : Prop} [Decidable p] (hs : s.log.right) (ht : t.log.right) : (if p then s else t).log.right := by
  split
  · exact hs
  · exact ht

theorem offerRecord_logRight (fault : Bool) (body : RecordBody) (h : s.log.right) : (offerRecord fault body s).log.right := by
  rcases Nat.lt_or_ge s.log.records.length (admitLimit fault) with hroom | hfull
  · rw [offerRecord_log_of_room hroom]
    exact h.append hroom body
  · rw [offerRecord_log_of_full hfull]
    exact h

theorem snapshotCheck_logRight (h : s.log.right) : (snapshotCheck s).log.right := by
  refine ite_logRight ?_ h
  split
  · exact offerRecord_logRight _ _ h
  · exact h

/-! ## Contactor drivers (R91 to R108) -/

/-- Every transition writes its record as it is handed on (R104). -/
theorem handOn_logRight {k : Nat} {left entered : KState} {tm : Times} {hardBreak : Bool} {instant : Time} (h : s.log.right) :
    (handOn k left entered tm hardBreak instant s).log.right :=
  (offerRecord_logRight entered.faulted _ h).mono (by simp [handOn]; rfl)

theorem released_logRight (k : Nat) (hard : Bool) (h : s.log.right) : (s.released k hard).log.right := by
  have hset : (s.setChan k (s.opening k hard)).log.right := h
  exact ite_logRight (p := hard = true) (hset.mono (t := occurrence .hardBreak (s.setChan k (s.opening k hard))) (by simp)) hset

theorem openCmd_logRight (k : Nat) (h : s.log.right) : (openCmd k s).log.right := by
  rcases openCmd_cases k s with e | ⟨-, e | e⟩ <;> rw [e]
  · exact h
  · exact released_logRight k _ h
  · exact handOn_logRight (released_logRight k _ h)

theorem openEvery_logRight (h : s.log.right) : (openEvery s).log.right :=
  openCmd_logRight 3 (openCmd_logRight 2 (openCmd_logRight 1 (openCmd_logRight 0 h)))

theorem enterFault_logRight (k : Nat) (entered : KState) (hardBreak : Bool) (instant : Time) (h : s.log.right) :
    (enterFault k entered hardBreak instant s).log.right := handOn_logRight h

theorem actOnFeedback_logRight (k : Nat) (h : s.log.right) : (actOnFeedback k s).1.log.right := by
  unfold actOnFeedback
  dsimp only
  split
  · exact h
  · split
    · exact handOn_logRight (h.mono (by simp))
    · exact enterFault_logRight k _ _ _ h
    · exact handOn_logRight h
    · split
      · exact h
      · exact enterFault_logRight k _ _ _ h
    · exact h

theorem switchWeld_logRight (k : Nat) (h : s.log.right) : (switchWeld k s).log.right :=
  ite_logRight (enterFault_logRight k _ _ _ h) h

theorem switchWelds_logRight (h : s.log.right) : (switchWelds s).log.right :=
  switchWeld_logRight 3 (switchWeld_logRight 2 (switchWeld_logRight 1 (switchWeld_logRight 0 h)))

/-! ## Sequence runner and limit monitor (R77 to R80, R113 to R131) -/

/-- The end without success writes its record after those of the contactors that it opens (R128). -/
theorem endSequence_logRight (reason : SeqReason) (terms : List GateTerm) (h : s.log.right) :
    (endSequence reason terms s).log.right := by
  have hopen := openEvery_logRight h
  unfold endSequence
  split
  · exact h
  · extract_lets s1 s2 s3 s4
    have h2 : s2.log.right := ite_logRight (hopen.mono (by simp [s1])) hopen
    have h3 : s3.log.right := offerRecord_logRight true _ h2
    exact h3.mono (by simp [s4])

theorem completeSequence_logRight (r : Run) (h : s.log.right) : (completeSequence r s).log.right :=
  (offerRecord_logRight false (.sequence r.id none s.now) h).mono (by simp [completeSequence])

theorem startOpen_logRight (k : Nat) (h : s.log.right) : (startOpen k s).state.log.right := by
  have hopen := openCmd_logRight k h
  unfold startOpen
  split
  case h_1 | h_2 =>
    dsimp only
    split
    · exact hopen
    · exact hopen.mono (by simp)
  all_goals exact h.mono (by simp)

/-- Of the steps OPEN writes its contactor's record and END that of the sequence. -/
theorem startStep_logRight (st : SeqStep) (h : s.log.right) : (startStep st s).state.log.right := by
  cases st with
  | opn k => exact startOpen_logRight k h
  | endSeq =>
    unfold startStep
    dsimp only
    split
    · exact completeSequence_logRight _ h
    · exact h
  | _ => exact h.mono (by simp [startStep])

theorem runSteps_logRight (n idx : Nat) (h : s.log.right) : (runSteps n idx s).log.right := by
  induction n generalizing idx s with
  | zero => exact h
  | succ n ih =>
    unfold runSteps
    split
    · exact h
    · rename_i r _
      split
      · exact h
      · rename_i st _
        have hstep := startStep_logRight st (h.mono (t := enterStep idx r s) (by simp))
        split <;> rename_i hres <;> rw [hres] at hstep
        · exact hstep
        · exact ih _ hstep
        · exact endSequence_logRight _ _ hstep
        · exact hstep

theorem proceed_logRight (idx : Nat) (h : s.log.right) : (proceed idx s).log.right :=
  (runSteps_logRight 13 idx h).mono (by simp [proceed])

theorem settleStep_logRight (idx : Nat) {x : StepResult} (h : x.state.log.right) : (settleStep idx x).log.right := by
  cases x with
  | waits s => exact h
  | completes skip s => exact proceed_logRight _ h
  | fails reason terms s => exact endSequence_logRight _ _ h
  | ends s => exact h

theorem runnerReport_logRight (k : Nat) (entered : KState) (h : s.log.right) : (runnerReport k entered s).log.right := by
  unfold runnerReport
  split
  · exact h
  · refine ite_logRight (endSequence_logRight _ _ h) (ite_logRight ?_ h)
    split
    · exact proceed_logRight _ h
    · exact proceed_logRight _ h
    · exact proceed_logRight _ h
    · exact h

theorem runnerSwept_logRight (requested received : ModMask) (h : s.log.right) : (runnerSwept requested received s).log.right := by
  unfold runnerSwept
  split
  · exact h
  · exact ite_logRight (ite_logRight (runSteps_logRight _ _ h) (endSequence_logRight _ _ h)) h

theorem runnerArrival_logRight (e : RingEntry) (h : s.log.right) : (runnerArrival e s).log.right := by
  have htest := fun holds => h.mono (t := (awaitTest holds e s).state) (by simp)
  unfold runnerArrival
  split
  · exact ite_logRight (settleStep_logRight _ (htest _)) h
  · exact ite_logRight (settleStep_logRight _ (htest _)) h
  · exact h

theorem runnerTimer_logRight (h : s.log.right) : (runnerTimer s).log.right := by
  unfold runnerTimer
  split
  · exact proceed_logRight _ h
  · exact endSequence_logRight _ _ h
  · exact endSequence_logRight _ _ h
  · exact h

theorem openForAll_logRight (reason : SeqReason) (h : s.log.right) : (openForAll reason s).log.right :=
  ite_logRight (endSequence_logRight _ _ h) (openEvery_logRight h)

theorem tellChannel_logRight (k : Nat) (h : s.log.right) : (tellChannel k s).log.right := runnerReport_logRight _ _ h

theorem applyTrip_logRight (cause : TripCause) (action : Bool) (h : s.log.right) : (applyTrip cause action s).log.right :=
  ite_logRight (openForAll_logRight .trip h) h

theorem limitEvaluate_logRight (written : List Nat) (h : s.log.right) : (limitEvaluate written s).log.right := by
  have hjudged : (judgeBreach (occurrences .cellBreachEnter (moveCells written s).2 (moveCells written s).1)).log.right :=
    h.mono (by simp)
  refine ite_logRight (applyTrip_logRight _ _ ?_) ?_ <;> exact ite_logRight (applyTrip_logRight _ _ hjudged) hjudged

end

end Sys2Proof.Machine
end

section
/-! SUPPORT. The capture log stays right (R144): the profile switch and sleep entry, the consequences of a tamper, start-up, the end of an
event and the life of a sweep. -/
namespace Sys2Proof.Machine

section
variable {s t : State}

/-! ## The profile switch and sleep entry (R146, R155, R184, R185) -/

theorem thresholdTake_logRight (h : s.log.right) : (thresholdTake s).log.right := by
  simpa [thresholdTake] using h.setThreshold s.prof.logThreshold

/-- A switch writes a CONTACTOR record for each weld, takes the profile's threshold and writes its UPDATE record (R108, R146, R185). -/
theorem applySwitch_logRight (h : s.log.right) : (applySwitch s).log.right := by
  unfold applySwitch
  split
  · exact h
  · rename_i m _
    extract_lets p _ s1 s2 s3 s4 s5 _ s6 s7
    have h4 : s4.log.right := h.mono (by simp [s4, s3, s2, s1])
    have h5 : s5.log.right := thresholdTake_logRight ((switchWelds_logRight h4).mono (by simp))
    have h6 : s6.log.right := h5.mono (by simp [s6])
    have hrecord := offerRecord_logRight false (.update .activated m.version none) h6
    exact hrecord.mono (by simp [s7])

theorem lookAgain_logRight (h : s.log.right) : (lookAgain s).log.right :=
  ite_logRight ((applySwitch_logRight h).mono (by simp)) (h.mono (by simp))

theorem pursue_logRight (h : s.log.right) : (pursue s).log.right := by
  have hheld : (if !s.upd.holding && s.quiet then holdSched s else s).log.right := ite_logRight (h.mono (by simp)) h
  exact ite_logRight (ite_logRight (lookAgain_logRight hheld) hheld) h

theorem entryThree_logRight (h : s.log.right) : (entryThree s).log.right := by
  refine ite_logRight ?_ h
  split
  · exact h
  · exact h
  · exact h
  · exact ite_logRight (applySwitch_logRight h) h

/-! ## Tamper and the end of an update (R181, R187) -/

theorem updFail_logRight (reason : UpdReason) (h : s.log.right) : (updFail reason s).log.right :=
  offerRecord_logRight false _ (h.mono (by simp))

theorem tamperUpdate_logRight (h : s.log.right) : (tamperUpdate s).log.right := by
  unfold tamperUpdate
  split
  · exact h
  · exact updFail_logRight _ h
  · exact updFail_logRight _ h
  · exact ite_logRight (updFail_logRight _ h) h

/-- A tamper writes the record of the update that it ends and then its own (R187). -/
theorem tamperEffects_logRight (h : s.log.right) : (tamperEffects s).log.right := by
  unfold tamperEffects
  extract_lets _ s1 s2 s3
  have h1 : s1.log.right := h.mono (by simp [s1])
  have h2 : s2.log.right := (tamperUpdate_logRight h1).mono (by simp [s2])
  have h3 : s3.log.right := offerRecord_logRight true _ h2
  exact h3.mono (by simp)

theorem tamperAccept_logRight (h : s.log.right) : (tamperAccept s).log.right := ite_logRight h (tamperEffects_logRight h)

/-! ## Start-up and the end of an event (R153, R175, R176) -/

theorem takeLatch_logRight (h : s.log.right) : (takeLatch s).log.right :=
  ite_logRight (tamperEffects_logRight (h.mono (by simp))) (h.mono (by simp))

theorem startupRead_logRight (h : s.log.right) : (startupRead s).log.right := by
  unfold startupRead
  extract_lets s1 _ s2
  have h2 : s2.log.right := h.mono (by simp [s2, s1])
  exact (takeLatch_logRight h2).mono (by simp)

theorem takeProfile_logRight (p : Profile) (h : s.log.right) : (takeProfile p s).log.right := by
  unfold takeProfile
  extract_lets s1 s2
  have h2 : s2.log.right := h.mono (by simp [s2, s1])
  exact (thresholdTake_logRight (h2.mono (t := countersTake s2) (by simp))).mono (by simp)

theorem selectionEnd_logRight (h : s.log.right) : (selectionEnd s).log.right := by
  unfold selectionEnd
  split
  · exact takeProfile_logRight _ h
  · have hended : (s.setNvs { s.nvs with active := none, activeVer := none, sel := .ended }).log.right := h
    exact (takeProfile_logRight factoryProfile hended).mono (by simp)

theorem selectionProgress_logRight (h : s.log.right) : (selectionProgress s).log.right := by
  have hread : (if s.nvs.sel = .unread then startupRead s else s).log.right := ite_logRight (startupRead_logRight h) h
  exact ite_logRight (selectionEnd_logRight hread) hread

theorem startupProgress_logRight (h : s.log.right) : (startupProgress s).log.right :=
  ite_logRight ((selectionProgress_logRight h).mono (by simp)) h

/-- What every event ends with keeps the log right. -/
theorem finish_logRight (h : s.log.right) : (finish s).log.right := by
  have hpursued := pursue_logRight (h.mono (t := nvBegin s) (by simp))
  have hentry := entryThree_logRight (hpursued.mono (t := entryTwo (entryOne (pursue (nvBegin s)))) (by simp))
  exact (startupProgress_logRight hentry).mono (by simp [finish])

/-! ## The life of a sweep (R10 to R13, R24 to R36) -/

theorem tellRunner_logRight (h : s.log.right) : (tellRunner s).log.right := by
  unfold tellRunner
  split
  · exact ite_logRight (runnerSwept_logRight _ _ h) h
  · exact h

/-- A completion writes what the snapshot check, a trip and the runner write, in the order of R12. -/
theorem completeSweep_logRight (w : SweepRec) (h : s.log.right) : (completeSweep w s).log.right := by
  unfold completeSweep
  extract_lets _ s1 s2 s3
  have h1 : s1.log.right := h.mono (by simp [s1])
  have h2 : s2.log.right := ite_logRight (snapshotCheck_logRight (h1.mono (by simp))) h1
  have h3 : s3.log.right := ite_logRight (h2.mono (by simp)) (limitEvaluate_logRight _ h2)
  exact (tellRunner_logRight (h3.mono (t := chainIdle (sweepDone s3)) (by simp))).mono (by simp)

theorem completeIfAligned_logRight (h : s.log.right) : (completeIfAligned s).log.right := by
  unfold completeIfAligned
  split
  · exact ite_logRight (completeSweep_logRight _ h) h
  · exact h

theorem readFrom_logRight (k : Nat) (h : s.log.right) : (readFrom k s).log.right := by
  unfold readFrom
  split
  · split
    · exact h.mono (by simp)
    · exact completeIfAligned_logRight h
  · exact h

theorem readDone_logRight (k : Nat) (o : MonitorReply) (h : s.log.right) : (readDone k o s).log.right := by
  have hentry : (readEntry k o s).log.right := h.mono (by simp)
  unfold readDone
  dsimp only
  split
  · exact readFrom_logRight _ (ite_logRight (hentry.mono (by simp)) hentry)
  · exact hentry

theorem windowEnds_logRight (h : s.log.right) : (windowEnds s).log.right := by
  unfold windowEnds
  split
  · exact readFrom_logRight _ (h.mono (by simp))
  all_goals exact h

theorem chainReply_logRight (bs : List Byte) (h : s.log.right) : (chainReply bs s).log.right := by
  unfold chainReply
  split
  · exact ite_logRight (readDone_logRight _ _ h) h
  · exact ite_logRight (h.mono (by simp)) h
  all_goals exact h

theorem replyWindowEnds_logRight (h : s.log.right) : (replyWindowEnds s).log.right := by
  unfold replyWindowEnds
  split
  · exact readDone_logRight _ _ (h.mono (by simp))
  · exact h.mono (by simp)
  all_goals exact h

end

end Sys2Proof.Machine
end

section
/-! SUPPORT. The capture log stays right (R144): requests, the pack link, expiries, the tick, the conversions, the NV engine's steps and the
verification, and so every command. -/
namespace Sys2Proof.Machine

section
variable {s t : State}

/-! ## Requests and the pack link (R111, R116, R129, R149, R191 to R201) -/

theorem answer_ite_logRight {p : Prop} [Decidable p] {a b : Answer} (ha : a.1.log.right) (hb : b.1.log.right) :
    (if p then a else b).1.log.right := by
  split
  · exact ha
  · exact hb

theorem ownClearContactorFault_logRight (channel : Byte) (h : s.log.right) : (ownClearContactorFault channel s).1.log.right :=
  answer_ite_logRight h (answer_ite_logRight h (answer_ite_logRight h (handOn_logRight h)))

theorem ownRunSequence_logRight (id : Byte) (h : s.log.right) : (ownRunSequence id s).1.log.right :=
  answer_ite_logRight h (answer_ite_logRight h (answer_ite_logRight h (answer_ite_logRight h (proceed_logRight 0 h))))

/-- A release removes the oldest records and keeps the next number (R149). -/
theorem ownLogRelease_logRight (n : Byte) (h : s.log.right) : (ownLogRelease n s).1.log.right :=
  answer_ite_logRight h (by simpa [okWith] using h.drop n.toNat)

/-- Of the requests four reach the log: three by what they command, and LOG_RELEASE. -/
theorem own_logRight (r : Request) (h : s.log.right) : (own r s).1.log.right := by
  cases r with
  | clearContactorFault channel => exact ownClearContactorFault_logRight channel h
  | runSequence id => exact ownRunSequence_logRight id h
  | openAll => exact openForAll_logRight .aborted h
  | logRelease n => exact ownLogRelease_logRight n h
  | readCells | readResistance | logRead | resetPart =>
    simp only [own, ownReadCells, ownReadResistance, ownLogRead, ownResetPart]
    split <;> exact h
  | readSweep | readModules | readAnalog | readConditions | readContactors | readRunner | readCounters | readProfileInfo | status
  | identify => exact h
  | _ => exact h.mono (by simp [own])

theorem answer_logRight (f : InFrame) (h : s.log.right) : (answer f s).1.log.right := by
  refine answer_ite_logRight h (answer_ite_logRight h ?_)
  split
  · exact h
  · exact own_logRight _ h

theorem serve_logRight (f : InFrame) (h : s.log.right) : (serve f s).log.right := answer_logRight f h

theorem offerFrame_logRight (f : InFrame) (h : s.log.right) : (offerFrame f s).log.right := by
  unfold offerFrame
  split
  · exact serve_logRight f h
  · exact h
  · exact h.mono (by simp)

theorem frameArrives_logRight (f : InFrame) (h : s.log.right) : (frameArrives f s).log.right :=
  ite_logRight (h.mono (by simp)) (offerFrame_logRight f h)

theorem nextFrame_logRight (h : s.log.right) : (nextFrame s).log.right := by
  unfold nextFrame
  split
  · exact serve_logRight _ h
  · exact h

/-- After a reset the log is empty (R142). -/
theorem resetPart_logRight (s : State) : (resetPart s).log.right := logReset_right

theorem transmitEnds_logRight (h : s.log.right) : (transmitEnds s).log.right := by
  unfold transmitEnds
  split
  · exact h
  · split
    · exact ite_logRight (resetPart_logRight _) (nextFrame_logRight h)
    all_goals exact h

theorem frameJudged_logRight (h : s.log.right) : (frameJudged s).log.right := by
  unfold frameJudged
  split
  · refine ite_logRight ?_ h
    dsimp only
    split
    · exact offerFrame_logRight _ (h.mono (by simp))
    · exact h.mono (by simp)
  all_goals exact h

theorem rxCatchUp_logRight (start : Time) (h : s.log.right) : (rxCatchUp start s).log.right := by
  unfold rxCatchUp
  split
  · exact h
  · exact h
  · exact ite_logRight h (h.mono (by simp))
  · exact ite_logRight (frameJudged_logRight h) (ite_logRight h (h.mono (by simp)))

theorem byteArrives_logRight (b : Byte) (h : s.log.right) : (byteArrives b s).log.right :=
  ite_logRight (h.mono (by simp)) ((rxCatchUp_logRight (s.now - us 10) h).mono (by simp))

/-! ## Expiries and acceptances (R47, R94 to R107, R119, R186) -/

theorem overCurrentTaken_logRight (h : s.log.right) : (overCurrentTaken s).log.right := by
  unfold overCurrentTaken
  extract_lets on _ s1
  have h1 : s1.log.right := h.mono (by simp [s1])
  exact ite_logRight (ite_logRight (applyTrip_logRight _ _ h1) h1) h

theorem feedbackTaken_logRight (k : Nat) (h : s.log.right) : (feedbackTaken k s).log.right := by
  have hacted : (actOnFeedback k (s.setChan k (s.chan k).accept)).1.log.right := actOnFeedback_logRight k h
  exact ite_logRight (ite_logRight (tellChannel_logRight k hacted) hacted) h

theorem makeMaxTaken_logRight (k : Nat) (h : s.log.right) : (makeMaxTaken k s).log.right :=
  ite_logRight (tellChannel_logRight k (enterFault_logRight k _ _ _ h)) h

theorem breakMaxTaken_logRight (k : Nat) (h : s.log.right) : (breakMaxTaken k s).log.right :=
  ite_logRight (tellChannel_logRight k (enterFault_logRight k _ _ _ h)) h

theorem settlingTaken_logRight (k : Nat) (h : s.log.right) : (settlingTaken k s).log.right :=
  ite_logRight (ite_logRight (tellChannel_logRight k (enterFault_logRight k _ _ _ h)) h) h

theorem stepTimerTaken_logRight (h : s.log.right) : (stepTimerTaken s).log.right := ite_logRight (runnerTimer_logRight h) h

theorem tamperTaken_logRight (h : s.log.right) : (tamperTaken s).log.right := ite_logRight (tamperAccept_logRight h) h

theorem takeEvent_logRight {f : State → State} (hf : ∀ {x : State}, x.log.right → (f x).log.right) (due : Bool) (h : s.log.right) :
    (takeEvent due f s).log.right := ite_logRight (finish_logRight (hf h)) h

theorem takeEach_logRight {f : Nat → State → State} (hf : ∀ i {x : State}, x.log.right → (f i x).log.right) (l : List Nat)
    (h : s.log.right) : (takeEach f l s).log.right := by
  induction l generalizing s with
  | nil => exact h
  | cons i rest ih => exact ih (hf i h)

/-- Each piece of the due work is a whole event that keeps the log right, and so they all do (log 2). -/
theorem dueWork_logRight (h : s.log.right) : (dueWork s).log.right := by
  unfold dueWork
  extract_lets s0 s1 s2 s3 s4 s5 s6 s7 s8 s9 s10 s11 s12
  have h0 : s0.log.right := takeEvent_logRight id _ h
  have h1 : s1.log.right := takeEach_logRight (fun i _ => takeEvent_logRight (f := slotTaken i) (fun hx => hx.mono (by simp)) _) _ h0
  have h2 : s2.log.right :=
    takeEach_logRight (fun i _ => takeEvent_logRight (f := freshnessTaken i) (fun hx => hx.mono (by simp)) _) _ h1
  have h3 : s3.log.right :=
    takeEach_logRight (fun i _ => takeEvent_logRight (f := referenceTaken i) (fun hx => hx.mono (by simp)) _) _ h2
  have h4 : s4.log.right := takeEvent_logRight overCurrentTaken_logRight _ h3
  have h5 : s5.log.right := takeEach_logRight (fun k _ => takeEvent_logRight (feedbackTaken_logRight k) _) _ h4
  have h6 : s6.log.right := takeEach_logRight (fun k _ => takeEvent_logRight (f := pullInTaken k) (fun hx => hx.mono (by simp)) _) _ h5
  have h7 : s7.log.right := takeEach_logRight (fun k _ => takeEvent_logRight (makeMaxTaken_logRight k) _) _ h6
  have h8 : s8.log.right := takeEach_logRight (fun k _ => takeEvent_logRight (breakMaxTaken_logRight k) _) _ h7
  have h9 : s9.log.right := takeEach_logRight (fun k _ => takeEvent_logRight (settlingTaken_logRight k) _) _ h8
  have h10 : s10.log.right := takeEvent_logRight stepTimerTaken_logRight _ h9
  have h11 : s11.log.right := takeEvent_logRight (f := sleepTimerTaken) (fun hx => hx.mono (by simp)) _ h10
  have h12 : s12.log.right := takeEvent_logRight (fun hx => ite_logRight (hx.mono (by simp)) (tamperTaken_logRight hx)) _ h11
  exact takeEvent_logRight frameJudged_logRight _ h12

/-! ## The tick, the conversions, the NV engine's steps and the verification (R40 to R53, R172, R180, R181) -/

theorem tickChan_logRight (k : Nat) (h : s.log.right) : (tickChan k s).log.right := by
  unfold tickChan
  extract_lets c c1 s1 s2
  have h2 : s2.log.right := ite_logRight (tellChannel_logRight k (handOn_logRight h)) h
  exact ite_logRight h2 h2

theorem tickDrivers_logRight (h : s.log.right) : (tickDrivers s).log.right :=
  ite_logRight h (tickChan_logRight 3 (tickChan_logRight 2 (tickChan_logRight 1 (tickChan_logRight 0 h))))

theorem tickWork_logRight (feedback : BitVec 4) (tamper : Bool) (h : s.log.right) : (tickWork feedback tamper s).log.right := by
  unfold tickWork
  extract_lets s1 s2 s3
  have h1 : s1.log.right := h.mono (by simp [s1])
  have h2 : s2.log.right := tickDrivers_logRight h1
  exact h2.mono (by simp [s3])

theorem arrival_logRight (e : RingEntry) (h : s.log.right) : (arrival e s).log.right := by
  unfold arrival
  extract_lets s1 s2 s3
  have h2 : s2.log.right := completeIfAligned_logRight (h.mono (by simp [s1]))
  have h3 : s3.log.right := ite_logRight (runnerArrival_logRight e h2) h2
  exact h3.mono (by simp)

theorem dueAtDelivery_logRight (h : s.log.right) : (dueAtDelivery s).log.right :=
  takeEvent_logRight stepTimerTaken_logRight _ (takeEvent_logRight overCurrentTaken_logRight _ h)

theorem deliver_logRight (u : Time) (current : Int) (pack link : Nat) (h : s.log.right) :
    (deliver u current pack link s).log.right :=
  ite_logRight (arrival_logRight _ ((dueAtDelivery_logRight h).mono (by simp))) (dueAtDelivery_logRight h)

theorem deadlineTaken_logRight (target : Option Nat) (h : s.log.right) : (deadlineTaken target s).log.right := by
  unfold deadlineTaken
  split
  · exact completeIfAligned_logRight (h.mono (by simp))
  · exact h

theorem commitDone_logRight (x : AB) (g : BitVec 32) (h : s.log.right) : (commitDone x g s).log.right :=
  offerRecord_logRight false _ (h.mono (by simp))

/-- Of the operations a BANK_COMMIT alone writes a record at its end, committed or stopped (R181). -/
theorem operationEnds_logRight (f : NvFlight) (h : s.log.right) : (operationEnds f s).log.right := by
  unfold operationEnds
  split
  · rename_i x g _
    exact ite_logRight (updFail_logRight _ (h.mono (by simp))) (commitDone_logRight x g (h.mono (by simp)))
  all_goals exact h.mono (by simp)

theorem nvStepTaken_logRight (h : s.log.right) : (nvStepTaken s).log.right := by
  unfold nvStepTaken
  split
  · exact h
  · extract_lets s1 _ s2
    have h2 : s2.log.right := h.mono (by simp [s2, s1])
    split
    · exact ite_logRight (updFail_logRight _ h2) h2
    · exact operationEnds_logRight _ h2

theorem verified_logRight (h : s.log.right) : (verified s).log.right := by
  refine ite_logRight (ite_logRight (updFail_logRight _ h) (ite_logRight (updFail_logRight _ h) ?_)) h
  dsimp only
  split
  · rename_i ho
    exact h.mono (by simp [offerOp_frame _ _ _ ho])
  · exact updFail_logRight _ h

/-! ## The commands -/

/-- An event whose own effects keep the log right keeps it so, since its end does. -/
theorem logRight_of_finish {x : State} (h : x.log.right)
    (hx : Host.Outcome.next (finish x) = (.next t : Host.Outcome State Fault Refusal)) : t.log.right :=
  Host.Outcome.next.inj hx ▸ finish_logRight h

/-- Each command's meaning keeps the log right: an event's by its own effects, a request's as the arrival of its frame. -/
theorem exec_logRight {c : Instr} (h : s.log.right) (ht : exec c s = .next t) : t.log.right := by
  cases c with
  | powerOnReset => exact logRight_of_finish (resetPart_logRight s) ht
  | tick feedback tamper => exact logRight_of_finish (tickWork_logRight feedback tamper (dueWork_logRight h)) ht
  | slotExpiry slot => exact logRight_of_finish (h.mono (t := slotTaken slot s) (by simp)) ht
  | freshnessExpiry cell => exact logRight_of_finish (h.mono (t := freshnessTaken cell s) (by simp)) ht
  | referenceExpiry cell => exact logRight_of_finish (h.mono (t := referenceTaken cell s) (by simp)) ht
  | samplingInstant => exact logRight_of_finish (h.mono (t := sampleInstant s) (by simp)) ht
  | conversionDelivered instant current pack link => exact logRight_of_finish (deliver_logRight instant current pack link h) ht
  | overCurrentRunComplete => exact logRight_of_finish (overCurrentTaken_logRight h) ht
  | alignDeadline target => exact logRight_of_finish (deadlineTaken_logRight target h) ht
  | sampleBroadcastSent => exact logRight_of_finish (h.mono (t := broadcastSent s) (by simp)) ht
  | conversionWindowEnd => exact logRight_of_finish (windowEnds_logRight h) ht
  | chainReplyComplete bytes => exact logRight_of_finish (chainReply_logRight bytes h) ht
  | replyWindowEnd => exact logRight_of_finish (replyWindowEnds_logRight h) ht
  | chainPowerUpDone => exact logRight_of_finish (h.mono (t := chainUp s) (by simp)) ht
  | feedbackAccepted channel => exact logRight_of_finish (feedbackTaken_logRight channel h) ht
  | pullInEnd channel => exact logRight_of_finish (h.mono (t := pullInTaken channel s) (by simp)) ht
  | makeMaxExpiry channel => exact logRight_of_finish (makeMaxTaken_logRight channel h) ht
  | breakMaxExpiry channel => exact logRight_of_finish (breakMaxTaken_logRight channel h) ht
  | settlingEnd channel => exact logRight_of_finish (settlingTaken_logRight channel h) ht
  | stepTimerExpiry => exact logRight_of_finish (stepTimerTaken_logRight h) ht
  | sleepTimerExpiry => exact logRight_of_finish (h.mono (t := sleepTimerTaken s) (by simp)) ht
  | hostArrival => exact logRight_of_finish (h.mono (t := hostArrive s) (by simp)) ht
  | wakePulseEnd => exact logRight_of_finish (h.mono (t := wakePulseEnds s) (by simp)) ht
  | nvStepComplete => exact logRight_of_finish (nvStepTaken_logRight h) ht
  | verificationComplete => exact logRight_of_finish (verified_logRight h) ht
  | tamperAccepted => exact logRight_of_finish (tamperTaken_logRight h) ht
  | tamperReleaseAccepted => exact logRight_of_finish (h.mono (t := tamperReleaseTaken s) (by simp)) ht
  | receiverIdleWaitEnd => exact logRight_of_finish (h.mono (t := idleWaitEnds s) (by simp)) ht
  | frameGapTimeout => exact logRight_of_finish (h.mono (t := gapEnds s) (by simp)) ht
  | frameComplete => exact logRight_of_finish (frameJudged_logRight h) ht
  | unknownRequest type tag payload => exact logRight_of_finish (frameArrives_logRight _ h) ht
  | transmitFrameEnd => exact logRight_of_finish (transmitEnds_logRight h) ht
  | linkByteReceived byte => exact logRight_of_finish (byteArrives_logRight byte h) ht
  | _ => exact logRight_of_finish (frameArrives_logRight _ h) ht

end

/-- Settles O5: a command from the queue keeps the log right by `exec_logRight`, the idle step by what is due and the passing of time. -/
theorem logStaysRight : Obligations.LogStaysRight := by
  intro s t h hstep
  unfold step at hstep
  split at hstep
  · rw [← Host.Outcome.next.inj hstep]
    exact (dueWork_logRight h).mono (t := passTime (dueWork s)) (by simp)
  · rename_i c rest _
    exact exec_logRight (s := s.setPending rest) h hstep

end Sys2Proof.Machine
end

section
/-! SUPPORT. Admission to the capture log, class by class (R144, R145), and the event counters: what an occurrence makes of them, and the
snapshot check of a full sweep (R135 to R138). -/
namespace Sys2Proof.Machine

/-! ## A condition is the condition unit's alone (R82) -/

theorem liveCond_eq_setCnd (c : Cond) (holds : Bool) (s : State) : liveCond c holds s = s.setCnd (liveCond c holds s).cnd := by
  cases holds with
  | false => rfl
  | true => exact congrArg (·.setCnd (setCond c s).cnd) (setCond_cnd_only c s).2

/-! ## Admission (R144, R145) -/

/-- Of an admitted record's conditions LOG_THRESHOLD alone is judged (R147). -/
theorem offerRecord_condSet_of_room {fault : Bool} {s : State} (h : s.log.records.length < admitLimit fault) (body : RecordBody)
    (c : Cond) : (offerRecord fault body s).condSet c =
      if c = .logThreshold then decide (s.log.threshold ≤ s.log.records.length + 1) else s.condSet c := by
  rw [offerRecord_of_room h, judgeThreshold, condSet_liveCond]
  simp [State.condSet]

/-- An offer changes the log and the condition unit alone. -/
theorem offerRecord_setLog (fault : Bool) (body : RecordBody) (s : State) :
    (offerRecord fault body s).setLog s.log = s.setCnd (offerRecord fault body s).cnd := by
  rcases Nat.lt_or_ge s.log.records.length (admitLimit fault) with hroom | hfull
  · rw [offerRecord_of_room hroom, judgeThreshold, liveCond_eq_setCnd]
    rfl
  · rw [offerRecord_of_full hfull, show setCond .logFull s = liveCond .logFull true s from rfl, liveCond_eq_setCnd]
    rfl

/-- Settles O59: by the room that the record's class finds, the admission or the refusal. -/
theorem recordsAreAdmittedByClass : Obligations.RecordsAreAdmittedByClass := by
  intro s fault body
  refine ⟨fun hroom => ⟨offerRecord_log_of_room hroom body, ?_, ?_⟩, fun hfull => ⟨offerRecord_log_of_full hfull body, ?_, ?_⟩,
    offerRecord_setLog fault body s⟩
  · rw [offerRecord_condSet_of_room hroom, if_neg nofun]
  · rw [offerRecord_condSet_of_room hroom, if_pos rfl, decide_eq_true_iff]
  · rw [offerRecord_of_full hfull, condSet_setCond, beq_self_eq_true, Bool.or_true]
  · rw [offerRecord_of_full hfull, condSet_setCond]
    exact Bool.or_false _

/-! ## Occurrences (R135, R136) -/

section
variable {k : EventKind} {s : State}

/-- The set that a fold over numbers makes of those that pass a test. -/
theorem foldl_or_twoPow_getLsbD (test : Nat → Bool) (l : List Nat) (m : Byte) {i : Nat} (hi : i < 8) :
    (l.foldl (fun m n => if test n then m ||| BitVec.twoPow 8 n else m) m).getLsbD i
      = (m.getLsbD i || (decide (i ∈ l) && test i)) := by
  induction l generalizing m with
  | nil => simp
  | cons n rest ih =>
    rw [List.foldl_cons, ih]
    by_cases hn : n = i
    · subst hn
      cases htest : test n <;> simp [hi]
    · have hne : ¬ i = n := fun e => hn e.symm
      cases htest : test n <;> simp [hn, hne]

theorem Counter.wraps_iff (c : Counter) : c.wraps k = true ↔ c.kind = k ∧ c.value = BitVec.allOnes 24 := by
  rw [Counter.wraps, Bool.and_eq_true, beq_iff_eq, beq_iff_eq]

/-- A counter's bit of the set that an occurrence adds says whether it wraps. -/
theorem wrapMask_getLsbD {cs : List Counter} {n : Nat} {c : Counter} (hn : n < 8) (hc : cs[n]? = some c) :
    (wrapMask k cs).getLsbD n = c.wraps k := by
  rw [wrapMask, foldl_or_twoPow_getLsbD (fun n => (cs.getD n counterReset).wraps k) _ _ hn, List.getD_eq_getElem?_getD, hc]
  simp [hn]

/-- What an occurrence makes of the counters and the overflow set, whether or not one wraps. -/
@[simp] theorem occurrence_ctr (k : EventKind) (s : State) : (occurrence k s).ctr =
    { counters := s.ctr.counters.map (Counter.count k), overflow := s.ctr.overflow ||| wrapMask k s.ctr.counters } := by
  unfold occurrence
  dsimp only
  split <;> simp

/-- An occurrence changes the counters and the condition unit alone. -/
theorem occurrence_setCtr (k : EventKind) (s : State) : (occurrence k s).setCtr s.ctr = s.setCnd (occurrence k s).cnd := by
  unfold occurrence
  dsimp only
  split
  · rfl
  · rw [judgeOverflow, liveCond_eq_setCnd]
    rfl

/-- A bit that is set makes a set that is not empty. -/
theorem ne_zero_of_getLsbD {m : Byte} {i : Nat} (h : m.getLsbD i = true) : m ≠ 0 := by
  rintro rfl
  simp at h

/-- COUNTER_OVERFLOW is set when a counter wraps (R136). -/
theorem occurrence_counterOverflow {n : Nat} (h : (wrapMask k s.ctr.counters).getLsbD n = true) :
    (occurrence k s).condSet .counterOverflow = true := by
  have hset : (s.ctr.overflow ||| wrapMask k s.ctr.counters).getLsbD n = true := by rw [BitVec.getLsbD_or, h, Bool.or_true]
  unfold occurrence
  dsimp only
  rw [if_neg (ne_zero_of_getLsbD h), judgeOverflow, condSet_liveCond, if_pos rfl, bne_iff_ne]
  exact ne_zero_of_getLsbD hset

theorem Counter.count_of_other {c : Counter} (h : c.kind ≠ k) : c.count k = c := if_neg h

theorem Counter.count_of_kind {c : Counter} (h : c.kind = k) : c.count k =
    { c with value := c.value + 1, armed := c.armed || decide (c.kind = k ∧ c.value = BitVec.allOnes 24) && c.snap } := by
  rw [Counter.count, if_pos h]
  simp only [← Counter.wraps_iff, Bool.decide_eq_true]

end

/-! ## The snapshot check (R137, R138) -/

section
variable {s : State}

theorem snapshotCheck_of_unarmed (h : ∀ c ∈ s.ctr.counters, c.armed = false) : snapshotCheck s = s := if_neg (by simpa using h)

theorem snapshotCheck_of_armed {m : Summary} (h : ∃ c ∈ s.ctr.counters, c.armed = true) (hm : s.sch.summary = some m) :
    snapshotCheck s = (offerRecord false (.snapshot m.tag m.tb m.minCell m.maxCell m.sum m.aligned s.ctr.overflow) s).setCtr
      { s.ctr with counters := s.ctr.counters.map Counter.reloaded } := by
  rw [snapshotCheck, if_pos (List.any_eq_true.2 h), hm]
  simp

end

/-- Settles O60: the counter by its kind, its bit of the overflow set by whether it wraps; the snapshot check by whether one is armed. -/
theorem occurrencesCountAndWrap : Obligations.OccurrencesCountAndWrap := by
  refine ⟨fun s k n c _ hn hc => ?_, fun s => ⟨snapshotCheck_of_unarmed, fun m => snapshotCheck_of_armed⟩⟩
  intro t wraps
  have hbit : (wrapMask k s.ctr.counters).getLsbD n = c.wraps k := wrapMask_getLsbD hn hc
  have hcounter : t.ctr.counters[n]? = some (c.count k) := by simp [t, hc]
  refine ⟨fun hk => ?_, fun hk => ?_, ?_, fun hw => ?_, occurrence_setCtr k s⟩
  · rw [hcounter, Counter.count_of_other hk]
  · rw [hcounter, Counter.count_of_kind hk]
  · rw [show t.ctr = _ from occurrence_ctr k s, BitVec.getLsbD_or, Bool.or_eq_true, hbit, Counter.wraps_iff]
  · exact occurrence_counterOverflow (hbit.trans ((Counter.wraps_iff c).2 hw))

end Sys2Proof.Machine
end

section
/-! SUPPORT. The requests of the counters and of the capture log: SET_COUNTER, CLEAR_OVERFLOW, LOG_READ and LOG_RELEASE (R139, R140, R148,
R149), with the bytes of a record (R203). -/
namespace Sys2Proof.Machine

/-! ## A payload that does not read (R195) -/

/-- A request in a part that serves it at once: whatever the checks and the owning block answer is the reply (R194, R195). -/
theorem request_of_answer {s t : State} {tag : Byte} {r : Request} {st : Status} {body : ReplyBody} (hs : s.serving)
    (ha : answer (requestFrame tag r) (held tag r s) = (t, { status := st, body := body })) :
    request tag r s = .next (finish (replied tag r st body t)) := by
  obtain ⟨hmode, hhold⟩ := hs
  have harrives : requestArrives tag r s = serve (requestFrame tag r) (held tag r s) := by
    rw [requestArrives, frameArrives, hmode, offerFrame, hhold]
    rfl
  rw [request, harrives, serve, ha]
  rfl

/-- A request whose payload has a length that its kind does not allow is refused (R195 check 3). -/
theorem request_of_unread {s : State} {tag : Byte} {r : Request} (hs : s.serving) (hp : parseArgs r.code.toNat r.payload = none) :
    request tag r s = .next (finish (replied tag r .badArgument .empty (held tag r s))) := by
  obtain ⟨hmode, -⟩ := id hs
  exact request_of_answer hs (by simp [answer, requestFrame, isRequestCode_code, hmode, Mode.serves, hp, refuse, plain])

/-! ## SET_COUNTER (R139, R202) -/

/-- The twelve kinds have the codes below 12. -/
theorem exists_eventKindOf {n : Nat} (h : n < 12) : ∃ e, eventKindOf n = some e := by
  have hall : ∀ i : Fin 12, (eventKindOf i).isSome = true := by decide
  exact Option.isSome_iff_exists.1 (hall ⟨n, h⟩)

theorem eventKindOf_of_ge {n : Nat} (h : 12 ≤ n) : eventKindOf n = none := by
  obtain ⟨m, rfl⟩ := Nat.exists_eq_add_of_le' h
  rfl

/-- Three bytes, low byte first, read back. -/
theorem word24_leBytes (x : BitVec 24) :
    word24 (BitVec.ofNat 8 x.toNat) (BitVec.ofNat 8 (x.toNat / 256)) (BitVec.ofNat 8 (x.toNat / 256 / 256)) = x := by
  refine BitVec.eq_of_toNat_eq ?_
  have hx := x.isLt
  simp only [word24, leNat, BitVec.toNat_ofNat]
  omega

theorem parseArgs_setCounter (number kind flags : Byte) (value reload : BitVec 24) :
    parseArgs (Request.setCounter number kind flags value reload).code.toNat
      (Request.setCounter number kind flags value reload).payload = some (.setCounter number kind flags value reload) :=
  congrArg₂ (fun x y => some (Request.setCounter number kind flags x y)) (word24_leBytes value) (word24_leBytes reload)

section
variable {s : State} {number kind flags : Byte} {value reload : BitVec 24}

theorem ownSetCounter_of_refused (h : 8 ≤ number.toNat ∨ 12 ≤ kind.toNat) :
    ownSetCounter number kind flags value reload s = (s, plain .badArgument) := by
  unfold ownSetCounter
  split
  · rename_i e he
    have hkind : kind.toNat < 12 := by
      by_contra hge
      rw [eventKindOf_of_ge (Nat.not_lt.1 hge)] at he
      cases he
    exact if_neg (by omega)
  · rfl

theorem ownSetCounter_of_kind {e : EventKind} (hn : number.toNat < 8) (he : eventKindOf kind.toNat = some e) :
    ownSetCounter number kind flags value reload s =
      (s.setCtr { s.ctr with
          counters := s.ctr.counters.set number.toNat
            { kind := e, value := value, reload := reload, snap := flags.getLsbD 0, armed := false } },
        { status := .ok,
          body := .counter { kind := e, value := value, reload := reload, snap := flags.getLsbD 0, armed := false } }) := by
  rw [ownSetCounter, he]
  exact if_pos hn

end

/-! ## CLEAR_OVERFLOW (R140, R202) -/

theorem parseArgs_clearOverflow {numbers : List Byte} (h : numbers.length ≤ 8) :
    parseArgs (Request.clearOverflow numbers).code.toNat (Request.clearOverflow numbers).payload = some (.clearOverflow numbers) :=
  if_pos h

theorem parseArgs_clearOverflow_of_long {numbers : List Byte} (h : 8 < numbers.length) :
    parseArgs (Request.clearOverflow numbers).code.toNat (Request.clearOverflow numbers).payload = none := if_neg (Nat.not_le.2 h)

theorem not_twoPow_getLsbD {i : Nat} (hi : i < 8) (n : Nat) : (~~~(BitVec.twoPow 8 n)).getLsbD i = (n != i) := by
  rw [BitVec.getLsbD_not, BitVec.getLsbD_twoPow]
  by_cases hn : n = i
  · simp [hn, hi]
  · rw [bne_iff_ne.2 hn]
    simp [hn, hi]

/-- What is left of the overflow set: the counters that are not named. -/
theorem removeCounters_getLsbD (set : Byte) (numbers : List Byte) {i : Nat} (hi : i < 8) :
    (removeCounters set numbers).getLsbD i = (set.getLsbD i && numbers.all fun n => n.toNat != i) := by
  unfold removeCounters
  induction numbers generalizing set with
  | nil => simp
  | cons n rest ih => rw [List.foldl_cons, ih, List.all_cons, BitVec.getLsbD_and, not_twoPow_getLsbD hi, Bool.and_assoc]

theorem ownClearOverflow_of_refused {numbers : List Byte} (h : ∃ n ∈ numbers, 8 ≤ n.toNat) (s : State) :
    ownClearOverflow numbers s = (s, plain .badArgument) := if_neg (by simpa using h)

theorem ownClearOverflow_of_named {numbers : List Byte} (h : ∀ n ∈ numbers, n.toNat < 8) (s : State) :
    ownClearOverflow numbers s =
      (liveCond .counterOverflow (removeCounters s.ctr.overflow numbers != 0)
          (s.setCtr { s.ctr with overflow := removeCounters s.ctr.overflow numbers }),
        { status := .ok, body := .overflow (removeCounters s.ctr.overflow numbers) }) := by
  rw [ownClearOverflow, if_pos (by simpa using h)]
  simp [okWith, judgeOverflow]

/-- Settles O24: each request by its range checks, the set that is left bit by bit, the kinds by their codes. -/
theorem setCounterAndClearOverflow : Obligations.SetCounterAndClearOverflow := by
  refine ⟨fun s tag number kind flags value reload hs => ⟨fun hno => ?_, fun hn hk => ?_⟩,
    fun s tag numbers hs => ⟨fun hno => ?_, fun hlen hnamed => ?_⟩, rfl, fun n => eventKindOf_of_ge⟩
  · exact request_of_serving hs (parseArgs_setCounter number kind flags value reload) (ownSetCounter_of_refused hno)
  · obtain ⟨e, he⟩ := exists_eventKindOf hk
    exact ⟨e, he, request_of_serving hs (parseArgs_setCounter number kind flags value reload) (ownSetCounter_of_kind hn he)⟩
  · rcases Nat.lt_or_ge 8 numbers.length with hlong | hshort
    · exact request_of_unread hs (parseArgs_clearOverflow_of_long hlong)
    · have hbad := hno.resolve_left (Nat.not_lt.2 hshort)
      exact request_of_serving hs (parseArgs_clearOverflow hshort) (ownClearOverflow_of_refused hbad _)
  · exact ⟨removeCounters s.ctr.overflow numbers,
      request_of_serving hs (parseArgs_clearOverflow hlen) (ownClearOverflow_of_named hnamed _),
      fun i hi => removeCounters_getLsbD _ numbers hi⟩

/-! ## LOG_READ and LOG_RELEASE (R148, R149) -/

section
variable {s : State} {n : Byte}

theorem ownLogRead_of_refused (h : n.toNat = 0 ∨ 4 < n.toNat) : ownLogRead n s = (s, plain .badArgument) := if_pos h

theorem ownLogRead_of_count (h0 : 0 < n.toNat) (h4 : n.toNat ≤ 4) : ownLogRead n s =
    okWith (.log s.log.records.length s.log.nextNo s.log.threshold (s.log.records.take n.toNat)) s := if_neg (by omega)

theorem ownLogRelease_of_zero (h : n.toNat = 0) : ownLogRelease n s = (s, plain .badArgument) := if_pos h

/-- A release removes the oldest records, and LOG_THRESHOLD follows what is left (R147, R149). -/
theorem ownLogRelease_of_count (h : 0 < n.toNat) : ownLogRelease n s =
    (liveCond .logThreshold (decide (s.log.threshold ≤ (s.log.records.drop n.toNat).length))
        (s.setLog { s.log with records := s.log.records.drop n.toNat }),
      { status := .ok, body := .released (min n.toNat s.log.records.length) (s.log.records.drop n.toNat).length }) := by
  rw [ownLogRelease, if_neg (Nat.pos_iff_ne_zero.1 h)]
  simp [okWith, judgeThreshold]

end

/-! ## The bytes of a record (R203) -/

theorem KState.code_eq_idxOf (x : KState) :
    x.code = BitVec.ofNat 8 ([KState.opened, .closing, .closed, .opening, .closeFailed, .dropout, .weldSuspect].idxOf x) := by
  cases x <;> rfl

theorem SeqReason.code_eq_idxOf (x : SeqReason) :
    x.code = BitVec.ofNat 8 ([SeqReason.gate, .closeFailed, .weldSuspect, .linkTimeout, .decayTimeout, .noPackVoltage, .sweepFailed,
      .fault, .trip, .aborted].idxOf x) := by cases x <;> rfl

theorem UpdOutcome.code_eq_idxOf (x : UpdOutcome) : x.code = BitVec.ofNat 8 ([UpdOutcome.committed, .activated, .failed].idxOf x) := by
  cases x <;> rfl

theorem UpdReason.code_eq_idxOf (x : UpdReason) :
    x.code = BitVec.ofNat 8 ([UpdReason.tag, .invalid, .nvBusy, .tamper].idxOf x) := by cases x <;> rfl

theorem flagByte_one (a : Bool) : flagByte [a] = BitVec.ofNat 8 (if a then 1 else 0) := by cases a <;> rfl

theorem flagByte_two (a b : Bool) : flagByte [a, b] = BitVec.ofNat 8 ((if a then 1 else 0) + (if b then 2 else 0)) := by
  cases a <;> cases b <;> rfl

theorem leBytes_one_eq (x : Nat) : leBytes 1 x = [BitVec.ofNat 8 x] := rfl

theorem currentBytes_eq_leBytes (i : Option Int) : currentBytes i = leBytes 2 ((i.getD 0) % 65536).toNat := by
  rw [currentBytes_eq, leBytes_eq_map]

theorem length_leBytes (n x : Nat) : (leBytes n x).length = n := by
  rw [leBytes_eq_map, List.length_map, List.length_range]

/-- The size of a record's body, by its kind (R203). -/
def RecordBody.size : RecordBody → Nat
  | .contactor _ _ _ _ _ _ _ _ => 18
  | .sequence _ _ _ => 9
  | .snapshot _ _ _ _ _ _ _ => 20
  | .tamper _ _ _ _ => 7
  | .update _ _ _ => 7

theorem RecordBody.length_bytes (b : RecordBody) : b.bytes.length = b.size := by
  cases b <;> simp [RecordBody.bytes, RecordBody.size, currentBytes, natBytes, timeBytes, le16, le32, length_leBytes]

/-- A CONTACTOR body: the make time, or the break time without one; the nearest ring entry's three readings, or zeros. -/
theorem RecordBody.bytes_contactor (k : Nat) (left entered : KState) (time : Time) (make brk : Option Nat) (hard : Bool)
    (ring : Option RingEntry) : (RecordBody.contactor k left entered time make brk hard ring).bytes =
      leBytes 1 k
        ++ leBytes 1 ([KState.opened, .closing, .closed, .opening, .closeFailed, .dropout, .weldSuspect].idxOf left)
        ++ leBytes 1 ([KState.opened, .closing, .closed, .opening, .closeFailed, .dropout, .weldSuspect].idxOf entered)
        ++ leBytes 1 ((if make.isSome then 1 else 0) + (if brk.isSome then 2 else 0) + (if ring.isSome then 4 else 0)
          + (if hard then 8 else 0))
        ++ leBytes 4 time.toNat ++ leBytes 4 ((make.or brk).getD 0)
        ++ (match ring with
          | some e => leBytes 2 (e.current % 65536).toNat ++ leBytes 2 e.pack ++ leBytes 2 e.link
          | none => [0, 0, 0, 0, 0, 0]) := by
  have htime : make.or brk = if make.isSome then make else brk := by cases make <;> rfl
  rw [htime]
  cases ring <;>
    simp only [RecordBody.bytes, leBytes_one_eq, KState.code_eq_idxOf, flagByte_four, le32, natBytes, currentBytes_eq_leBytes,
      Option.map_none, Option.map_some, Option.getD_none, Option.getD_some, List.append_assoc, List.cons_append, List.nil_append]
  rfl

/-- A SEQUENCE body of a sequence that was done: no step and no reason. -/
theorem RecordBody.bytes_sequence_done (id : Nat) (time : Time) :
    (RecordBody.sequence id none time).bytes = leBytes 1 id ++ [0, 0, 0, 0] ++ leBytes 4 time.toNat := rfl

/-- A SEQUENCE body of a sequence that failed: both present, the step and the reason. -/
theorem RecordBody.bytes_sequence_failed (id step : Nat) (reason : SeqReason) (time : Time) :
    (RecordBody.sequence id (some (step, reason)) time).bytes = leBytes 1 id ++ [1, 3] ++ leBytes 1 step
      ++ leBytes 1 ([SeqReason.gate, .closeFailed, .weldSuspect, .linkTimeout, .decayTimeout, .noPackVoltage, .sweepFailed, .fault,
        .trip, .aborted].idxOf reason) ++ leBytes 4 time.toNat := by
  simp [RecordBody.bytes, leBytes_one_eq, SeqReason.code_eq_idxOf, flagByte_two, le32]

/-- The index and the code of a cell that a SNAPSHOT names, or zeros. -/
theorem cellBytes_eq (x : Option (Nat × Nat)) : natBytes 1 (x.map Prod.fst) ++ natBytes 2 (x.map Prod.snd) =
    match x with
    | some y => leBytes 1 y.1 ++ leBytes 2 y.2
    | none => [0, 0, 0] := by cases x <;> rfl

/-- The mark of an alignment, or zero. -/
theorem markBytes_eq (x : Option Aligned) : [(x.map fun a => a.mark.code).getD 0] =
    match x with
    | some a => leBytes 1 ([AlignMark.exact, .interpolated, .heldOld, .heldNew, .saturated].idxOf a.mark)
    | none => [0] := by
  cases x with
  | none => rfl
  | some a => exact congrArg (fun b => [b]) (AlignMark.code_eq_idxOf a.mark)

theorem RecordBody.bytes_snapshot (tag : Byte) (tb : Option Time) (lo hi : Option (Nat × Nat)) (sum : BitVec 32)
    (aligned : Option Aligned) (overflow : Byte) : (RecordBody.snapshot tag tb lo hi sum aligned overflow).bytes =
      [tag] ++ leBytes 1 ((if lo.isSome then 1 else 0) + (if hi.isSome then 2 else 0)
          + (if (aligned.bind Aligned.current).isSome then 4 else 0))
        ++ leBytes 4 (tb.getD 0).toNat
        ++ (match lo with
          | some y => leBytes 1 y.1 ++ leBytes 2 y.2
          | none => [0, 0, 0])
        ++ (match hi with
          | some y => leBytes 1 y.1 ++ leBytes 2 y.2
          | none => [0, 0, 0])
        ++ leBytes 4 sum.toNat ++ leBytes 2 (((aligned.bind Aligned.current).getD 0) % 65536).toNat
        ++ (match aligned with
          | some a => leBytes 1 ([AlignMark.exact, .interpolated, .heldOld, .heldNew, .saturated].idxOf a.mark)
          | none => [0])
        ++ [overflow] := by
  rw [← cellBytes_eq, ← cellBytes_eq, ← markBytes_eq]
  simp [RecordBody.bytes, leBytes_one_eq, flagByte_three, timeBytes, le32, currentBytes_eq_leBytes]

theorem RecordBody.bytes_tamper (time : Time) (count : Nat) (staging pending : Bool) :
    (RecordBody.tamper time count staging pending).bytes =
      leBytes 4 time.toNat ++ leBytes 2 count ++ leBytes 1 ((if staging then 1 else 0) + (if pending then 2 else 0)) := by
  rw [RecordBody.bytes, flagByte_two]
  rfl

theorem RecordBody.bytes_update (outcome : UpdOutcome) (version : BitVec 32) (reason : Option UpdReason) :
    (RecordBody.update outcome version reason).bytes = leBytes 1 ([UpdOutcome.committed, .activated, .failed].idxOf outcome)
      ++ leBytes 1 (if reason.isSome then 1 else 0) ++ leBytes 4 version.toNat
      ++ (match reason with
        | some r => leBytes 1 ([UpdReason.tag, .invalid, .nvBusy, .tamper].idxOf r)
        | none => [0]) := by
  rw [RecordBody.bytes, flagByte_one, UpdOutcome.code_eq_idxOf]
  cases reason with
  | none => rfl
  | some r => rw [Option.map_some, Option.getD_some, UpdReason.code_eq_idxOf]; rfl

/-- Settles O16: each request by its range check; a record's bytes field by field, its body by its kind. -/
theorem logReadAndReleaseTheOldest : Obligations.LogReadAndReleaseTheOldest := by
  refine ⟨fun s tag n hs => ⟨fun hno => ?_, fun h0 h4 => ?_⟩,
    fun s tag n hs => ⟨fun h0 => ?_, fun h0 hleft => ?_, fun h0 hleft => ?_⟩, fun occupancy threshold nextNo records => ?_⟩
  · exact request_of_serving (r := .logRead n) hs rfl (ownLogRead_of_refused hno)
  · exact report_of_serving (r := .logRead n) hs rfl (ownLogRead_of_count h0 h4)
  · exact request_of_serving (r := .logRelease n) hs rfl (ownLogRelease_of_zero h0)
  · refine request_of_serving (r := .logRelease n) hs rfl ((ownLogRelease_of_count h0).trans ?_)
    simp only [held_frame, decide_eq_true hleft]
    rfl
  · refine request_of_serving (r := .logRelease n) hs rfl ((ownLogRelease_of_count h0).trans ?_)
    simp only [held_frame, decide_eq_false (Nat.not_le.2 hleft)]
    rfl
  · intro le signed bit state cell body kindAndSize
    have hle : le = leBytes := funext₂ fun n x => (leBytes_eq_map n x).symm
    clear_value le
    subst hle
    have hbody (b : RecordBody) : body b = b.bytes := by
      cases b with
      | contactor k left entered time make brk hard ring =>
        exact (RecordBody.bytes_contactor k left entered time make brk hard ring).symm
      | sequence id failed time => cases failed with
        | none => exact (RecordBody.bytes_sequence_done id time).symm
        | some f => exact (RecordBody.bytes_sequence_failed id f.1 f.2 time).symm
      | snapshot tag tb lo hi sum aligned overflow =>
        exact (RecordBody.bytes_snapshot tag tb lo hi sum aligned overflow).symm
      | tamper time count staging pending => exact (RecordBody.bytes_tamper time count staging pending).symm
      | update outcome version reason => exact (RecordBody.bytes_update outcome version reason).symm
    have hsize (b : RecordBody) : (kindAndSize b).2 = b.size := by cases b <;> rfl
    have hkind (b : RecordBody) : leBytes 1 (kindAndSize b).1 = [b.kind] := by cases b <;> rfl
    refine ⟨?_, fun r _ => by rw [hbody, RecordBody.length_bytes, hsize]⟩
    have hrecord (r : LogRecord) : r.bytes = leBytes 2 r.number.toNat ++ leBytes 1 (kindAndSize r.body).1
        ++ [if r.faultClass then 1 else 0] ++ leBytes 1 (kindAndSize r.body).2 ++ body r.body := by
      rw [hkind, hbody, hsize, LogRecord.bytes, RecordBody.length_bytes]
      simp [leBytes_one_eq, le16]
    rw [← funext hrecord]
    simp [ReplyBody.bytes, leBytes_one_eq, le16]

end Sys2Proof.Machine
end

section
/-! SUPPORT. The checks common to every request: the lengths that a kind's payload may have, then kind, mode and length in their order
(R151, R195, R202). -/
namespace Sys2Proof.Machine

/-! ## The length of a payload (R202) -/

theorem isSome_ite_some {α : Type} (p : Prop) [Decidable p] (x : α) : (if p then some x else none).isSome = decide p := by
  rw [Bool.eq_iff_iff, Option.isSome_ite, decide_eq_true_iff]

/-- A payload reads exactly when it has a length that the table of request codes gives its kind. -/
theorem parseArgs_isSome : ∀ (code : Nat) (bs : List Byte), (parseArgs code bs).isSome = lengthAllowed code bs.length
  | 0x09, bs | 0x0F, bs | 0x11, bs | 0x17, bs | 0x18, bs => by rcases bs with _ | ⟨_, _ | _⟩ <;> rfl
  | 0x03, bs | 0x05, bs | 0x0A, bs => by rcases bs with _ | ⟨_, _ | ⟨_, _ | _⟩⟩ <;> rfl
  | 0x0C, bs | 0x0D, bs => by rcases bs with _ | ⟨_, _ | ⟨_, _ | ⟨_, _ | ⟨_, _ | _⟩⟩⟩⟩ <;> rfl
  | 0x14, bs => by
    rcases bs with _ | ⟨_, _ | ⟨_, _ | ⟨_, _ | ⟨_, _ | ⟨_, _ | ⟨_, _ | ⟨_, _ | ⟨_, _ | ⟨_, _ | _⟩⟩⟩⟩⟩⟩⟩⟩⟩ <;> rfl
  | 0x15, bs => isSome_ite_some ..
  | 0x1A, bs => isSome_ite_some ..
  | 0x1B, [] | 0x1B, [_] => rfl
  | 0x1B, _ :: _ :: d => (isSome_ite_some ..).trans (decide_eq_decide.2 (by simp only [List.length_cons]; omega))
  | 0x01, bs | 0x02, bs | 0x04, bs | 0x06, bs | 0x07, bs | 0x08, bs | 0x0B, bs | 0x0E, bs | 0x10, bs | 0x12, bs | 0x13, bs
  | 0x16, bs | 0x19, bs | 0x1C, bs | 0x1D, bs | 0x1E, bs | 0x1F, bs | 0x20, bs | 0x21, bs | 0x22, bs | 0x23, bs => by
    cases bs <;> rfl
  | 0, bs => rfl
  | n + 0x24, bs => by
    have hcode : decide (1 ≤ n + 0x24 ∧ n + 0x24 ≤ 0x23) = false := decide_eq_false (by omega)
    have hread : parseArgs (n + 0x24) bs = none := rfl
    have hlen : lengthAllowed (n + 0x24) bs.length = (decide (1 ≤ n + 0x24 ∧ n + 0x24 ≤ 0x23) && bs.length == 0) := rfl
    rw [hread, hlen, hcode]
    rfl

theorem parseArgs_of_length_refused {code : Nat} {bs : List Byte} (h : lengthAllowed code bs.length = false) :
    parseArgs code bs = none := by
  rw [← Option.not_isSome_iff_eq_none, parseArgs_isSome, h]
  exact Bool.false_ne_true

/-! ## The checks in their order (R151, R195) -/

theorem isRequestCode_iff (type : Byte) : isRequestCode type = true ↔ 1 ≤ type.toNat ∧ type.toNat ≤ 0x23 := decide_eq_true_iff

/-- What each mode serves (R151). -/
theorem serves_iff (m : Mode) (code : Byte) :
    m.serves code = true ↔ m = .run ∨ ((m = .startup ∨ m = .waking) ∧ (code = 0x21 ∨ code = 0x22))
      ∨ (m = .sleepEntry ∧ code = 0x21) := by
  cases m <;> simp [Mode.serves]

section
variable {f : InFrame} {s : State}

theorem answer_of_unknown (hkind : isRequestCode f.type = false) : answer f s = refuse .unknownRequest s := if_pos hkind

theorem answer_of_unserved (hkind : isRequestCode f.type = true) (hmode : s.pwr.mode.serves f.type = false) :
    answer f s = refuse .busy s := by
  rw [answer, hkind, if_neg nofun, if_pos hmode]

theorem answer_of_unread (hkind : isRequestCode f.type = true) (hmode : s.pwr.mode.serves f.type = true)
    (hlen : lengthAllowed f.type.toNat f.payload.length = false) : answer f s = refuse .badArgument s := by
  rw [answer, hkind, hmode, if_neg nofun, if_neg nofun, parseArgs_of_length_refused hlen]

theorem answer_of_read {r : Request} (hkind : isRequestCode f.type = true) (hmode : s.pwr.mode.serves f.type = true)
    (hread : parseArgs f.type.toNat f.payload = some r) : answer f s = own r s := by
  rw [answer, hkind, hmode, if_neg nofun, if_neg nofun, hread]

/-- A frame that enters service takes the answer of the checks as its reply (R195). -/
theorem serve_of_answer {t : State} {r : Reply} (h : answer f s = (t, r)) :
    serve f s = t.setPli { t.pli with reply := some (.reply f.type f.tag r) } := by
  rw [serve, h]

/-- A frame that finds the receive holding empty enters service at once (R194). -/
theorem offerFrame_of_free (h : s.pli.holding = []) : offerFrame f s = serve f (s.setPli { s.pli with holding := [f] }) := by
  rw [offerFrame, h]

theorem frameArrives_of_free (h : s.pli.holding = []) (hm : s.pwr.mode ≠ .sleep) (hm' : s.pwr.mode ≠ .sleepSweep) :
    frameArrives f s = serve f (s.setPli { s.pli with holding := [f] }) := by
  have hhears : s.pwr.mode.deaf = false := by
    cases hmode : s.pwr.mode with
    | sleep => exact absurd hmode hm
    | sleepSweep => exact absurd hmode hm'
    | _ => rfl
  rw [frameArrives, hhears]
  exact offerFrame_of_free h

/-- A frame in assembly that is whole and whose check holds is offered to the holding (R193). -/
theorem frameJudged_of_held {bs : List Byte} {u : Time} (hrx : s.pli.rx = .assembling bs u) (hwhole : frameWhole bs = true)
    (hjudged : judgeFrame bs = some f) : frameJudged s = offerFrame f (setRx .hunting s) := by
  rw [frameJudged, hrx]
  simp only [hwhole, hjudged, if_true]

end

/-- The command of a request is its frame's arrival and the end of the event. -/
theorem exec_command (r : Request) (tag : Byte) (s : State) : exec (r.command tag) s = request tag r s := by cases r <;> rfl

theorem code_eq_status_iff (r : Request) : r.code = 0x21 ↔ r = .status := by cases r <;> simp [Request.code]

theorem code_eq_identify_iff (r : Request) : r.code = 0x22 ↔ r = .identify := by cases r <;> simp [Request.code]

/-- STARTUP and WAKING serve no request but STATUS and IDENTIFY, SLEEP_ENTRY none but STATUS (R151). -/
theorem serves_code_of_not_run {m : Mode} {r : Request} (hm : m = .startup ∨ m = .waking ∨ m = .sleepEntry) (hst : r ≠ .status)
    (hid : r ≠ .identify ∨ m = .sleepEntry) : m.serves r.code = false := by
  rw [← Bool.not_eq_true, serves_iff, code_eq_status_iff, code_eq_identify_iff]
  rintro (hrun | ⟨hearly, hcode⟩ | ⟨-, hcode⟩)
  · rcases hm with h | h | h <;> cases hrun.symm.trans h
  · have hnot : m ≠ .sleepEntry := by rcases hearly with rfl | rfl <;> nofun
    exact hcode.elim hst (hid.resolve_right hnot)
  · exact hst hcode

theorem parseArgs_updateChunk_of_length {offset : BitVec 16} {data : List Byte} (h : data.length = 0 ∨ 128 < data.length) :
    parseArgs (Request.updateChunk offset data).code.toNat (Request.updateChunk offset data).payload = none :=
  parseArgs_of_length_refused (decide_eq_false (by simp only [Request.payload, List.length_append, length_leBytes]; omega))

/-- Settles O31: a frame that finds the holding empty enters service; the checks answer it in their order; the lengths by
`parseArgs_isSome`. -/
theorem checksCommonToEveryRequest : Obligations.ChecksCommonToEveryRequest := by
  refine ⟨fun s type tag payload hhold hm hm' htype => ?_, fun s tag r hhold hm hst hid => ?_,
    fun s tag offset data hs hlen => request_of_unread hs (parseArgs_updateChunk_of_length hlen), parseArgs_isSome,
    fun s f bs u hs hrx hwhole hjudged h1 h35 hlen => ?_, fun s f => ?_⟩
  · have hkind : isRequestCode type = false := by
      rcases htype with rfl | hbig
      · rfl
      · exact decide_eq_false (by omega)
    show Host.Outcome.next (finish (frameArrives _ s)) = _
    rw [frameArrives_of_free hhold hm hm', serve_of_answer (answer_of_unknown hkind)]
    rfl
  · have hbusy : s.pwr.mode.serves r.code = false := serves_code_of_not_run hm hst hid
    have hawake : s.pwr.mode ≠ .sleep ∧ s.pwr.mode ≠ .sleepSweep := by rcases hm with h | h | h <;> simp [h]
    obtain ⟨hm, hm'⟩ := hawake
    rw [exec_command, request, requestArrives, frameArrives_of_free hhold hm hm',
      serve_of_answer (answer_of_unserved (isRequestCode_code r) hbusy)]
    rfl
  · obtain ⟨hmode, hhold⟩ := hs
    have hserved : s.pwr.mode.serves f.type = true := by rw [hmode]; rfl
    show Host.Outcome.next (finish (frameJudged s)) = _
    rw [frameJudged_of_held hrx hwhole hjudged, offerFrame_of_free (by exact hhold),
      serve_of_answer (answer_of_unread ((isRequestCode_iff _).2 ⟨h1, h35⟩) (by exact hserved) hlen)]
    rfl
  · intro answered refused kind served
    have hkind : isRequestCode f.type = true ↔ kind := isRequestCode_iff f.type
    have hserved : s.pwr.mode.serves f.type = true ↔ served := serves_iff s.pwr.mode f.type
    rw [← hkind, ← hserved, Bool.not_eq_true, Bool.not_eq_true]
    exact ⟨fun hk => serve_of_answer (answer_of_unknown hk), fun hk hm => serve_of_answer (answer_of_unserved hk hm),
      fun hk hm hlen => serve_of_answer (answer_of_unread hk hm hlen),
      fun r hk hm hread => serve_of_answer (answer_of_read hk hm hread)⟩

end Sys2Proof.Machine
end

section
/-! SUPPORT. Sleep entry: the checks of SLEEP (R154), what an event ends with in SLEEP_ENTRY, and each of the four stages (R155, R156). -/
namespace Sys2Proof.Machine

/-! ## When the link and the part are quiet -/

section
variable {s : State}

theorem allOpen_iff : s.allOpen = true ↔ ∀ c ∈ s.kdr.chans, c.st = .opened := by simp [State.allOpen]

theorem not_allOpen_iff : s.allOpen = false ↔ ∃ c ∈ s.kdr.chans, c.st ≠ .opened := by simp [State.allOpen]

theorem quiet_iff : s.quiet = true ↔ (∀ c ∈ s.kdr.chans, c.st = .opened) ∧ s.seq.run = none := by
  rw [State.quiet, Bool.and_eq_true, allOpen_iff, Option.isNone_iff_eq_none]

theorem not_quiet_iff : s.quiet = false ↔ (∃ c ∈ s.kdr.chans, c.st ≠ .opened) ∨ s.seq.run.isSome = true := by
  rw [State.quiet, Bool.and_eq_false_iff, not_allOpen_iff, Option.isNone_eq_false_iff]

theorem linkQuiet_iff : s.linkQuiet = true ↔ s.inFlight = false ∧ s.chn.st ≠ .enumerating := by simp [State.linkQuiet]

/-- The link is at rest: nothing held, nothing sent or to be sent (R197). -/
theorem linkAtRest_iff :
    s.linkAtRest = true ↔ s.pli.holding = [] ∧ s.pli.sending = none ∧ s.pli.reply = none ∧ s.pwr.wokeFlag = false
      ∧ s.cnd.noticePending = false := by
  simp [State.linkAtRest, and_assoc]

/-! ## The checks of SLEEP (R154) -/

theorem nvBusy_iff : s.nvBusy = true ↔ s.nvs.flight.isSome = true ∨ s.nvs.queue ≠ [] := by simp [State.nvBusy]

/-- Something is at work that SLEEP waits out: a sequence, an activation, the NV engine. -/
theorem sleepBusy_iff :
    (s.seq.run.isSome || s.activating || s.nvBusy) = true
      ↔ s.seq.run.isSome = true ∨ s.upd.act ≠ .none ∨ s.nvs.flight.isSome = true ∨ s.nvs.queue ≠ [] := by
  rw [Bool.or_eq_true, Bool.or_eq_true, activating_iff, nvBusy_iff, or_assoc]

theorem ownSleep_of_live (h : s.allOpen = false) : ownSleep s = (s, plain .live) := if_pos h

theorem ownSleep_of_busy (hopen : s.allOpen = true) (h : (s.seq.run.isSome || s.activating || s.nvBusy) = true) :
    ownSleep s = (s, plain .busy) := by
  rw [ownSleep, hopen, if_neg nofun, if_pos h]
  rfl

theorem ownSleep_of_update (hopen : s.allOpen = true) (hidle : ¬ (s.seq.run.isSome || s.activating || s.nvBusy) = true)
    (h : s.upd.st = .receiving ∨ s.upd.st = .verifying) : ownSleep s = (s, plain .updateOpen) := by
  rw [ownSleep, hopen, if_neg nofun, if_neg hidle, if_pos h]
  rfl

theorem ownSleep_of_accepted (hopen : s.allOpen = true) (hidle : ¬ (s.seq.run.isSome || s.activating || s.nvBusy) = true)
    (h : ¬ (s.upd.st = .receiving ∨ s.upd.st = .verifying)) : ownSleep s = (beginEntry s, plain .accepted) := by
  rw [ownSleep, hopen, if_neg nofun, if_neg hidle, if_neg h]

/-! ## Offers to the NV engine (R110, R171) -/

/-- An operation that does not merge and finds room waits in the queue. -/
theorem offerOp_of_room {op : NvOp} (hnew : op.merges = true → op ∉ s.nvs.queue) (hroom : s.nvs.queue.length < op.room) :
    offerOp op s = some (s.setNvs { s.nvs with queue := s.nvs.queue ++ [op] }) := by
  rw [offerOp, if_neg (by simpa using hnew), if_pos hroom]

theorem requestWear_of_queued (h : s.kdr.wearSave = .queued) : requestWear s = some s := if_pos h

theorem requestWear_of_room (h : s.kdr.wearSave ≠ .queued) (hnew : NvOp.wearSave ∉ s.nvs.queue) (hroom : s.nvs.queue.length < 4) :
    requestWear s = some ((s.setNvs { s.nvs with queue := s.nvs.queue ++ [.wearSave] }).setKdr { s.kdr with wearSave := .queued }) := by
  rw [requestWear, if_neg h, offerOp_of_room (fun _ => hnew) hroom]
  rfl

theorem askActivation_of_none (h : s.upd.mark = none ∨ s.tmp.latch = true) : askActivation s = s := by
  unfold askActivation
  split
  · rename_i m hm
    exact if_pos (h.resolve_left (by simp [hm]))
  · rfl

theorem askActivation_of_mark {m : PendMark} (hm : s.upd.mark = some m) (hlatch : s.tmp.latch = false) (hroom : s.nvs.queue.length < 4) :
    askActivation s = (s.setNvs { s.nvs with queue := s.nvs.queue ++ [.anchorActivate m.bank m.version m.gen] }).setUpd
      { s.upd with act := .queued, byPower := true, actBank := some m } := by
  have hoffer := offerOp_of_room (s := s) (op := .anchorActivate m.bank m.version m.gen) nofun hroom
  simp only [askActivation, hm, hlatch, hoffer, Bool.false_eq_true, if_false, State.setNvs_upd]

/-! ## The end of an event in SLEEP_ENTRY (R155) -/

@[simp] theorem entryOne_mode (s : State) : (entryOne s).pwr.mode = s.pwr.mode := by
  unfold entryOne
  dsimp only
  split
  · cases h : requestWear (setEntryStage 2 s) with
    | none => simp [setEntryStage]
    | some t => simp [requestWear_frame _ _ h, setEntryStage]
  · rfl

@[simp] theorem entryTwo_mode (s : State) : (entryTwo s).pwr.mode = s.pwr.mode := by
  unfold entryTwo
  split <;> simp [setEntryStage]

@[simp] theorem entryThree_mode (s : State) : (entryThree s).pwr.mode = s.pwr.mode := by
  unfold entryThree
  (repeat' split) <;> simp [setEntryStage]

@[simp] theorem nvBegin_byPower (s : State) : (nvBegin s).upd.byPower = s.upd.byPower := by
  unfold nvBegin beginEffects setBankStatus
  dsimp only
  (repeat' split) <;> simp

/-- A switch that the power controller owes is not pursued outside RUN (R184). -/
theorem pursue_of_byPower (hm : s.pwr.mode ≠ .run) (h : s.upd.byPower = true) : pursue s = s :=
  if_neg fun ⟨_, hwho⟩ => hwho.elim (by simp [h]) hm

theorem finish_of_sleepEntry (hm : s.pwr.mode = .sleepEntry) (h : s.upd.act ≠ .owed ∨ s.upd.byPower = true) :
    finish s = linkPump (entryFour (linkPump (entryThree (entryTwo (entryOne (nvBegin s)))))) := by
  have hpursue : pursue (nvBegin s) = nvBegin s :=
    h.elim (fun hact => pursue_of_not_owed (nvBegin_not_owed hact)) fun hp => pursue_of_byPower (by simp [hm]) (by simp [hp])
  dsimp only [finish]
  rw [hpursue, startupProgress_of_mode (by simp [hm]), wakeProgress_of_mode (by simp [hm])]

/-! ## The four stages (R155) -/

theorem atEntry_of_stage {n : Nat} (hm : s.pwr.mode = .sleepEntry) (hst : s.pwr.entryStage = n) : s.atEntry n = true := by
  simp [State.atEntry, hm, hst]

theorem entryOne_of_moving (h : s.inFlight = true ∨ s.chn.st = .enumerating) : entryOne s = s := by
  have hmoving : s.linkQuiet = false := by rcases h with h | h <;> simp [State.linkQuiet, h]
  simp [entryOne, hmoving]

theorem entryTwo_of_saving (h : s.kdr.wearSave ≠ .idle) : entryTwo s = s := by simp [entryTwo, h]

theorem entryThree_of_waiting (h : s.upd.act = .queued ∨ s.upd.act = .writing) : entryThree s = s := by
  rcases h with h | h <;> simp [entryThree, h]

theorem entryFour_of_no_rest (h : s.linkAtRest = false) : entryFour s = s := by simp [entryFour, h]

section
variable (hm : s.pwr.mode = .sleepEntry)
include hm

/-- The first stage ends with the wear save requested. -/
theorem entryOne_of_quiet (hst : s.pwr.entryStage = 1) (hfl : s.inFlight = false) (hchn : s.chn.st ≠ .enumerating) {t : State}
    (hwear : requestWear (setEntryStage 2 s) = some t) : entryOne s = nvBegin t := by
  rw [entryOne, atEntry_of_stage hm hst, linkQuiet_iff.2 ⟨hfl, hchn⟩]
  simp only [hwear, Bool.and_self, if_true, Option.getD_some]

theorem entryTwo_of_saved (hst : s.pwr.entryStage = 2) (h : s.kdr.wearSave = .idle) :
    entryTwo s = nvBegin (askActivation (setEntryStage 3 s)) := by
  simp [entryTwo, atEntry_of_stage hm hst, h]

theorem entryThree_of_none (hst : s.pwr.entryStage = 3) (h : s.upd.act = .none) : entryThree s = setEntryStage 4 s := by
  simp [entryThree, atEntry_of_stage hm hst, h]

theorem entryThree_of_quiet (hst : s.pwr.entryStage = 3) (h : s.upd.act = .owed) (hq : s.quiet = true) :
    entryThree s = (applySwitch s).setPwr
      { s.pwr with entryStage := 4, keptRun := s.pwr.keptRun || (applySwitch s).prof.autostart } := by
  simp [entryThree, atEntry_of_stage hm hst, h, hq, setEntryStage]

theorem entryThree_of_not_quiet (hst : s.pwr.entryStage = 3) (h : s.upd.act = .owed) (hq : s.quiet = false) :
    entryThree s = setEntryStage 4 s := by
  simp [entryThree, atEntry_of_stage hm hst, h, hq]

theorem entryFour_of_rest (hst : s.pwr.entryStage = 4) (h : s.linkAtRest = true) :
    entryFour s = if s.allOpen then enterSleep s else abandonEntry s := by
  simp [entryFour, atEntry_of_stage hm hst, h]

end

end

/-! ## The entry into SLEEP (R156) -/

/-- Cell by cell: a populated fresh cell's code is its sleep reference. -/
theorem takeSleepRefs_eq (s : State) :
    takeSleepRefs s = s.setCells ((List.range s.cells.length).map fun i =>
      { s.cell i with sleepRef := if i < population s.prof ∧ (s.cell i).fresh = true then (s.cell i).code else none }) := by
  refine congrArg s.setCells (List.ext_getElem (by simp; omega) fun i _ hi => ?_)
  have hi' : i < s.cells.length := by simpa using hi
  have hcell : s.cell i = s.cells[i] := by simp [State.cell, hi']
  rcases Nat.lt_or_ge i (population s.prof) with hpop | hpop
  · simp [hi', hpop, hcell]
  · have hmin : min (population s.prof) s.cells.length = population s.prof := by omega
    simp [List.getElem_append, hmin, Nat.not_lt.2 hpop, Nat.add_sub_cancel' hpop, hcell]

theorem chainPowerDown_setPwr (s : State) (x : Pwr) : chainPowerDown (s.setPwr x) = (chainPowerDown s).setPwr x := by
  by_cases h : s.chn.st = .idle
  · rw [chainPowerDown, chainPowerDown, if_pos h, if_pos (by exact h)]
    rfl
  · rw [chainPowerDown, chainPowerDown, if_neg h, if_neg (by exact h)]
    rfl

/-- The part as the entry leaves it in SLEEP, before a wake that is pending. -/
def State.asleep (s : State) : State :=
  (((anaPowerDown (chainPowerDown (takeSleepRefs s))).setPwr { s.pwr with
      level1 := some (s.pwr.keptRun, s.cnd.enables), sleepTimer := some s.prof.sleepPeriod, divider := 0, mode := .sleep
      entryStage := 0 }).setKdr { s.kdr with suspended := true }).setPli { s.pli with rx := .off }

theorem enterSleep_eq (s : State) : enterSleep s = wakeIfPending s.asleep := by
  have hdown : ∀ x : Pwr, anaPowerDown (chainPowerDown ((takeSleepRefs s).setPwr x))
      = (anaPowerDown (chainPowerDown (takeSleepRefs s))).setPwr x := fun x => by rw [chainPowerDown_setPwr]; rfl
  simp [enterSleep, hdown, State.asleep, loadSleepTimer, suspendSupervision]

theorem wakeIfPending_of_none {s : State} (hh : s.pwr.pendHost = false) (ht : s.pwr.pendTamper = false) : wakeIfPending s = s := by
  simp [wakeIfPending, State.wakePending, hh, ht]

theorem wakeIfPending_of_pending {s : State} (h : s.pwr.pendHost = true ∨ s.pwr.pendTamper = true) :
    wakeIfPending s = beginWaking { host := s.pwr.pendHost, tamper := s.pwr.pendTamper, breach := none } s := by
  have hpend : s.wakePending = true := by simpa [State.wakePending] using h
  simp [wakeIfPending, hpend, arrivalCauses]

theorem abandonEntry_eq (s : State) :
    abandonEntry s = (releaseSched s.pwr.keptRun s).setPwr
      { s.pwr with mode := .run, entryStage := 0, pendHost := false, pendTamper := false } := by
  simp [abandonEntry]

/-- Settles O25: the checks of SLEEP in their order, then each stage by what it waits for. -/
theorem sleepChecksAndEntry : Obligations.SleepChecksAndEntry := by
  refine ⟨fun s tag hs => ?_, fun s hm => ?_⟩
  · intro h busy
    have hopen : (∀ c ∈ s.kdr.chans, c.st = .opened) → (held tag .sleep s).allOpen = true := fun ho => allOpen_iff.2 ho
    have hbusy : ((held tag .sleep s).seq.run.isSome || (held tag .sleep s).activating || (held tag .sleep s).nvBusy) = true ↔ busy :=
      sleepBusy_iff
    refine ⟨fun hlive => ?_, fun ho hb => ?_, fun ho hb hu => ?_, fun ho hb hr hv => ?_⟩ <;>
      refine request_of_serving (r := .sleep) hs rfl ?_
    · exact ownSleep_of_live (not_allOpen_iff.2 hlive)
    · exact ownSleep_of_busy (hopen ho) (hbusy.2 hb)
    · exact ownSleep_of_update (hopen ho) (mt hbusy.1 hb) hu
    · exact ownSleep_of_accepted (hopen ho) (mt hbusy.1 hb) (not_or.2 ⟨hr, hv⟩)
  · refine ⟨finish_of_sleepEntry hm, fun _ => entryOne_of_moving, fun hst hfl hchn => ⟨fun hw => ?_, fun hw hnew hroom => ?_⟩,
      fun _ => entryTwo_of_saving, fun hst hw => ⟨fun hno => ?_, fun m hmark hlatch hroom => ?_⟩,
      fun hst => ⟨entryThree_of_waiting, entryThree_of_none hm hst, fun hact ho hrun => ?_, fun hact hno => ?_⟩, fun hst => ?_⟩
    · exact entryOne_of_quiet hm hst hfl hchn (requestWear_of_queued hw)
    · exact entryOne_of_quiet hm hst hfl hchn (requestWear_of_room hw hnew hroom)
    · rw [entryTwo_of_saved hm hst hw, askActivation_of_none (by exact hno)]
      rfl
    · rw [entryTwo_of_saved hm hst hw, askActivation_of_mark (by exact hmark) (by exact hlatch) (by exact hroom)]
      rfl
    · exact entryThree_of_quiet hm hst hact (quiet_iff.2 ⟨ho, hrun⟩)
    · exact entryThree_of_not_quiet hm hst hact (not_quiet_iff.2 hno)
    · intro rest a d asleep
      have hasleep : asleep = s.asleep := by rw [State.asleep, takeSleepRefs_eq]
      have hsleeps (hr : rest) (ho : ∀ c ∈ s.kdr.chans, c.st = .opened) : entryFour s = wakeIfPending asleep := by
        rw [entryFour_of_rest hm hst (linkAtRest_iff.2 hr), if_pos (allOpen_iff.2 ho), enterSleep_eq, hasleep]
      refine ⟨fun hno => ?_, fun hr ho hh ht => ?_, fun hr ho hpend => ?_, fun hr hlive => ?_⟩
      · exact entryFour_of_no_rest (Bool.eq_false_iff.2 (mt linkAtRest_iff.1 hno))
      · exact (hsleeps hr ho).trans (wakeIfPending_of_none (s := asleep) hh ht)
      · exact (hsleeps hr ho).trans (wakeIfPending_of_pending (s := asleep) hpend)
      · rw [entryFour_of_rest hm hst (linkAtRest_iff.2 hr), not_allOpen_iff.2 hlive, abandonEntry_eq]
        rfl

end Sys2Proof.Machine
end

section
/-! SUPPORT. A reset's tear (R174) and the start-up reading of nonvolatile memory: the current anchor slot and wear page, the latch, the
classification of the banks, and the operations that the selection queues (R109, R168 to R170, R175, R186). -/
namespace Sys2Proof.Machine

/-! ## The torn page (R174) -/

/-- A page after a reset: torn if the step in flight worked on it, and else as it was. -/
def tornWhen (worked : Prop) (new old : NvPage) : Prop := (worked → new = .torn) ∧ (¬ worked → new = old)

section
variable (m : NvMem) (st : NvStep) (x : AB)

@[simp] theorem tearStep_anchor_bank (slot : AB) (c : Anchor) : (tearStep m (.anchor slot c)).bank x = m.bank x := by
  cases slot <;> cases x <;> rfl

@[simp] theorem tearStep_wear_bank (page : AB) (w : Wear) : (tearStep m (.wear page w)).bank x = m.bank x := by
  cases page <;> cases x <;> rfl

theorem tearStep_header : tornWhen (st = .erase x ∨ st = .header x) ((tearStep m st).bank x).header (m.bank x).header := by
  cases st with
  | anchor | wear => simp [tornWhen]
  | _ y =>
    rcases eq_or_ne x y with rfl | hne
    · simp [tornWhen, tearStep]
    · simp [tornWhen, tearStep, hne, hne.symm]

theorem tearStep_gen :
    tornWhen (st = .erase x ∨ st = .wipeGen x ∨ ∃ g, st = .gen x g) ((tearStep m st).bank x).gen (m.bank x).gen := by
  cases st with
  | anchor | wear => simp [tornWhen]
  | _ y =>
    rcases eq_or_ne x y with rfl | hne
    · simp [tornWhen, tearStep]
    · simp [tornWhen, tearStep, hne, hne.symm]

theorem tearStep_body {i : Nat} (hi : i < 64) (hlen : (m.bank x).body.length = 64) :
    tornWhen (st = .erase x ∨ st = .body x i) (((tearStep m st).bank x).body.getD i erasedPage)
      ((m.bank x).body.getD i erasedPage) := by
  cases st with
  | anchor | wear => simp [tornWhen]
  | body y j =>
    rcases eq_or_ne x y with rfl | hne
    · rcases eq_or_ne i j with rfl | hij
      · simp [tornWhen, tearStep, hlen, hi]
      · simp [tornWhen, tearStep, hij.symm]
    · simp [tornWhen, tearStep, hne, hne.symm]
  | _ y =>
    rcases eq_or_ne x y with rfl | hne
    · simp [tornWhen, tearStep, hi, -List.reduceReplicate]
    · simp [tornWhen, tearStep, hne, hne.symm]

theorem tearStep_anchors :
    tornWhen (∃ c, st = .anchor .a c) (tearStep m st).anchorA m.anchorA
    ∧ tornWhen (∃ c, st = .anchor .b c) (tearStep m st).anchorB m.anchorB := by
  cases st with
  | anchor slot | wear slot => cases slot <;> simp [tornWhen, tearStep]
  | _ y => cases y <;> simp [tornWhen, tearStep, NvMem.setBank]

theorem tearStep_wears :
    tornWhen (∃ w, st = .wear .a w) (tearStep m st).wearA m.wearA
    ∧ tornWhen (∃ w, st = .wear .b w) (tearStep m st).wearB m.wearB := by
  cases st with
  | anchor slot | wear slot => cases slot <;> simp [tornWhen, tearStep]
  | _ y => cases y <;> simp [tornWhen, tearStep, NvMem.setBank]

end

/-! ## The current slot and page (R169, R170) -/

section
variable {x y : BitVec 32}

theorem currentOf_of_next_left : currentOf (some (y + 1)) (some y) = some .a := by simp [currentOf]

theorem currentOf_of_next_right : currentOf (some x) (some (x + 1)) = some .b := by
  have hx : x ≠ x + 1 + 1 := by bv_omega
  simp only [currentOf, if_neg hx, if_true]

theorem currentOf_of_apart (hxy : x ≠ y + 1) (hyx : y ≠ x + 1) : currentOf (some x) (some y) = some (if x < y then .b else .a) := by
  simp only [currentOf, if_neg hxy, if_neg hyx]

/-- The current one of two alternatives is a valid one. -/
theorem exists_of_currentOf_a {α : Type} {f : α → BitVec 32} {a b : Option α} (h : currentOf (a.map f) (b.map f) = some .a) :
    ∃ c, a = some c := by
  cases a with
  | some c => exact ⟨c, rfl⟩
  | none => cases b <;> cases h

theorem exists_of_currentOf_b {α : Type} {f : α → BitVec 32} {a b : Option α} (h : currentOf (a.map f) (b.map f) = some .b) :
    ∃ c, b = some c := by
  cases b with
  | some c => exact ⟨c, rfl⟩
  | none => cases a <;> cases h

end

section
variable {s : State}

/-- The alternative that the numbers of the two anchor slots choose (R169). -/
def State.chosenAnchor (s : State) : Option AB :=
  currentOf ((readAnchor s.nvs.mem.anchorA).map Anchor.seq) ((readAnchor s.nvs.mem.anchorB).map Anchor.seq)

theorem readAnchors_of_a (h : s.chosenAnchor = some .a) :
    ∃ c, readAnchor s.nvs.mem.anchorA = some c ∧ readAnchors s = s.setNvs { s.nvs with anchor := c, curAnchor := .a } := by
  rw [State.chosenAnchor] at h
  obtain ⟨c, hc⟩ := exists_of_currentOf_a h
  refine ⟨c, hc, ?_⟩
  simp only [readAnchors, h]
  rw [hc]
  rfl

theorem readAnchors_of_b (h : s.chosenAnchor = some .b) :
    ∃ c, readAnchor s.nvs.mem.anchorB = some c ∧ readAnchors s = s.setNvs { s.nvs with anchor := c, curAnchor := .b } := by
  rw [State.chosenAnchor] at h
  obtain ⟨c, hc⟩ := exists_of_currentOf_b h
  refine ⟨c, hc, ?_⟩
  simp only [readAnchors, h]
  rw [hc]
  rfl

theorem readAnchors_of_none (h : s.chosenAnchor = none) :
    readAnchors s = s.setNvs { s.nvs with anchor := blankAnchor, curAnchor := .b } := by
  rw [State.chosenAnchor] at h
  simp only [readAnchors, h]

/-- The alternative that the numbers of the two wear pages choose (R170). -/
def State.chosenWear (s : State) : Option AB :=
  currentOf ((readWear s.nvs.mem.wearA).map Wear.seq) ((readWear s.nvs.mem.wearB).map Wear.seq)

theorem readWears_of_a (h : s.chosenWear = some .a) :
    ∃ w, readWear s.nvs.mem.wearA = some w ∧ readWears s = (takeWear .a w s).setPwr { s.pwr with wearEnded := true } := by
  rw [State.chosenWear] at h
  obtain ⟨w, hw⟩ := exists_of_currentOf_a h
  refine ⟨w, hw, ?_⟩
  rw [hw] at h
  simp only [readWears, hw, h, takeWear_frame]

theorem readWears_of_b (h : s.chosenWear = some .b) :
    ∃ w, readWear s.nvs.mem.wearB = some w ∧ readWears s = (takeWear .b w s).setPwr { s.pwr with wearEnded := true } := by
  rw [State.chosenWear] at h
  obtain ⟨w, hw⟩ := exists_of_currentOf_b h
  refine ⟨w, hw, ?_⟩
  rw [hw] at h
  simp only [readWears, hw, h, takeWear_frame]

theorem readWears_of_none (h : s.chosenWear = none) : readWears s = s.setPwr { s.pwr with wearEnded := true } := by
  rw [State.chosenWear] at h
  simp only [readWears, h]

/-! ## The classification of a bank (R168, R175) -/

theorem classifyBank_of_unread {floor : BitVec 32} {x : BankMem} (h : readGen x.gen = none ∨ readHeader x.header = none) :
    classifyBank floor x = .incomplete := by
  unfold classifyBank
  split
  · rename_i hgen hhead
    simp [hgen, hhead] at h
  · rfl

/-- A bank whose pages read, by the soundness of its image and its version. -/
theorem classifyBank_of_read {floor g v : BitVec 32} {n : Nat} {tag : BitVec 128} {x : BankMem} (hgen : readGen x.gen = some g)
    (hhead : readHeader x.header = some (v, n, tag)) :
    let img := x.bodyBytes.take n
    let sound := Config.profileTag img = tag ∧ validImage img ≠ none
    (¬ sound → classifyBank floor x = .rejected) ∧ (sound → v < floor → classifyBank floor x = .belowFloor)
    ∧ (sound → floor ≤ v → classifyBank floor x = .valid) := by
  intro img sound
  have heq : classifyBank floor x =
      if Config.profileTag img ≠ tag then .rejected else if (validImage img).isNone then .rejected
      else if v < floor then .belowFloor else .valid := by
    simp only [classifyBank, hgen, hhead, img]
  rw [heq]
  refine ⟨fun hno => ?_, fun ⟨htag, himg⟩ hlt => ?_, fun ⟨htag, himg⟩ hle => ?_⟩
  · by_cases htag : Config.profileTag img = tag
    · have himg : validImage img = none := by
        by_contra hsome
        exact hno ⟨htag, hsome⟩
      rw [if_neg (not_not_intro htag), himg]
      rfl
    · rw [if_pos htag]
  · rw [if_neg (not_not_intro htag), if_neg (by simpa using himg), if_pos hlt]
  · rw [if_neg (not_not_intro htag), if_neg (by simpa using himg), if_neg (BitVec.not_lt.2 hle)]

/-! ## The latch (R175, R186) -/

/-- The tamper monitor with the anchor's latch and count, TAMPER judged. -/
def withLatch (s : State) : State :=
  liveCond .tamper s.nvs.anchor.latched (s.setTmp { s.tmp with latch := s.nvs.anchor.latched, count := s.nvs.anchor.count })

theorem takeLatch_of_free (h : s.tmp.held = false) : takeLatch s = withLatch s := by
  rw [takeLatch, h]
  rfl

theorem takeLatch_of_held (h : s.tmp.held = true) : takeLatch s = tamperEffects (withLatch s) := by
  rw [takeLatch, h]
  rfl

/-! ## The operations that the selection queues (R175) -/

theorem leftPending_iff (x : AB) :
    s.leftPending x = true ↔ s.bankStatus x = .valid ∧ s.nvs.anchor.activeGen < (readGen (s.nvs.mem.bank x).gen).getD 0 := by
  rw [State.leftPending, Bool.and_eq_true, beq_iff_eq, decide_eq_true_iff]
  rfl

/-- The write or the invalidations that the selection asks for. -/
def State.selectionQueue (s : State) : List NvOp :=
  if s.tmp.latch then [AB.a, .b].filter s.leftPending |>.map NvOp.invalidate
  else s.newestLeft.toList.map fun x => .anchorSelect x (s.bankMark x).version (s.bankMark x).gen

theorem selectionQueue_isSelection {op : NvOp} (h : op ∈ s.selectionQueue) : op.isSelection = true := by
  unfold State.selectionQueue at h
  split at h <;> obtain ⟨x, -, rfl⟩ := List.mem_map.1 h <;> rfl

theorem offerSure_of_room {op : NvOp} (hnew : op.merges = true → op ∉ s.nvs.queue) (hroom : s.nvs.queue.length < op.room) :
    offerSure op s = s.setNvs { s.nvs with queue := s.nvs.queue ++ [op] } := by
  rw [offerSure, offerOp_of_room hnew hroom]
  rfl

theorem offerSure_invalidate (x : AB) (hroom : s.nvs.queue.length < 6) :
    offerSure (.invalidate x) s = s.setNvs { s.nvs with queue := s.nvs.queue ++ [.invalidate x] } := offerSure_of_room nofun hroom

/-- With room in the queue the selection's operations wait behind what waits. -/
theorem selectionOps_eq (hroom : s.nvs.queue.length < 4) :
    selectionOps s = s.setNvs { s.nvs with queue := s.nvs.queue ++ s.selectionQueue } := by
  have hnone : s.setNvs { s.nvs with queue := s.nvs.queue ++ [] } = s := by rw [List.append_nil]; rfl
  unfold selectionOps State.selectionQueue
  cases s.tmp.latch with
  | true =>
    have hone (x : AB) := offerSure_invalidate (s := s) x (by omega)
    have hboth := offerSure_invalidate (s := s.setNvs { s.nvs with queue := s.nvs.queue ++ [.invalidate .a] }) .b (by simp; omega)
    cases ha : s.leftPending .a <;> cases hb : s.leftPending .b
    · simpa [ha, hb] using hnone.symm
    all_goals simp [ha, hb, hone, hboth]
  | false =>
    cases s.newestLeft with
    | none => exact hnone.symm
    | some x =>
      exact offerSure_of_room (op := .anchorSelect x (s.bankMark x).version (s.bankMark x).gen) nofun hroom

theorem selectionQueue_of_none (ha : s.leftPending .a = false) (hb : s.leftPending .b = false) : s.selectionQueue = [] := by
  simp [State.selectionQueue, State.newestLeft, ha, hb]

/-- With the latch set the pending banks left are invalidated, bank A first (R175, log 51). -/
theorem selectionQueue_of_latch (h : s.tmp.latch = true) :
    s.selectionQueue = ([AB.a, .b].filter s.leftPending).map NvOp.invalidate := if_pos h

/-- With the latch clear the newest pending bank is written into the anchor (R175). -/
theorem selectionQueue_of_newest {x : AB} (h : s.tmp.latch = false) (hx : s.newestLeft = some x) :
    s.selectionQueue = [.anchorSelect x (s.bankMark x).version (s.bankMark x).gen] := by
  rw [State.selectionQueue, h, hx]
  rfl

theorem newestLeft_of_a (ha : s.leftPending .a = true) (h : s.leftPending .b = false ∨ (s.bankMark .b).gen ≤ (s.bankMark .a).gen) :
    s.newestLeft = some .a := by
  cases hb : s.leftPending .b with
  | false => simp [State.newestLeft, ha, hb]
  | true => simp [State.newestLeft, ha, hb, BitVec.not_lt.2 (h.resolve_left (by simp [hb]))]

theorem newestLeft_of_b (hb : s.leftPending .b = true) (h : s.leftPending .a = false ∨ (s.bankMark .a).gen < (s.bankMark .b).gen) :
    s.newestLeft = some .b := by
  cases ha : s.leftPending .a with
  | false => simp [State.newestLeft, ha, hb]
  | true => simp [State.newestLeft, ha, hb, h.resolve_left (by simp [ha])]

end
end Sys2Proof.Machine
end

section
/-! SUPPORT. The selection's end: what the blocks take from the selected profile (R153, R175, R176). -/
namespace Sys2Proof.Machine

/-! ## The channels (R92, R107, R108) -/

section
variable {s : State}

/-- Channels written anew by their numbers. -/
theorem chan_of_mapped {t : State} {f : Nat → Chan} {n k : Nat} (h : t.kdr.chans = (List.range n).map f) (hk : k < n) :
    t.chan k = f k := by
  simp [State.chan, h, hk]

theorem chan_takePolarities (p : Profile) {k : Nat} (hk : k < s.kdr.chans.length) :
    (takePolarities p s).chan k =
      rereadFeedback (s.chanCfg k) (p.chans.getD k factoryChan) (s.pins.feedback.getLsbD k) (s.chan k) :=
  chan_of_mapped (t := takePolarities p s) rfl hk

theorem chan_loadSettling {k : Nat} (hk : k < s.kdr.chans.length) :
    (loadSettling s).chan k = { s.chan k with settling := if s.inUse k then some (s.chanCfg k).breakMax else none } :=
  chan_of_mapped (t := loadSettling s) rfl hk

/-- The feedback is read afresh through the new polarity, as R92 says it. -/
theorem rereadFeedback_eq (old new : ChanCfg) (level : Bool) (c : Chan) :
    rereadFeedback old new level c = if old.polarity = new.polarity then c
      else { c with
        closedFb := if new.polarity = .highClosed then level else !level
        debounce := 0
        acceptDue := false } := by
  unfold rereadFeedback
  cases new.polarity <;> rfl

theorem takePolarities_states (p : Profile) (s : State) :
    (takePolarities p s).kdr.chans.map Chan.st = s.kdr.chans.map Chan.st :=
  map_range_states (fun _ _ => (rereadFeedback_coil_st ..).2) s

theorem loadSettling_states (s : State) : (loadSettling s).kdr.chans.map Chan.st = s.kdr.chans.map Chan.st :=
  map_range_states (f := fun k c => { c with settling := if s.inUse k then some (s.chanCfg k).breakMax else none }) (fun _ _ => rfl) s

/-! ## The profile (R153) -/

/-- The part with a profile's polarities, as the profile becomes the active one. -/
def withProfile (p : Profile) (s : State) : State := loadSettling (anaTake ((takePolarities p s).setProf p))

end

section
variable (p : Profile) (s : State)

theorem takeProfile_eq :
    takeProfile p s =
      replaceEnables p.enables (thresholdTake (countersTake (judgeStale (judgeModuleLost (judgeBreach (withProfile p s)))))) := rfl

@[simp] theorem takeProfile_prof : (takeProfile p s).prof = p := by simp [takeProfile]

@[simp] theorem takeProfile_ana : (takeProfile p s).ana = { s.ana with active := true, run := 0 } := by simp [takeProfile, anaTake]

@[simp] theorem takeProfile_enables : (takeProfile p s).cnd.enables = p.enables := rfl

@[simp] theorem takeProfile_log : (takeProfile p s).log = { s.log with threshold := p.logThreshold } := by
  simp [takeProfile, thresholdTake]

@[simp] theorem takeProfile_ctr : (takeProfile p s).ctr = { counters := p.counters.map Counter.ofCfg, overflow := 0 } := by
  simp [takeProfile, countersTake]

theorem takeProfile_kdr : (takeProfile p s).kdr = (withProfile p s).kdr := by simp [takeProfile, withProfile]

theorem takeProfile_states : (takeProfile p s).kdr.chans.map Chan.st = s.kdr.chans.map Chan.st := by
  rw [takeProfile_kdr, withProfile, loadSettling_states]
  exact takePolarities_states p s

/-- A channel's feedback is read afresh where its polarity changes, and its settling countdown is loaded where it is in use. -/
theorem chan_takeProfile {k : Nat} (hk : k < s.kdr.chans.length) :
    (takeProfile p s).chan k =
      { rereadFeedback (s.chanCfg k) (p.chans.getD k factoryChan) (s.pins.feedback.getLsbD k) (s.chan k) with
        settling := if (p.chans.getD k factoryChan).role = .unused then none else some (p.chans.getD k factoryChan).breakMax } := by
  have hlen : k < (anaTake ((takePolarities p s).setProf p)).kdr.chans.length := by
    simpa [anaTake, takePolarities] using hk
  have hpol : (anaTake ((takePolarities p s).setProf p)).chan k = (takePolarities p s).chan k := rfl
  rw [chan_of_chans (congrArg Kdr.chans (takeProfile_kdr p s)), withProfile, chan_loadSettling hlen, hpol, chan_takePolarities p hk]
  have hcfg : (anaTake ((takePolarities p s).setProf p)).chanCfg k = p.chans.getD k factoryChan := rfl
  rw [State.inUse, hcfg]
  by_cases hrole : (p.chans.getD k factoryChan).role = .unused
  · simp only [hrole, bne_self_eq_false, Bool.false_eq_true, if_false, if_true]
  · simp only [hrole, bne_iff_ne, ne_eq, not_false_eq_true, if_false, if_true]

/-! ## The conditions that the blocks judge (R29, R79, R147) -/

theorem thresholdTake_condSet (c : Cond) :
    (thresholdTake s).condSet c =
      if c = .logThreshold then decide (s.prof.logThreshold ≤ s.log.records.length) else s.condSet c :=
  condSet_liveCond ..

theorem countersTake_condSet (c : Cond) : (countersTake s).condSet c = if c = .counterOverflow then false else s.condSet c :=
  condSet_liveCond ..

theorem judgeStale_condSet (c : Cond) :
    (judgeStale s).condSet c = if c = .cellStale then s.populated.any (fun c => !c.fresh) else s.condSet c :=
  condSet_liveCond ..

theorem judgeBreach_condSet {c : Cond} (hov : c ≠ .cellOv) (huv : c ≠ .cellUv) : (judgeBreach s).condSet c = s.condSet c := by
  rw [judgeBreach, condSet_liveCond, if_neg huv, condSet_liveCond, if_neg hov]

/-- What a block that takes the profile judges, and the others leave. -/
theorem takeProfile_condSet (c : Cond) :
    (takeProfile p s).condSet c =
      if c = .logThreshold then decide (p.logThreshold ≤ s.log.records.length)
      else if c = .counterOverflow then false
      else if c = .cellStale then (takeProfile p s).populated.any (fun c => !c.fresh)
      else if c = .moduleLost then (takeProfile p s).someLost
      else (judgeBreach (withProfile p s)).condSet c := by
  have hlost : (judgeBreach (withProfile p s)).someLost = (takeProfile p s).someLost :=
    someLost_of_same (by simp [withProfile]) (by simp [withProfile])
  have hcells : (judgeModuleLost (judgeBreach (withProfile p s))).populated = (takeProfile p s).populated := by
    simp [State.populated, withProfile]
  rw [takeProfile_eq, condSet_of_same (replaceEnables_condSet ..), ← takeProfile_eq, thresholdTake_condSet,
    countersTake_condSet, judgeStale_condSet, condSet_judgeModuleLost, hlost, hcells]
  simp [withProfile]

/-! ## What the blocks have taken at the selection's end (R153, R175, R176) -/

/-- The part `t` has taken the profile `p` where the part `s` stood: its parameters, its channels, its live conditions; and the other
blocks are as they were. -/
def State.took (s t : State) (p : Profile) : Prop :=
  t.prof = p ∧ t.cnd.enables = p.enables ∧ t.log = { s.log with threshold := p.logThreshold }
  ∧ t.ana = { s.ana with active := true, run := 0 }
  ∧ t.ctr = { counters := p.counters.map Counter.ofCfg, overflow := 0 }
  ∧ (∀ k, k < 4 → s.kdr.chans.length = 4 →
      let cfg := p.chans.getD k factoryChan
      let c := if (s.chanCfg k).polarity = cfg.polarity then s.chan k
        else { s.chan k with
          closedFb := if cfg.polarity = .highClosed then s.pins.feedback.getLsbD k else !s.pins.feedback.getLsbD k
          debounce := 0
          acceptDue := false }
      t.chan k = { c with settling := if cfg.role = .unused then none else some cfg.breakMax })
  ∧ t.condSet .cellStale = t.populated.any (fun c => !c.fresh) ∧ t.condSet .moduleLost = t.someLost
  ∧ t.condSet .logThreshold = decide (p.logThreshold ≤ s.log.records.length)
  ∧ t.cells = s.cells ∧ t.sch = s.sch ∧ t.chn = s.chn ∧ t.tmp = s.tmp ∧ t.upd = s.upd ∧ t.pwr = s.pwr ∧ t.tim = s.tim

theorem takeProfile_took : s.took (takeProfile p s) p := by
  refine ⟨takeProfile_prof p s, takeProfile_enables p s, takeProfile_log p s, takeProfile_ana p s, takeProfile_ctr p s,
    fun k hk hlen => ?_, ?_, ?_, ?_, by simp⟩
  · rw [chan_takeProfile p s (hlen ▸ hk), rereadFeedback_eq]
  · rw [takeProfile_condSet, if_neg nofun, if_neg nofun, if_pos rfl]
  · rw [takeProfile_condSet, if_neg nofun, if_neg nofun, if_neg nofun, if_pos rfl]
  · rw [takeProfile_condSet, if_pos rfl]

variable {p s}

/-- NO_PROFILE touches nothing of what has been taken. -/
theorem State.took.setNoProfile {t : State} (h : s.took t p) : s.took (setCond .noProfile t) p := by
  obtain ⟨hprof, henables, hlog, hana, hctr, hchan, hstale, hlost, hthreshold, hrest⟩ := h
  have hkept (c : Cond) (hc : c ≠ .noProfile) : (setCond .noProfile t).condSet c = t.condSet c := by
    rw [condSet_setCond, beq_false_of_ne hc, Bool.or_false]
  refine ⟨by simpa using hprof, (setCond_cnd_only ..).1.trans henables, by simpa using hlog, by simpa using hana, by simpa using hctr,
    fun k hk hlen => (chan_of_chans (by simp) k).trans (hchan k hk hlen), ?_, ?_, ?_, by simpa using hrest⟩
  · rw [hkept .cellStale nofun, hstale]
    simp [State.populated]
  · rw [hkept .moduleLost nofun, hlost]
    exact (someLost_of_same (by simp) (by simp)).symm
  · rw [hkept .logThreshold nofun, hthreshold]

theorem takeProfile_noProfile : (takeProfile p s).condSet .noProfile = s.condSet .noProfile := by
  rw [takeProfile_condSet, if_neg nofun, if_neg nofun, if_neg nofun, if_neg nofun, judgeBreach_condSet (c := .noProfile) _ nofun nofun]
  rfl

theorem isSelected_iff (x : AB) :
    s.isSelected x = true ↔ s.bankStatus x = .valid ∧ (readGen (s.nvs.mem.bank x).gen).getD 0 = s.nvs.anchor.activeGen := by
  rw [State.isSelected, Bool.and_eq_true, beq_iff_eq, beq_iff_eq]
  rfl

/-- The store as the selection leaves it. -/
def State.selectedNvs (s : State) : Nvs :=
  { s.nvs with
    active := s.selectedBank, activeVer := s.selectedBank.map fun x => ((s.bankMark x).version, (s.bankMark x).gen), sel := .ended }

theorem selectionEnd_of_bank {x : AB} (h : s.selectedBank = some x) :
    selectionEnd s =
      takeProfile ((validImage (s.nvs.mem.bank x).image).getD factoryProfile) (s.setNvs s.selectedNvs) := by
  simp [selectionEnd, State.selectedNvs, h]

theorem selectionEnd_of_none (h : s.selectedBank = none) :
    selectionEnd s = setCond .noProfile (takeProfile factoryProfile (s.setNvs s.selectedNvs)) := by
  simp [selectionEnd, State.selectedNvs, h]

theorem selectionEnd_nvs : (selectionEnd s).nvs = s.selectedNvs := by
  cases h : s.selectedBank with
  | none => simp [selectionEnd_of_none h]
  | some x => simp [selectionEnd_of_bank h]

theorem selectionEnd_states : (selectionEnd s).kdr.chans.map Chan.st = s.kdr.chans.map Chan.st := by
  cases h : s.selectedBank with
  | none => simp [selectionEnd_of_none h, takeProfile_states]
  | some x => simp [selectionEnd_of_bank h, takeProfile_states]

/-- A bank is selected: its profile is taken, the factory profile where it spells none (log 30). -/
theorem selectionEnd_takes {x : AB} (h : s.selectedBank = some x) :
    s.took (selectionEnd s) ((validImage (s.nvs.mem.bank x).image).getD factoryProfile)
    ∧ (selectionEnd s).condSet .noProfile = s.condSet .noProfile := by
  rw [selectionEnd_of_bank h]
  exact ⟨takeProfile_took _ (s.setNvs s.selectedNvs), takeProfile_noProfile⟩

/-- No bank is selected: the factory profile is taken, with NO_PROFILE (R176). -/
theorem selectionEnd_takes_factory (h : s.selectedBank = none) :
    s.took (selectionEnd s) factoryProfile ∧ (selectionEnd s).condSet .noProfile = true := by
  rw [selectionEnd_of_none h]
  exact ⟨(takeProfile_took _ (s.setNvs s.selectedNvs)).setNoProfile, by rw [condSet_setCond, beq_self_eq_true, Bool.or_true]⟩

end
end Sys2Proof.Machine
end

section
/-! SUPPORT. The stages of STARTUP and what an event ends with in it (R35, R107, R153). -/
namespace Sys2Proof.Machine

section
variable {s : State}

/-! ## The mode through the start-up reading -/

theorem tamperReport_of_startup (h : s.pwr.mode = .startup) : tamperReport s = s := by rw [tamperReport, h]

theorem tamperEffects_pwr (h : s.pwr.mode = .startup) : (tamperEffects s).pwr = s.pwr := by
  unfold tamperEffects
  dsimp only
  rw [tamperReport_of_startup (by simp [h])]
  simp

@[simp] theorem withLatch_frame (s : State) :
    (withLatch s).tim = s.tim ∧ (withLatch s).sch = s.sch ∧ (withLatch s).chn = s.chn ∧ (withLatch s).ana = s.ana
    ∧ (withLatch s).cells = s.cells ∧ (withLatch s).kdr = s.kdr ∧ (withLatch s).ctr = s.ctr ∧ (withLatch s).log = s.log
    ∧ (withLatch s).pwr = s.pwr ∧ (withLatch s).nvs = s.nvs ∧ (withLatch s).prof = s.prof ∧ (withLatch s).upd = s.upd
    ∧ (withLatch s).pli = s.pli := by
  simp [withLatch]

theorem takeLatch_pwr (h : s.pwr.mode = .startup) : (takeLatch s).pwr = s.pwr := by
  cases hheld : s.tmp.held with
  | false => simp [takeLatch_of_free hheld]
  | true => rw [takeLatch_of_held hheld, tamperEffects_pwr (by simp [h])]; simp

@[simp] theorem readWears_pwr (s : State) : (readWears s).pwr = { s.pwr with wearEnded := true } := by
  unfold readWears
  dsimp only
  split <;> simp

theorem startupRead_pwr (h : s.pwr.mode = .startup) : (startupRead s).pwr = { s.pwr with wearEnded := true } := by
  simp only [startupRead, nvBegin_frame, selectionOps_frame]
  rw [takeLatch_pwr (by simp [h])]
  simp

/-! ## The stages (R107, R153, R175) -/

theorem selectionProgress_of_unread (h : s.nvs.sel = .unread) :
    selectionProgress s =
      if (startupRead s).nvs.sel = .waiting ∧ (startupRead s).selectionBusy = false then selectionEnd (startupRead s)
      else startupRead s := by
  rw [selectionProgress, if_pos h]

theorem selectionProgress_of_done (h : s.nvs.sel = .waiting) (hfree : s.selectionBusy = false) :
    selectionProgress s = selectionEnd s := by
  simp [selectionProgress, h, hfree]

theorem selectionProgress_of_busy (h : s.nvs.sel = .waiting) (hbusy : s.selectionBusy = true) : selectionProgress s = s := by
  simp [selectionProgress, h, hbusy]

theorem selectionProgress_of_ended (h : s.nvs.sel = .ended) : selectionProgress s = s := by simp [selectionProgress, h]

theorem selectionProgress_mode (h : s.pwr.mode = .startup) : (selectionProgress s).pwr.mode = .startup := by
  have hread : (if s.nvs.sel = .unread then startupRead s else s).pwr.mode = .startup := by
    split
    · rw [startupRead_pwr h]
      exact h
    · exact h
  unfold selectionProgress
  extract_lets s1
  split
  · simpa using hread
  · exact hread

theorem enumerateProgress_of_idle (hsel : s.nvs.sel = .ended) (henum : s.pwr.enumEnded = false) (hchn : s.chn.st = .idle) :
    enumerateProgress s =
      s.setChn { s.chn with st := .enumerating, wait := .ident 0 (s.tim.packTime + 420#32) } :=
  if_pos ⟨hsel, henum, hchn⟩

theorem enumerateProgress_of_not (h : s.nvs.sel ≠ .ended ∨ s.pwr.enumEnded = true ∨ s.chn.st ≠ .idle) :
    enumerateProgress s = s := by
  refine if_neg fun ⟨hsel, henum, hchn⟩ => ?_
  rcases h with h | h | h
  · exact h hsel
  · simp [h] at henum
  · exact h hchn

theorem allSettled_iff : s.allSettled = true ↔ ∀ c ∈ s.kdr.chans, c.settling = none := by simp [State.allSettled]

theorem settleProgress_of_settled (hsel : s.nvs.sel = .ended) (h : ∀ c ∈ s.kdr.chans, c.settling = none) :
    settleProgress s = s.setPwr { s.pwr with settleEnded := true } := if_pos ⟨hsel, allSettled_iff.2 h⟩

theorem settleProgress_of_not (h : s.nvs.sel ≠ .ended ∨ ∃ c ∈ s.kdr.chans, c.settling ≠ none) : settleProgress s = s := by
  refine if_neg fun ⟨hsel, hall⟩ => ?_
  obtain ⟨c, hc, hrun⟩ := h.resolve_left (not_not_intro hsel)
  exact hrun (allSettled_iff.1 hall c hc)

@[simp] theorem settleProgress_mode : (settleProgress s).pwr.mode = s.pwr.mode := by
  unfold settleProgress
  split <;> rfl

/-- The four stages have ended (R153). -/
def State.stagesDone (s : State) : Prop :=
  s.nvs.sel = .ended ∧ s.pwr.wearEnded = true ∧ s.pwr.enumEnded = true ∧ s.pwr.settleEnded = true

theorem startupEnd_of_not (h : ¬ s.stagesDone) : startupEnd s = s := if_neg h

theorem startupEnd_of_stopped (h : s.stagesDone) (hauto : s.prof.autostart = false) :
    startupEnd s = s.setPwr { s.pwr with mode := .run } :=
  (show startupEnd s = _ from if_pos h).trans (if_neg (by simp [hauto]))

theorem startupEnd_of_autostart (h : s.stagesDone) (hauto : s.prof.autostart = true) :
    startupEnd s = runSchedule (s.setPwr { s.pwr with mode := .run }) :=
  (show startupEnd s = _ from if_pos h).trans (if_pos hauto)

theorem startupEnd_mode (h : s.pwr.mode = .startup) : (startupEnd s).pwr.mode = .startup ∨ (startupEnd s).pwr.mode = .run := by
  by_cases hdone : s.stagesDone
  · cases hauto : s.prof.autostart with
    | false => exact .inr (by rw [startupEnd_of_stopped hdone hauto]; rfl)
    | true => exact .inr (by rw [startupEnd_of_autostart hdone hauto]; rfl)
  · exact .inl (by rw [startupEnd_of_not hdone, h])

theorem startupProgress_of_startup (h : s.pwr.mode = .startup) :
    startupProgress s = startupEnd (settleProgress (enumerateProgress (selectionProgress s))) := if_pos h

theorem startupProgress_mode (h : s.pwr.mode = .startup) :
    (startupProgress s).pwr.mode = .startup ∨ (startupProgress s).pwr.mode = .run := by
  rw [startupProgress_of_startup h]
  exact startupEnd_mode (by simp [selectionProgress_mode h])

/-- In STARTUP with no switch owed an event ends with the NV engine, the stages of STARTUP and the transmit path (log 12). -/
theorem finish_of_startup (hm : s.pwr.mode = .startup) (hact : s.upd.act ≠ .owed) :
    finish s = linkPump (startupProgress (nvBegin s)) := by
  have hmode := startupProgress_mode (s := nvBegin s) (by simp [hm])
  have hnot (m : Mode) (h1 : m ≠ .startup) (h2 : m ≠ .run) : (startupProgress (nvBegin s)).pwr.mode ≠ m :=
    hmode.elim (fun h => h ▸ h1.symm) fun h => h ▸ h2.symm
  dsimp only [finish]
  rw [pursue_of_not_owed (nvBegin_not_owed hact), entryOne_of_mode (by simp [hm]), entryTwo_of_mode (by simp [hm]),
    entryThree_of_mode (by simp [hm]), wakeProgress_of_mode (hnot .waking nofun nofun),
    entryFour_of_mode (by simpa using hnot .sleepEntry nofun nofun), linkPump_linkPump]

end
end Sys2Proof.Machine
end

section
/-! SUPPORT. A power-on reset: what the start-up reading of the same event leaves at its reset value (R150, R174). -/
namespace Sys2Proof.Machine

/-! ## What the NV engine begins for the selection (R172, R173) -/

theorem beginEffects_of_selection {op : NvOp} (h : op.isSelection = true) (s : State) : beginEffects op s = s := by
  cases op with
  | anchorSelect | invalidate => rfl
  | _ => cases h

/-- The beginning of an operation of the selection is the store's alone. -/
theorem nvBegin_of_selection {s : State} (h : ∀ op ∈ s.nvs.queue, op.isSelection = true) :
    (nvBegin s).upd = s.upd ∧ (nvBegin s).kdr = s.kdr := by
  unfold nvBegin
  split
  · exact ⟨rfl, rfl⟩
  · split
    · exact ⟨rfl, rfl⟩
    · rename_i op hop
      dsimp only
      rw [beginEffects_of_selection (h op (nextOp_mem hop))]
      exact ⟨rfl, rfl⟩

/-! ## The wear counts leave the contactors' states (R109) -/

theorem takeWear_states (x : AB) {w : Wear} {s : State} (hlen : s.kdr.chans.length = 4) (hw : w.counts.length = 4) :
    (takeWear x w s).kdr.chans.map Chan.st = s.kdr.chans.map Chan.st :=
  List.ext_getElem (by simp [takeWear, hlen, hw]) fun k _ _ => by simp [takeWear, loadCounts]

theorem readWears_states {s : State} (hlen : s.kdr.chans.length = 4) :
    (readWears s).kdr.chans.map Chan.st = s.kdr.chans.map Chan.st := by
  unfold readWears
  dsimp only
  split
  · exact takeWear_states .a hlen (readWear_counts (by assumption))
  · exact takeWear_states .b hlen (readWear_counts (by assumption))
  · rfl

/-! ## A part that has been reset and has not left STARTUP (R150) -/

/-- What a reset has put at its reset value and the start-up reading leaves there, over nonvolatile memory as the reset left it. -/
structure State.Starting (s : State) (mem : NvMem) : Prop where
  mode : s.pwr.mode = .startup
  enumEnded : s.pwr.enumEnded = false
  sch : s.sch = schReset
  chn : s.chn = chnReset
  ana : ∃ active run, s.ana = { anaReset with active := active, run := run }
  cells : s.cells = List.replicate 192 cellReset
  states : s.kdr.chans.map Chan.st = List.replicate 4 .opened
  overflow : s.ctr.overflow = 0
  records : s.log.records = []
  nextNo : s.log.nextNo = 0
  upd : s.upd = updReset
  holding : s.pli.holding = []
  rx : s.pli.rx = .idleWait 1000
  mem : s.nvs.mem = mem

section
variable {s : State} {mem : NvMem}

@[simp] theorem readAnchors_queue_mem (s : State) :
    (readAnchors s).nvs.queue = s.nvs.queue ∧ (readAnchors s).nvs.mem = s.nvs.mem := by
  unfold readAnchors
  dsimp only
  split <;> exact ⟨rfl, rfl⟩

@[simp] theorem readWears_queue_mem (s : State) :
    (readWears s).nvs.queue = s.nvs.queue ∧ (readWears s).nvs.mem = s.nvs.mem := by
  unfold readWears
  dsimp only
  split <;> exact ⟨rfl, rfl⟩

/-- The part as the start-up reading leaves it with no tamper held, before it queues its operations (R175). -/
def State.afterReading (s : State) : State :=
  withLatch ((classifyBanks (readWears (readAnchors s))).setNvs { (classifyBanks (readWears (readAnchors s))).nvs with sel := .waiting })

/-- With no tamper held and nothing waiting the reading ends with the selection's operations begun. -/
theorem startupRead_eq (hheld : s.tmp.held = false) (hq : s.nvs.queue = []) :
    startupRead s = nvBegin (s.afterReading.setNvs { s.afterReading.nvs with queue := s.afterReading.selectionQueue }) := by
  have hqueue : s.afterReading.nvs.queue = [] := by simp [State.afterReading, classifyBanks, hq]
  have hops : selectionOps s.afterReading = s.afterReading.setNvs { s.afterReading.nvs with queue := s.afterReading.selectionQueue } := by
    rw [selectionOps_eq (by simp [hqueue]), hqueue]
    rfl
  unfold startupRead
  dsimp only
  rw [takeLatch_of_free (by simpa using hheld)]
  exact congrArg nvBegin hops

/-- What the start-up reading leaves alone, with no tamper held and nothing waiting. -/
theorem startupRead_keeps (hheld : s.tmp.held = false) (hq : s.nvs.queue = []) (hlen : s.kdr.chans.length = 4) :
    (startupRead s).chn = s.chn ∧ (startupRead s).ana = s.ana ∧ (startupRead s).log = s.log ∧ (startupRead s).pli = s.pli
    ∧ (startupRead s).upd = s.upd ∧ (startupRead s).kdr.chans.map Chan.st = s.kdr.chans.map Chan.st
    ∧ (startupRead s).nvs.mem = s.nvs.mem := by
  obtain ⟨hupd, hkdr⟩ := nvBegin_of_selection
    (s := s.afterReading.setNvs { s.afterReading.nvs with queue := s.afterReading.selectionQueue }) fun _ => selectionQueue_isSelection
  have hstates := readWears_states (s := readAnchors s) (by simpa using hlen)
  rw [startupRead_eq hheld hq, hupd, hkdr]
  simpa [State.afterReading, nvBegin_keeps, classifyBanks] using hstates

theorem startupRead_starting (mem : NvMem) (pins : Pins) (pending : List Instr) :
    (startupRead (blocksReset mem pins pending)).Starting mem := by
  have hpwr := startupRead_pwr (s := blocksReset mem pins pending) rfl
  obtain ⟨hchn, hana, hlog, hpli, hupd, hstates, hmem⟩ := startupRead_keeps (s := blocksReset mem pins pending) rfl rfl rfl
  obtain ⟨-, hsch, -, hcells, -, -, hctr, -⟩ := startupRead_frame (blocksReset mem pins pending)
  exact {
    mode := by rw [hpwr]; rfl
    enumEnded := by rw [hpwr]; rfl
    sch := hsch
    chn := hchn
    ana := ⟨false, 0, hana⟩
    cells := hcells
    states := hstates
    overflow := by rw [hctr]; rfl
    records := by rw [hlog]; rfl
    nextNo := by rw [hlog]; rfl
    upd := hupd
    holding := by rw [hpli]; rfl
    rx := by rw [hpli]; rfl
    mem := hmem }

/-- The end of the selection takes the profile's parameters alone. -/
theorem selectionEnd_starting (h : s.Starting mem) : (selectionEnd s).Starting mem := by
  have htook : ∃ p, s.took (selectionEnd s) p := by
    cases hx : s.selectedBank with
    | none => exact ⟨_, (selectionEnd_takes_factory hx).1⟩
    | some x => exact ⟨_, (selectionEnd_takes hx).1⟩
  obtain ⟨p, -, -, hlog, hana, hctr, -⟩ := htook
  obtain ⟨active, run, hs⟩ := h.ana
  exact {
    mode := by simpa using h.mode
    enumEnded := by simpa using h.enumEnded
    sch := by simpa using h.sch
    chn := by simpa using h.chn
    ana := ⟨true, 0, by rw [hana, hs]⟩
    cells := by rw [← h.cells]; simp
    states := selectionEnd_states.trans h.states
    overflow := by rw [hctr]
    records := by rw [hlog]; exact h.records
    nextNo := by rw [hlog]; exact h.nextNo
    upd := by simpa using h.upd
    holding := by simpa using h.holding
    rx := by simpa using h.rx
    mem := by rw [selectionEnd_nvs]; exact h.mem }

/-- A chain that still powers up starts no enumeration, and with that owed STARTUP does not end (R35, R36, R153). -/
theorem stages_starting (h : s.Starting mem) : (startupEnd (settleProgress (enumerateProgress s))).Starting mem := by
  have henum : enumerateProgress s = s := enumerateProgress_of_not (.inr (.inr (by rw [h.chn]; nofun)))
  have hsettle : (settleProgress s).Starting mem := by
    unfold settleProgress
    split
    · exact { h with }
    · exact h
  have howed : ¬ (settleProgress s).stagesDone := fun ⟨_, _, hdone, _⟩ => by simp [hsettle.enumEnded] at hdone
  rw [henum, startupEnd_of_not howed]
  exact hsettle

@[simp] theorem linkPump_rx (s : State) : (linkPump s).pli.rx = s.pli.rx := by
  unfold linkPump beginWoke beginConditions
  dsimp only
  (repeat' split) <;> rfl

@[simp] theorem linkPump_enumEnded (s : State) : (linkPump s).pwr.enumEnded = s.pwr.enumEnded := by
  unfold linkPump beginWoke beginConditions
  dsimp only
  (repeat' split) <;> rfl

theorem linkPump_starting (h : s.Starting mem) : (linkPump s).Starting mem where
  mode := by simpa using h.mode
  enumEnded := by simpa using h.enumEnded
  sch := by simpa using h.sch
  chn := by simpa using h.chn
  ana := by simpa using h.ana
  cells := by rw [← h.cells]; simp
  states := by simpa using h.states
  overflow := by simpa using h.overflow
  records := by simpa using h.records
  nextNo := by simpa using h.nextNo
  upd := by simpa using h.upd
  holding := by simpa using h.holding
  rx := by simpa using h.rx
  mem := by simpa using h.mem

/-- The event of a reset ends in STARTUP, with the start-up reading done (R150, log 8). -/
theorem finish_resetPart_starting (s : State) : (finish (resetPart s)).Starting s.memAfterReset := by
  have hbegin : nvBegin (resetPart s) = resetPart s := rfl
  have hread := startupRead_starting s.memAfterReset s.pins s.pending
  have hselect : (selectionProgress (resetPart s)).Starting s.memAfterReset := by
    rw [selectionProgress_of_unread rfl]
    split
    · exact selectionEnd_starting hread
    · exact hread
  rw [finish_of_startup (s := resetPart s) rfl nofun, hbegin, startupProgress_of_startup rfl]
  exact linkPump_starting (stages_starting hselect)

end

/-- A channel whose coil is right and whose contactor is OPEN has its coil off (R93). -/
theorem Chan.coil_off_of_opened {c : Chan} (h : c.coilRight) (hst : c.st = .opened) : c.coil = .off := by
  by_contra hon
  rcases h.1 hon with hclosing | hclosed
  · cases hst.symm.trans hclosing
  · cases hst.symm.trans hclosed

/-- Settles O33: the reset part by what it keeps to the end of its event; the tear page by page; the reading by what the pages' numbers
choose; the selection by the bank it ends with; STARTUP stage by stage. -/
theorem powerOnResetLeavesResetValues : Obligations.PowerOnResetLeavesResetValues := by
  refine ⟨fun s => ?_, fun s => ?_, fun x y => ?_, fun s => ?_, fun s => ?_, fun floor x => ?_, fun s => ?_, fun s hroom => ?_,
    fun s => ?_, fun s hm => ?_⟩
  · have h := finish_resetPart_starting s
    have hcoils := finish_coils (resetPart_coils s)
    obtain ⟨active, run, hana⟩ := h.ana
    obtain ⟨htim, haln, hlim, hseq, hpins, hpending⟩ := finish_frame (resetPart s)
    have hopened : ∀ c ∈ (finish (resetPart s)).kdr.chans, c.st = .opened := fun c hc =>
      List.eq_of_mem_replicate (h.states ▸ List.mem_map_of_mem hc)
    exact ⟨finish (resetPart s), rfl, h.mode, htim, h.sch, h.chn, haln, by rw [hana]; rfl, by rw [hana]; rfl, by rw [hana]; rfl,
      by rw [hana]; rfl, by rw [hana]; rfl, by rw [hana]; rfl, h.cells, by rw [hlim]; rfl, hseq,
      fun c hc => ⟨hopened c hc, Chan.coil_off_of_opened (hcoils c hc) (hopened c hc)⟩, h.overflow, h.records, h.nextNo,
      by rw [h.upd]; rfl, by rw [h.upd]; rfl, by rw [h.upd]; rfl, h.holding, h.rx, h.mem, hpins, hpending⟩
  · intro before after
    refine ⟨fun hnone => ?_, fun f hf => ?_, rfl, rfl, rfl, rfl⟩
    · simp only [after, State.memAfterReset, hnone, before]
    · have hafter : after = tearStep before f.step := by simp only [after, State.memAfterReset, hf, before]
      intro page
      rw [hafter]
      exact ⟨fun x => ⟨tearStep_header before f.step x, tearStep_gen before f.step x, fun _ => tearStep_body before f.step x⟩,
        (tearStep_anchors before f.step).1, (tearStep_anchors before f.step).2, tearStep_wears before f.step⟩
  · exact ⟨rfl, rfl, rfl, currentOf_of_next_left, currentOf_of_next_right, currentOf_of_apart⟩
  · exact ⟨readAnchors_of_a, readAnchors_of_b, readAnchors_of_none⟩
  · exact ⟨readWears_of_a, readWears_of_b, readWears_of_none⟩
  · exact ⟨classifyBank_of_unread, fun g v n tag => classifyBank_of_read⟩
  · exact ⟨takeLatch_of_free, takeLatch_of_held, rfl, rfl⟩
  · intro gen version left queued select
    have hleft (x : AB) : left x ↔ s.leftPending x = true := (leftPending_iff x).symm
    have hqueued {q : List NvOp} (hq : s.selectionQueue = q) : queued q := hq ▸ selectionOps_eq hroom
    simp only [hleft, Bool.not_eq_true]
    refine ⟨fun ha hb => hqueued (selectionQueue_of_none ha hb), fun hl ha hb => hqueued ?_, fun hl ha hb => hqueued ?_,
      fun hl ha hb => hqueued ?_, fun hl ha hb => hqueued (selectionQueue_of_newest hl (newestLeft_of_a ha hb)),
      fun hl hb ha => hqueued (selectionQueue_of_newest hl (newestLeft_of_b hb ha))⟩
    all_goals simp [selectionQueue_of_latch hl, ha, hb]
  · intro gen version chosen took takes
    have hchosen (x : AB) : chosen x ↔ s.isSelected x = true := (isSelected_iff x).symm
    have htakes {x : AB} (hx : s.selectedBank = some x) : takes x := by
      obtain ⟨htook, hno⟩ := selectionEnd_takes hx
      refine ⟨htook, ?_, hno⟩
      rw [selectionEnd_nvs, State.selectedNvs, hx]
      rfl
    simp only [hchosen, Bool.not_eq_true]
    refine ⟨fun ha => htakes ?_, fun ha hb => htakes ?_, fun ha hb => ?_⟩
    · simp [State.selectedBank, ha]
    · simp [State.selectedBank, ha, hb]
    · have hnone : s.selectedBank = none := by simp [State.selectedBank, ha, hb]
      obtain ⟨htook, hno⟩ := selectionEnd_takes_factory hnone
      refine ⟨htook, ?_, hno⟩
      rw [selectionEnd_nvs, State.selectedNvs, hnone]
      rfl
  · exact ⟨finish_of_startup hm, startupProgress_of_startup hm, selectionProgress_of_unread, selectionProgress_of_done,
      selectionProgress_of_busy, selectionProgress_of_ended, enumerateProgress_of_idle, enumerateProgress_of_not,
      settleProgress_of_settled, settleProgress_of_not, startupEnd_of_not, startupEnd_of_stopped, startupEnd_of_autostart⟩

end Sys2Proof.Machine
end

section
/-! SUPPORT. Bytes, pages and payloads read back (R168 to R170, R202, R205). -/
namespace Sys2Proof.Machine

/-! ## Numbers in bytes -/

/-- The bytes of a number spell the number, as far as they reach. -/
theorem leNat_leBytes (n x : Nat) : leNat (leBytes n x) = x % 256 ^ n := by
  induction n generalizing x with
  | zero => exact (Nat.mod_one x).symm
  | succ n ih =>
    calc leNat (leBytes (n + 1) x) = x % 256 + 256 * (x / 256 % 256 ^ n) := by rw [leBytes, leNat, ih, BitVec.toNat_ofNat]
      _ = x % 256 ^ (n + 1) := by rw [Nat.pow_succ', Nat.mod_mul]

/-- A word's bytes spell the word. -/
theorem ofNat_leNat_leBytes {w n : Nat} (h : 2 ^ w = 256 ^ n) (x : BitVec w) : BitVec.ofNat w (leNat (leBytes n x.toNat)) = x := by
  rw [leNat_leBytes, ← h, Nat.mod_eq_of_lt x.isLt, BitVec.ofNat_toNat, BitVec.setWidth_eq]

/-- The bytes from a place on that a list of that length and more holds. -/
theorem natAt_append_left {bs : List Byte} (rest : List Byte) : natAt (bs ++ rest) 0 bs.length = leNat bs := by
  rw [natAt]
  congr 1
  refine List.ext_getElem (by simp) fun i hi _ => ?_
  have hlt : i < bs.length := by simpa using hi
  simp [List.getElem?_append_left hlt, hlt]

theorem natAt_append_right (bs rest : List Byte) {off : Nat} (n : Nat) (h : bs.length ≤ off) :
    natAt (bs ++ rest) off n = natAt rest (off - bs.length) n := by
  rw [natAt, natAt]
  congr 1
  refine List.map_congr_left fun i _ => ?_
  have hle : bs.length ≤ off + i := Nat.le_add_right_of_le h
  have hsub : off + i - bs.length = off - bs.length + i := by omega
  rw [List.getD_eq_getElem?_getD, List.getD_eq_getElem?_getD, List.getElem?_append_right hle, hsub]

/-- A number that stands first reads back. -/
theorem natAt_leBytes_first (n x : Nat) (rest : List Byte) : natAt (leBytes n x ++ rest) 0 n = x % 256 ^ n := by
  have h := natAt_append_left (bs := leBytes n x) rest
  rwa [length_leBytes, leNat_leBytes] at h

theorem natAt_leBytes_only (n x : Nat) : natAt (leBytes n x) 0 n = x % 256 ^ n := by
  simpa using natAt_leBytes_first n x []

/-- Past a number's bytes the reading goes on behind them. -/
theorem natAt_leBytes_past {m off : Nat} (h : m ≤ off) (x : Nat) (rest : List Byte) (n : Nat) :
    natAt (leBytes m x ++ rest) off n = natAt rest (off - m) n := by
  rw [natAt_append_right _ _ _ (by rwa [length_leBytes]), length_leBytes]

/-! ## Pages (R168 to R170, R205) -/

/-- A page's contents read back, their check with them. -/
theorem contents_checkedPage {bs : List Byte} {n : Nat} (hlen : bs.length = n) (hn : n ≤ 62) : (checkedPage bs).contents n = some bs := by
  have hcrc : (le16 (crc16 bs)).length = 2 := length_leBytes ..
  have htake : ((bs ++ le16 (crc16 bs) ++ List.replicate 64 0xFF).take 64).take n = bs := by
    rw [List.take_take, Nat.min_eq_left (by omega), List.append_assoc, List.take_left' hlen]
  have hdrop : (((bs ++ le16 (crc16 bs) ++ List.replicate 64 0xFF).take 64).drop n).take 2 = le16 (crc16 bs) := by
    rw [List.drop_take, List.take_take, Nat.min_eq_left (by omega), List.append_assoc, List.drop_left' hlen, List.take_left' hcrc]
  simp only [checkedPage, pageOf, NvPage.contents, htake, hdrop, if_true]

/-- A word of 32 bits that was cut to its four bytes is the word. -/
theorem ofNat_toNat_mod32 (x : BitVec 32) : BitVec.ofNat 32 (x.toNat % 256 ^ 4) = x := by
  rw [← leNat_leBytes, ofNat_leNat_leBytes (by decide)]

theorem readGen_genPage (g : BitVec 32) : readGen (genPage g) = some g := by
  have hpage : (genPage g).contents 4 = some (le32 g) := contents_checkedPage (length_leBytes ..) (by decide)
  rw [readGen, hpage, Option.map_some, le32, natAt_leBytes_only, ofNat_toNat_mod32]

theorem readHeader_headerPage (v : BitVec 32) {n : Nat} (tag : BitVec 128) (hn : n < 65536) :
    readHeader (headerPage v n tag) = some (v, n, tag) := by
  have hpage : (headerPage v n tag).contents 22 = some (le32 v ++ leBytes 2 n ++ leBytes 16 tag.toNat) :=
    contents_checkedPage (by simp [le32, length_leBytes]) (by decide)
  have hlen : n % 256 ^ 2 = n := Nat.mod_eq_of_lt hn
  have htag : BitVec.ofNat 128 (tag.toNat % 256 ^ 16) = tag := by rw [← leNat_leBytes, ofNat_leNat_leBytes (by decide)]
  rw [readHeader, hpage, Option.map_some, le32, List.append_assoc, natAt_leBytes_first, ofNat_toNat_mod32,
    natAt_leBytes_past (by decide), natAt_leBytes_first, hlen, natAt_leBytes_past (by decide), natAt_leBytes_past (by decide),
    natAt_leBytes_only, htag]

theorem readAnchor_anchorPage {a : Anchor} (hcount : a.count < 65536) : readAnchor (anchorPage a) = some a := by
  have hpage : (anchorPage a).contents 15 =
      some (le32 a.seq ++ le32 a.floor ++ le32 a.activeGen ++ [if a.latched then 1 else 0] ++ leBytes 2 a.count) :=
    contents_checkedPage (by simp [le32, length_leBytes]) (by decide)
  have hlen : a.count % 256 ^ 2 = a.count := Nat.mod_eq_of_lt hcount
  have hflag : ([if a.latched then 1 else 0] : List Byte) = leBytes 1 (if a.latched then 1 else 0) := by cases a.latched <;> rfl
  have hlatch : ((le32 a.seq ++ le32 a.floor ++ le32 a.activeGen ++ [if a.latched then 1 else 0] ++ leBytes 2 a.count).getD 12
      0).getLsbD 0 = a.latched := by
    have h12 : (le32 a.seq ++ le32 a.floor ++ le32 a.activeGen).length = 12 := by simp [le32, length_leBytes]
    rw [List.append_assoc, List.getD_append_right _ _ _ _ h12.le, h12]
    cases a.latched <;> simp
  rw [readAnchor, hpage, Option.map_some, hlatch, hflag]
  simp only [le32, List.append_assoc, natAt_leBytes_first, ofNat_toNat_mod32, Nat.reduceLeDiff, natAt_leBytes_past, natAt_leBytes_only,
    hlen, Nat.reduceSub]

theorem readWear_wearPage {w : Wear} (hlen : w.counts.length = 4) (hcounts : ∀ c ∈ w.counts, c.1 < 4294967296 ∧ c.2 < 4294967296) :
    readWear (wearPage w) = some w := by
  obtain ⟨seq, counts⟩ := w
  obtain ⟨a, b, c, d, rfl⟩ : ∃ a b c d, counts = [a, b, c, d] := List.length_eq_four.1 hlen
  simp only [List.forall_mem_cons, List.not_mem_nil, false_implies, implies_true, and_true] at hcounts
  obtain ⟨⟨ha, ha'⟩, ⟨hb, hb'⟩, ⟨hc, hc'⟩, hd, hd'⟩ := hcounts
  have hseq : BitVec.ofNat 32 (seq.toNat % 4294967296) = seq := ofNat_toNat_mod32 seq
  have hpage : (wearPage ⟨seq, [a, b, c, d]⟩).contents 36 = some (le32 seq ++ (leBytes 4 a.1 ++ (leBytes 4 a.2 ++ (leBytes 4 b.1
      ++ (leBytes 4 b.2 ++ (leBytes 4 c.1 ++ (leBytes 4 c.2 ++ (leBytes 4 d.1 ++ leBytes 4 d.2)))))))) := by
    rw [wearPage, contents_checkedPage (n := 36) (by simp [le32, length_leBytes]) (by decide)]
    simp only [List.flatMap_cons, List.flatMap_nil, List.append_nil, List.append_assoc]
  rw [readWear, hpage, Option.map_some]
  simp [le32, List.range_succ, natAt_leBytes_first, natAt_leBytes_past, natAt_leBytes_only, Nat.mod_eq_of_lt, *]

/-- Settles O10: each page by its own reading. -/
theorem pagesReadBack : Obligations.PagesReadBack :=
  ⟨readGen_genPage, fun v _ tag => readHeader_headerPage v tag, fun _ => readAnchor_anchorPage, fun _ => readWear_wearPage⟩

end Sys2Proof.Machine
end

section
/-! SUPPORT. The requests of the update unit and of the tamper monitor (R179, R180, R182, R183, R189), and the end of an event. -/
namespace Sys2Proof.Machine

/-! ## The end of an event (R158, R172, R196, R197) -/

/-- Of what the beginning of an operation changes, the anchor, the active bank, the update's state and staging buffer and the tamper
count are no part (R172). -/
theorem nvBegin_keeps_update (s : State) :
    (nvBegin s).nvs.anchor = s.nvs.anchor ∧ (nvBegin s).nvs.active = s.nvs.active ∧ (nvBegin s).upd.st = s.upd.st
    ∧ (nvBegin s).upd.staging = s.upd.staging ∧ (nvBegin s).tmp.count = s.tmp.count := by
  unfold nvBegin beginEffects setBankStatus
  dsimp only
  (repeat' split) <;> simp

/-- The beginning of a frame leaves the receiver and the enable set (R196). -/
theorem linkPump_keeps (s : State) :
    (linkPump s).cnd.set = s.cnd.set ∧ (linkPump s).cnd.enables = s.cnd.enables ∧ (linkPump s).pli.holding = s.pli.holding
    ∧ (linkPump s).pli.rx = s.pli.rx := by
  unfold linkPump beginWoke beginConditions
  dsimp only
  (repeat' split) <;> simp

/-- In SLEEP and SLEEP_SWEEP nothing is sent, and no stage of another mode goes on (R197). -/
theorem finish_of_deaf {s : State} (h : s.pwr.mode = .sleep ∨ s.pwr.mode = .sleepSweep) (hact : s.upd.act ≠ .owed) :
    finish s = nvBegin s := by
  have hbegun : (nvBegin s).pwr.mode = .sleep ∨ (nvBegin s).pwr.mode = .sleepSweep := by simpa using h
  have hmode {m : Mode} (h1 : m ≠ .sleep) (h2 : m ≠ .sleepSweep) : (nvBegin s).pwr.mode ≠ m := by
    rintro rfl
    exact hbegun.elim h1 h2
  have hpump : linkPump (nvBegin s) = nvBegin s := linkPump_of_taken (.inr hbegun)
  dsimp only [finish]
  rw [pursue_of_not_owed (nvBegin_not_owed hact), entryOne_of_mode (hmode nofun nofun), entryTwo_of_mode (hmode nofun nofun),
    entryThree_of_mode (hmode nofun nofun), startupProgress_of_mode (hmode nofun nofun), wakeProgress_of_mode (hmode nofun nofun),
    hpump, entryFour_of_mode (hmode nofun nofun), hpump]

/-- The engine begins nothing in SLEEP, while it is at work, and with nothing that waits (R158, R172). -/
theorem nvBegin_of_none {s : State} (h : s.nvs.flight.isSome = true ∨ s.pwr.mode = .sleep ∨ s.nvs.queue = []) : nvBegin s = s := by
  by_cases hstop : (s.nvs.flight.isSome || s.pwr.mode == .sleep) = true
  · exact if_pos hstop
  · have hq : s.nvs.queue = [] := by
      simp only [Bool.or_eq_true, beq_iff_eq, not_or] at hstop
      exact (h.resolve_left hstop.1).resolve_left hstop.2
    rw [nvBegin, if_neg hstop, hq]
    rfl

/-- Settles O2: in RUN by what the engine and the transmit path each leave, in the two sleeping modes by their having no part. -/
theorem endOfEventInRunTouchesEngineAndLink : Obligations.EndOfEventInRunTouchesEngineAndLink := by
  refine ⟨fun s hs => ?_, fun s hact => ⟨fun hm => ?_, fun hm => finish_of_deaf (.inr hm) hact⟩⟩
  · have hrun : s.pwr.mode = .run := hs.1
    refine ⟨finish_of_inRun hs, ?_⟩
    rw [finish_of_inRun hs]
    simp [linkPump_keeps, nvBegin_keeps, nvBegin_keeps_update, hrun]
  · rw [finish_of_deaf (.inl hm) hact, nvBegin_of_none (.inr (.inl hm))]

/-! ## The payloads of an update's requests (R202) -/

theorem parseArgs_updateBegin (version : BitVec 32) (length : BitVec 16) (imageTag : BitVec 128) :
    parseArgs (Request.updateBegin version length imageTag).code.toNat (Request.updateBegin version length imageTag).payload
      = some (.updateBegin version length imageTag) := by
  have h4 : (leBytes 4 version.toNat).length = 4 := length_leBytes ..
  have h2 : (leBytes 2 length.toNat).length = 2 := length_leBytes ..
  have h6 : (leBytes 4 version.toNat ++ leBytes 2 length.toNat).length = 6 := by simp [h4, h2]
  have hsize : (leBytes 4 version.toNat ++ leBytes 2 length.toNat ++ leBytes 16 imageTag.toNat).length = 22 := by
    simp [length_leBytes]
  show (if (leBytes 4 version.toNat ++ leBytes 2 length.toNat ++ leBytes 16 imageTag.toNat).length = 22 then
    some (Request.updateBegin _ _ _) else none) = _
  rw [if_pos hsize, Request.payload, List.drop_left' h6, List.append_assoc, List.take_left' h4, List.drop_left' h4, List.take_left' h2,
    ofNat_leNat_leBytes (by decide), ofNat_leNat_leBytes (by decide), ofNat_leNat_leBytes (by decide)]

theorem parseArgs_updateChunk (offset : BitVec 16) {data : List Byte} (h0 : 0 < data.length) (h128 : data.length ≤ 128) :
    parseArgs (Request.updateChunk offset data).code.toNat (Request.updateChunk offset data).payload = some (.updateChunk offset data) := by
  show (if 1 ≤ data.length ∧ data.length ≤ 128 then some (Request.updateChunk (word16 _ _) data) else none) = _
  rw [if_pos ⟨h0, h128⟩, word16_leBytes]

/-! ## UPDATE_BEGIN (R179) -/

section
variable {s : State} {version : BitVec 32} {length : BitVec 16} {imageTag : BitVec 128}

theorem ownUpdateBegin_of_latch (hl : s.tmp.latch = true) : ownUpdateBegin version length imageTag s = (s, plain .tampered) := if_pos hl

/-- With the latch clear the version is looked at. -/
theorem ownUpdateBegin_of_old (hl : s.tmp.latch = false) (hv : version ≤ s.nvs.anchor.floor) :
    ownUpdateBegin version length imageTag s = (s, plain .rollback) := by
  rw [ownUpdateBegin, hl, if_neg nofun, if_pos hv]
  rfl

/-- With a version above the floor the length is looked at. -/
theorem ownUpdateBegin_of_length (hl : s.tmp.latch = false) (hv : s.nvs.anchor.floor < version)
    (hlen : length.toNat = 0 ∨ 4096 < length.toNat) : ownUpdateBegin version length imageTag s = (s, plain .badLength) := by
  rw [ownUpdateBegin, hl, if_neg nofun, if_neg (BitVec.not_le.2 hv), if_pos hlen]
  rfl

/-- With a length that fits, the update unit must be free. -/
theorem ownUpdateBegin_of_fitting (hl : s.tmp.latch = false) (hv : s.nvs.anchor.floor < version) (h0 : 0 < length.toNat)
    (h4096 : length.toNat ≤ 4096) :
    ownUpdateBegin version length imageTag s =
      if s.upd.st ≠ .idle ∨ s.upd.act ≠ .none then (s, plain .busy)
      else (s.setUpd { s.upd with
        st := .receiving, staging := [], received := 0, version := version, length := length.toNat, tag := imageTag }, plain .ok) := by
  have hlen : ¬ (length.toNat = 0 ∨ 4096 < length.toNat) := by omega
  simp only [ownUpdateBegin, hl, Bool.false_eq_true, if_false, if_neg (BitVec.not_le.2 hv), if_neg hlen, activating_iff]
  rfl

end

/-- Settles O26: the checks in their order, each by the lemma of the one that stops the request. -/
theorem updateBeginChecks : Obligations.UpdateBeginChecks := by
  intro s tag version length imageTag hs
  refine ⟨fun hl => ?_, fun hl hv => ?_, fun hl hv hlen => ?_, fun hl hv h0 h1 hbusy => ?_, fun hl hv h0 h1 hst hact => ?_⟩ <;>
    refine request_of_serving hs (parseArgs_updateBegin version length imageTag) ?_
  · exact ownUpdateBegin_of_latch (s := held tag _ s) hl
  · exact ownUpdateBegin_of_old (s := held tag _ s) hl hv
  · exact ownUpdateBegin_of_length (s := held tag _ s) hl hv hlen
  · exact (ownUpdateBegin_of_fitting (s := held tag _ s) hl hv h0 h1).trans (if_pos hbusy)
  · exact (ownUpdateBegin_of_fitting (s := held tag _ s) hl hv h0 h1).trans (if_neg (by simp [hst, hact]))

/-! ## UPDATE_CHUNK (R180) -/

/-- A run of bytes that was written reads back at its place, and every address behind it reads as before. -/
theorem read_writeBytes_from (vs : List Byte) {m : List (Nat × BitVec 8)} (h : Memory.wf m = true) (x k : Nat) :
    Memory.read (Memory.writeBytes m x vs) (x + k) = (vs[k]?).getD (Memory.read m (x + k)) := by
  induction vs generalizing m x k with
  | nil => rfl
  | cons v vs ih =>
    have hw := Memory.wf_write h x v
    cases k with
    | zero =>
      rw [Memory.writeBytes, Memory.read_writeBytes_below vs _ _ hw (by omega), Memory.read_write x _ v h, if_pos (Nat.add_zero x)]
      rfl
    | succ k =>
      have hplace : x + (k + 1) = x + 1 + k := by omega
      rw [Memory.writeBytes, hplace, ih hw, Memory.read_write x _ v h, if_neg (by omega), List.getElem?_cons_succ]

section
variable {s : State} {offset : BitVec 16} {data : List Byte}

theorem ownUpdateChunk_of_idle (h : s.upd.st = .idle) : ownUpdateChunk offset data s = withReceived .notReady s := by
  rw [ownUpdateChunk, h]

theorem ownUpdateChunk_of_busy (h : s.upd.st = .verifying ∨ s.upd.st = .committing) :
    ownUpdateChunk offset data s = withReceived .busy s := by
  rcases h with h | h <;> rw [ownUpdateChunk, h]

/-- While RECEIVING the offset must be the count received, and the bytes must fit the declared length. -/
theorem ownUpdateChunk_of_receiving (h : s.upd.st = .receiving) :
    ownUpdateChunk offset data s =
      if offset.toNat ≠ s.upd.received then withReceived .outOfOrder s
      else if s.upd.length < s.upd.received + data.length then withReceived .badLength s
      else withReceived .ok (s.setUpd { s.upd with
        staging := Memory.writeBytes s.upd.staging offset.toNat data, received := s.upd.received + data.length }) := by
  rw [ownUpdateChunk, h]

end

/-! ## UPDATE_COMMIT, UPDATE_ABORT and the verification (R180, R182) -/

section
variable {s : State}

theorem ownUpdateCommit_of_idle (h : s.upd.st = .idle) : ownUpdateCommit s = (s, plain .notReady) := by
  rw [ownUpdateCommit, h]
  rfl

theorem ownUpdateCommit_of_busy (h : s.upd.st = .verifying ∨ s.upd.st = .committing) : ownUpdateCommit s = (s, plain .busy) := by
  rcases h with h | h <;> rw [ownUpdateCommit, h] <;> rfl

theorem ownUpdateCommit_of_receiving (h : s.upd.st = .receiving) :
    ownUpdateCommit s =
      if s.upd.received = s.upd.length then (s.setUpd { s.upd with st := .verifying }, plain .accepted) else (s, plain .badLength) := by
  rw [ownUpdateCommit, h]
  rfl

theorem ownUpdateAbort_of_idle (h : s.upd.st = .idle) : ownUpdateAbort s = (s, plain .ok) := by
  rw [ownUpdateAbort, h]
  rfl

theorem ownUpdateAbort_of_busy (h : s.upd.st = .verifying ∨ s.upd.st = .committing) : ownUpdateAbort s = (s, plain .busy) := by
  rcases h with h | h <;> rw [ownUpdateAbort, h] <;> rfl

theorem ownUpdateAbort_of_receiving (h : s.upd.st = .receiving) :
    ownUpdateAbort s = (s.setUpd { s.upd with st := .idle, staging := [], received := 0 }, plain .ok) := by
  rw [ownUpdateAbort, h]

/-- An update that ends FAILED is over (R181). -/
theorem updFail_upd (reason : UpdReason) (s : State) :
    (updFail reason s).upd = { s.upd with st := .idle, staging := [], received := 0, target := none, stop := false } := by
  simp [updFail]

/-- The completion of a verification ends the update or has its commit wait (R180). -/
theorem verified_st (h : s.upd.st = .verifying) : (verified s).upd.st = .idle ∨ (verified s).upd.st = .committing := by
  have hfail (reason : UpdReason) : (updFail reason s).upd.st = .idle := by rw [updFail_upd]
  rw [verified, if_pos h]
  dsimp only
  split
  · exact .inl (hfail _)
  · split
    · exact .inl (hfail _)
    · split
      · exact .inr rfl
      · exact .inl (hfail _)

theorem verified_of_none (h : s.upd.st ≠ .verifying) : verified s = s := if_neg h

end

/-- Settles O27: each request by the update's state and the checks that follow in it; the stored bytes by `read_writeBytes_from`. -/
theorem updateChunkCommitAbort : Obligations.UpdateChunkCommitAbort := by
  refine ⟨fun s tag offset data hs h0 h128 => ?_, fun s tag hs => ⟨fun hst => ⟨?_, ?_⟩, fun hst => ⟨?_, ?_⟩,
    fun hst => ⟨fun hlen => ?_, fun hlen => ?_, ?_⟩⟩, fun s hst => ⟨verified s, rfl, verified_st hst⟩, fun s hst => ?_⟩
  · have hparse := parseArgs_updateChunk offset h0 h128
    have hreceiving (hst : s.upd.st = .receiving) :=
      ownUpdateChunk_of_receiving (s := held tag (.updateChunk offset data) s) (offset := offset) (data := data) hst
    refine ⟨fun hst => request_of_serving hs hparse (ownUpdateChunk_of_idle (s := held tag _ s) hst),
      fun hst => request_of_serving hs hparse (ownUpdateChunk_of_busy (s := held tag _ s) hst),
      fun hst hoff => request_of_serving hs hparse ((hreceiving hst).trans (if_pos hoff)),
      fun hst hoff hlong => request_of_serving hs hparse ?_, fun hst hoff hfits hwf =>
        ⟨Memory.writeBytes s.upd.staging offset.toNat data, request_of_serving hs hparse ?_, fun i hi => ?_, fun a ha => ?_⟩⟩
    · exact (hreceiving hst).trans ((if_neg (not_not_intro hoff)).trans (if_pos hlong))
    · exact (hreceiving hst).trans ((if_neg (not_not_intro hoff)).trans (if_neg (Nat.not_lt.2 hfits)))
    · rw [read_writeBytes_from data hwf, List.getElem?_eq_getElem hi, Option.getD_some]
    · rcases ha with hbelow | habove
      · exact Memory.read_writeBytes_below data _ _ hwf hbelow
      · obtain ⟨k, rfl⟩ := Nat.exists_eq_add_of_le (Nat.le_of_add_right_le habove)
        rw [read_writeBytes_from data hwf, List.getElem?_eq_none (by omega), Option.getD_none]
  · exact request_of_serving (r := .updateCommit) hs rfl (ownUpdateCommit_of_idle (s := held tag _ s) hst)
  · exact request_of_serving (r := .updateAbort) hs rfl (ownUpdateAbort_of_idle (s := held tag _ s) hst)
  · exact request_of_serving (r := .updateCommit) hs rfl (ownUpdateCommit_of_busy (s := held tag _ s) hst)
  · exact request_of_serving (r := .updateAbort) hs rfl (ownUpdateAbort_of_busy (s := held tag _ s) hst)
  · exact request_of_serving (r := .updateCommit) hs rfl
      ((ownUpdateCommit_of_receiving (s := held tag _ s) hst).trans (if_neg hlen))
  · exact request_of_serving (r := .updateCommit) hs rfl
      ((ownUpdateCommit_of_receiving (s := held tag _ s) hst).trans (if_pos hlen))
  · exact request_of_serving (r := .updateAbort) hs rfl (ownUpdateAbort_of_receiving (s := held tag _ s) hst)
  · exact event_congr (verified_of_none hst)

/-! ## TAMPER_CLEAR (R189) -/

section
variable {s : State}

/-- An operation that does not wait already and finds no room is refused (R171). -/
theorem offerOp_of_full {op : NvOp} (hnew : op.merges = true → op ∉ s.nvs.queue) (hfull : op.room ≤ s.nvs.queue.length) :
    offerOp op s = none := by
  rw [offerOp, if_neg (by simpa using hnew), if_neg (Nat.not_lt.2 hfull)]

theorem ownTamperClear_of_free (h : s.tmp.latch = false) : ownTamperClear s = (s, plain .ok) := if_pos h

theorem ownTamperClear_of_asserted (h : s.tmp.latch = true) (hin : s.tmp.asserted = true ∨ 0 < s.tmp.run) :
    ownTamperClear s = (s, plain .notReady) := by
  rw [ownTamperClear, h, if_neg nofun, if_pos hin]
  rfl

/-- With the input released, a clear that is requested already is accepted again; another is offered to the engine. -/
theorem ownTamperClear_of_released (h : s.tmp.latch = true) (hin : s.tmp.asserted = false) (hrun : s.tmp.run = 0) :
    ownTamperClear s = if s.tmp.clearReq then (s, plain .accepted) else
      match offerOp .anchorClear s with
      | none => (s, plain .busy)
      | some s1 => (s1.setTmp { s1.tmp with clearReq := true, clearSt := .waiting }, plain .accepted) := by
  rw [ownTamperClear, h, hin, hrun, if_neg nofun, if_neg (by simp)]
  rfl

end

/-- Settles O29: the checks in their order; past them the engine's answer to the offer. -/
theorem tamperClearChecks : Obligations.TamperClearChecks := by
  intro s tag hs
  refine ⟨fun hl => ?_, fun hl => ⟨fun hin => ?_, fun hin hrun => ⟨fun hreq => ?_,
    fun hreq hnew => ⟨fun hfull => ?_, fun hroom => ?_⟩⟩⟩⟩ <;>
    refine request_of_serving (r := .tamperClear) hs rfl ?_
  · exact ownTamperClear_of_free (s := held tag _ s) hl
  · exact ownTamperClear_of_asserted (s := held tag _ s) hl hin
  · exact (ownTamperClear_of_released (s := held tag _ s) hl hin hrun).trans (if_pos hreq)
  · have hoffer := offerOp_of_full (s := held tag .tamperClear s) (op := .anchorClear) (fun _ => hnew) hfull
    refine (ownTamperClear_of_released (s := held tag _ s) hl hin hrun).trans ((if_neg (by simp [hreq])).trans ?_)
    rw [hoffer]
    rfl
  · have hoffer := offerOp_of_room (s := held tag .tamperClear s) (op := .anchorClear) (fun _ => hnew) hroom
    refine (ownTamperClear_of_released (s := held tag _ s) hl hin hrun).trans ((if_neg (by simp [hreq])).trans ?_)
    rw [hoffer]
    rfl

end Sys2Proof.Machine
end

section
/-! SUPPORT. The stages of an accepted tamper (R186, R187). -/
namespace Sys2Proof.Machine

section
variable {s : State}

/-! ## The requested clear (stage 1) -/

theorem cancelClear_of_none (h : s.tmp.clearReq = false) : cancelClear s = s := by
  rw [cancelClear, h]
  rfl

/-- A clear write in flight is made void. -/
theorem cancelClear_of_flight {f : NvFlight} (h : s.tmp.clearReq = true) (hf : s.nvs.flight = some f) (hop : f.op = .anchorClear) :
    cancelClear s = (s.setNvs { s.nvs with
      queue := s.nvs.queue.filter (· != .anchorClear), flight := some { f with void := true } }).setTmp
      { s.tmp with clearReq := false, clearSt := .void } := by
  rw [cancelClear, if_pos h]
  simp [dropOps, hf, hop, bne]

/-- With no clear write in flight the waiting one leaves the queue. -/
theorem cancelClear_of_waiting (h : s.tmp.clearReq = true) (hno : ∀ f, s.nvs.flight = some f → f.op ≠ .anchorClear) :
    cancelClear s = (s.setNvs { s.nvs with queue := s.nvs.queue.filter (· != .anchorClear) }).setTmp
      { s.tmp with clearReq := false, clearSt := .none } := by
  rw [cancelClear, if_pos h]
  cases hf : s.nvs.flight with
  | none => simp [dropOps, hf, bne]
  | some f => simp [dropOps, hf, hno f hf, bne]

/-- No clear is requested afterwards, and of the tamper monitor only the clear has moved. -/
theorem cancelClear_tmp (s : State) : ∃ x, (cancelClear s).tmp = { s.tmp with clearReq := false, clearSt := x } := by
  by_cases h : s.tmp.clearReq = true
  · by_cases hf : ∃ f, s.nvs.flight = some f ∧ f.op = .anchorClear
    · obtain ⟨f, hf, hop⟩ := hf
      exact ⟨.void, by rw [cancelClear_of_flight h hf hop]; rfl⟩
    · exact ⟨.none, by rw [cancelClear_of_waiting h fun f hfl hop => hf ⟨f, hfl, hop⟩]; rfl⟩
  · have hno : s.tmp.clearReq = false := Bool.not_eq_true _ ▸ h
    exact ⟨s.tmp.clearSt, by rw [cancelClear_of_none hno, ← hno]⟩

/-! ## The update, the pending mark and the activation (stages 2 to 5) -/

theorem any_isCommit_iff (q : List NvOp) : q.any NvOp.isCommit = true ↔ ∃ x g, NvOp.bankCommit x g ∈ q := by
  rw [List.any_eq_true]
  refine ⟨fun ⟨op, hmem, hop⟩ => ?_, fun ⟨x, g, hmem⟩ => ⟨_, hmem, rfl⟩⟩
  cases op with
  | bankCommit x g => exact ⟨x, g, hmem⟩
  | _ => cases hop

theorem tamperUpdate_of_idle (h : s.upd.st = .idle) : tamperUpdate s = s := by rw [tamperUpdate, h]

theorem tamperUpdate_of_open (h : s.upd.st = .receiving ∨ s.upd.st = .verifying) : tamperUpdate s = updFail .tamper s := by
  rcases h with h | h <;> rw [tamperUpdate, h]

/-- A commit that waits leaves the queue; one in flight is asked to stop. -/
theorem tamperUpdate_of_committing (h : s.upd.st = .committing) :
    tamperUpdate s = if s.nvs.queue.any NvOp.isCommit then updFail .tamper (dropOps NvOp.isCommit s)
      else s.setUpd { s.upd with stop := true } := by
  rw [tamperUpdate, h]

theorem tamperMark_of_none (h : s.upd.mark = none) : tamperMark s = s := by rw [tamperMark, h]

theorem tamperMark_of_mark {m : PendMark} (h : s.upd.mark = some m) (hroom : s.nvs.queue.length < 6) :
    tamperMark s = (s.setUpd { s.upd with mark := none }).setNvs { s.nvs with queue := s.nvs.queue ++ [.invalidate m.bank] } := by
  rw [tamperMark, h]
  exact offerSure_invalidate (s := s.setUpd { s.upd with mark := none }) m.bank hroom

theorem tamperMark_upd (s : State) : (tamperMark s).upd = { s.upd with mark := none } := by
  cases h : s.upd.mark with
  | none => rw [tamperMark_of_none h, ← h]
  | some m => simp [tamperMark, h]

theorem tamperActivation_of_queued (h : s.upd.act = .queued) :
    tamperActivation s = (dropOps NvOp.isActivate s).setUpd { s.upd with act := .none, actBank := none, byPower := false } := by
  rw [tamperActivation, if_pos h]
  simp

theorem tamperActivation_of_not (h : s.upd.act ≠ .queued) : tamperActivation s = s := if_neg h

/-- No activation waits afterwards; mark and update are as they were. -/
theorem tamperActivation_upd (s : State) :
    (tamperActivation s).upd.mark = s.upd.mark ∧ (tamperActivation s).upd.st = s.upd.st
    ∧ (tamperActivation s).upd.act = if s.upd.act = .queued then .none else s.upd.act := by
  by_cases h : s.upd.act = .queued
  · rw [tamperActivation_of_queued h, if_pos h]
    simp
  · rw [tamperActivation_of_not h, if_neg h]
    simp

/-! ## The power controller (stage 7) -/

theorem tamperReport_of_awake (h : s.pwr.mode = .run ∨ s.pwr.mode = .startup ∨ s.pwr.mode = .waking) : tamperReport s = s := by
  rcases h with h | h | h <;> rw [tamperReport, h]

theorem tamperReport_of_kept (h : s.pwr.mode = .sleepSweep ∨ s.pwr.mode = .sleepEntry) :
    tamperReport s = s.setPwr { s.pwr with pendTamper := true } := by
  rcases h with h | h <;> rw [tamperReport, h]

theorem tamperReport_of_sleep (h : s.pwr.mode = .sleep) :
    tamperReport s = beginWaking { host := s.pwr.pendHost, tamper := true, breach := none } s := by
  rw [tamperReport, h]
  simp [arrivalCauses]

/-! ## The stages together -/

/-- The latch set and counted. -/
def State.tampered (s : State) : State := s.setTmp { s.tmp with latch := true, count := min 65535 (s.tmp.count + 1), held := false }

/-- What the tamper discards: the stages from the cancelled clear to the cancelled activation. -/
def tamperDiscards (s : State) : State := tamperActivation (tamperMark (tamperUpdate (cancelClear s)))

@[simp] theorem tamperDiscards_frame (s : State) :
    (tamperDiscards s).tim = s.tim ∧ (tamperDiscards s).sch = s.sch ∧ (tamperDiscards s).cells = s.cells
    ∧ (tamperDiscards s).kdr = s.kdr ∧ (tamperDiscards s).seq = s.seq ∧ (tamperDiscards s).pwr = s.pwr
    ∧ (tamperDiscards s).tmp = (cancelClear s).tmp := by
  simp [tamperDiscards]

/-- The record names what was there when the tamper was accepted. -/
theorem tamperEffects_eq {a : State} (ha : offerSure .anchorTamper s.tampered = a) :
    tamperEffects s = tamperReport (setCond .tamper (offerRecord true
      (.tamper s.tim.packTime (min 65535 (s.tmp.count + 1)) (decide (s.upd.st ≠ .idle)) s.upd.mark.isSome) (tamperDiscards a))) := by
  have hnow : (tamperDiscards a).now = s.tim.packTime := by
    rw [State.now, (tamperDiscards_frame a).1, ← ha]
    simp [State.tampered]
  have hcount : (tamperDiscards a).tmp.count = min 65535 (s.tmp.count + 1) := by
    obtain ⟨x, hx⟩ := cancelClear_tmp a
    have hframe : (tamperDiscards a).tmp = (cancelClear a).tmp := by simp
    rw [hframe, hx, ← ha]
    simp [State.tampered]
  have hst : (s.upd.st != .idle) = decide (s.upd.st ≠ .idle) := by cases s.upd.st <;> rfl
  rw [← hnow, ← hcount, ← hst, ← ha]
  rfl

/-- An offer that an operation in the queue satisfies (R171). -/
theorem offerSure_of_waiting {op : NvOp} (hm : op.merges = true) (hq : op ∈ s.nvs.queue) : offerSure op s = s := by
  rw [offerSure, offerOp, if_pos (by simp [hm, hq])]
  rfl

/-! ## What is over after the stages -/

/-- A condition other than LOG_THRESHOLD that is set stays set while a record is offered (R145, R147). -/
theorem offerRecord_keeps_set {c : Cond} (hc : c ≠ .logThreshold) (h : s.condSet c = true) (fault : Bool) (body : RecordBody) :
    (offerRecord fault body s).condSet c = true := by
  rcases Nat.lt_or_ge s.log.records.length (admitLimit fault) with hroom | hfull
  · rw [offerRecord_condSet_of_room hroom, if_neg hc, h]
  · rw [offerRecord_of_full hfull, condSet_setCond, h, Bool.true_or]

theorem updFail_condSet (reason : UpdReason) (s : State) : (updFail reason s).condSet .updateFailed = true :=
  offerRecord_keeps_set (c := .updateFailed) nofun (by rw [condSet_setCond, beq_self_eq_true, Bool.or_true]) _ _

/-- The update unit after the stages: no pending mark, no activation that waits, no update that receives or verifies. -/
theorem tamperDiscards_upd (s : State) :
    (tamperDiscards s).upd.mark = none ∧ (tamperDiscards s).upd.act ≠ .queued
    ∧ (s.upd.act ≠ .owed → (tamperDiscards s).upd.act ≠ .owed)
    ∧ (s.upd.st = .receiving ∨ s.upd.st = .verifying →
        (tamperDiscards s).upd.st = .idle ∧ (tamperDiscards s).condSet .updateFailed = true) := by
  have hact : (tamperUpdate (cancelClear s)).upd.act = s.upd.act := by
    unfold tamperUpdate
    (repeat' split) <;> simp [updFail_upd]
  obtain ⟨hmark, hst, hqueued⟩ := tamperActivation_upd (tamperMark (tamperUpdate (cancelClear s)))
  rw [tamperMark_upd] at hmark hst hqueued
  rw [hact] at hqueued
  refine ⟨hmark, ?_, fun howed => ?_, fun hopen => ?_⟩
  · rw [tamperDiscards, hqueued]
    split
    · nofun
    · assumption
  · rw [tamperDiscards, hqueued]
    split
    · nofun
    · assumption
  · have hfail : tamperUpdate (cancelClear s) = updFail .tamper (cancelClear s) := tamperUpdate_of_open (by simpa using hopen)
    have hset := updFail_condSet .tamper (cancelClear s)
    rw [← hfail] at hset
    refine ⟨hst.trans (by rw [hfail, updFail_upd]), ?_⟩
    rw [State.condSet] at hset ⊢
    simpa [tamperDiscards] using hset

/-- In RUN the accepted tamper leaves the part in RUN, with the latch set and counted and the clear, the mark, the activation and the
open update gone. -/
theorem tamperEffects_of_run (hm : s.pwr.mode = .run) :
    let t := tamperEffects s
    t.tmp.asserted = s.tmp.asserted ∧ t.tmp.latch = true ∧ t.tmp.count = min 65535 (s.tmp.count + 1) ∧ t.tmp.run = s.tmp.run
    ∧ t.tmp.clearReq = false ∧ t.condSet .tamper = true ∧ t.upd.mark = none ∧ t.upd.act ≠ .queued
    ∧ (s.upd.act ≠ .owed → t.upd.act ≠ .owed)
    ∧ (s.upd.st = .receiving ∨ s.upd.st = .verifying → t.upd.st = .idle ∧ t.condSet .updateFailed = true)
    ∧ t.kdr = s.kdr ∧ t.pwr = s.pwr := by
  obtain ⟨a, ha⟩ : ∃ a, offerSure .anchorTamper s.tampered = a := ⟨_, rfl⟩
  have hupd : a.upd = s.upd := by rw [← ha]; simp [State.tampered]
  have htmp : a.tmp = s.tampered.tmp := by rw [← ha]; simp
  have hkdr : a.kdr = s.kdr := by rw [← ha]; simp [State.tampered]
  have hpwr : a.pwr = s.pwr := by rw [← ha]; simp [State.tampered]
  obtain ⟨hmark, hqueued, howed, hopen⟩ := tamperDiscards_upd a
  obtain ⟨x, hx⟩ := cancelClear_tmp a
  intro t
  obtain ⟨u, hu, ht⟩ : ∃ u, u = offerRecord true (.tamper s.tim.packTime (min 65535 (s.tmp.count + 1)) (decide (s.upd.st ≠ .idle))
      s.upd.mark.isSome) (tamperDiscards a) ∧ t = setCond .tamper u :=
    ⟨_, rfl, (tamperEffects_eq ha).trans (tamperReport_of_awake (.inl (by simp [hpwr, hm])))⟩
  have htmp' : t.tmp = { s.tampered.tmp with clearReq := false, clearSt := x } := by
    rw [ht, hu, ← htmp, ← hx]
    simp
  have hupd' : t.upd = (tamperDiscards a).upd := by rw [ht, hu]; simp
  rw [hupd] at howed hopen
  rw [htmp', hupd']
  refine ⟨rfl, rfl, rfl, rfl, rfl, by rw [ht, condSet_setCond, beq_self_eq_true, Bool.or_true], hmark, hqueued, howed,
    fun h => ⟨(hopen h).1, ?_⟩, ?_, ?_⟩
  · rw [ht, condSet_setCond, hu, offerRecord_keeps_set (c := .updateFailed) nofun (hopen h).2, Bool.true_or]
  · rw [ht, hu, ← hkdr]
    simp
  · rw [ht, hu, ← hpwr]
    simp

/-- What the beginning of an operation does to the update unit and to a requested clear (R173, R184). -/
theorem nvBegin_upd_cases (s : State) :
    (nvBegin s).tmp.clearReq = s.tmp.clearReq
    ∧ ((nvBegin s).upd = s.upd ∨ (nvBegin s).upd = { s.upd with mark := none }
      ∨ (nvBegin s).upd = { s.upd with act := .writing, mark := none }) := by
  unfold nvBegin beginEffects setBankStatus
  dsimp only
  (repeat' split) <;> simp

/-- The input is asserted, its run over. -/
def State.asserted (s : State) : State := s.setTmp { s.tmp with asserted := true, run := 0, acceptDue := false }

theorem tamperTaken_of_due (hdue : s.tmp.acceptDue = true) (hin : s.tmp.asserted = false) : tamperTaken s = tamperAccept s.asserted :=
  if_pos (by simp [hdue, hin])

/-- The end of the event in RUN keeps what the stages left (R172, R196). -/
theorem tamperAccepted_of_run {t : State} (hrun : s.inRun) (ht : tamperEffects s.asserted = t) :
    (finish t).tmp.asserted = true ∧ (finish t).tmp.latch = true ∧ (finish t).tmp.count = min 65535 (s.tmp.count + 1)
    ∧ (finish t).tmp.run = 0 ∧ (finish t).tmp.clearReq = false ∧ (finish t).condSet .tamper = true ∧ (finish t).upd.mark = none
    ∧ (finish t).upd.act ≠ .queued
    ∧ (s.upd.st = .receiving ∨ s.upd.st = .verifying → (finish t).upd.st = .idle ∧ (finish t).condSet .updateFailed = true)
    ∧ (finish t).kdr.chans = s.kdr.chans ∧ (finish t).seq = s.seq ∧ (finish t).sch = s.sch ∧ (finish t).cells = s.cells
    ∧ (finish t).pwr.mode = .run := by
  obtain ⟨hasserted, hlatch, hcount, htrun, hclear, hcond, hmark, hqueued, howed, hopen, hkdr, hpwr⟩ :=
    tamperEffects_of_run (s := s.asserted) hrun.1
  obtain ⟨-, htsch, -, htcells, -, htseq, -⟩ := tamperEffects_frame s.asserted
  rw [ht] at hasserted hlatch hcount htrun hclear hcond hmark hqueued howed hopen hkdr hpwr htsch htcells htseq
  have hinRun : t.inRun := ⟨by rw [hpwr]; exact hrun.1, howed hrun.2⟩
  have hend := finish_of_inRun hinRun
  obtain ⟨hsch, -, -, hcells, hchans, -, -, -, hset, -, hfrun, -, hfasserted, hflatch⟩ := finish_inRun_keeps hinRun
  obtain ⟨-, -, -, hseq, -⟩ := finish_frame t
  obtain ⟨-, -, hfst, -, hfcount⟩ := nvBegin_keeps_update t
  obtain ⟨hfclear, hcases⟩ := nvBegin_upd_cases t
  have htmp : (finish t).tmp = (nvBegin t).tmp := by rw [hend]; simp
  have hupd : (finish t).upd = (nvBegin t).upd := by rw [hend]; simp
  refine ⟨hfasserted.trans hasserted, hflatch.trans hlatch, ?_, hfrun.trans htrun, ?_, ?_, ?_, ?_, fun h => ⟨?_, ?_⟩,
    hchans.trans (congrArg Kdr.chans hkdr), hseq.trans htseq, hsch.trans htsch, hcells.trans htcells, ?_⟩
  · rw [htmp, hfcount]
    exact hcount
  · rw [htmp, hfclear]
    exact hclear
  · rw [State.condSet, hset]
    exact hcond
  · rw [hupd]
    rcases hcases with h | h | h <;> rw [h]
    exact hmark
  · rw [hupd]
    rcases hcases with h | h | h <;> rw [h]
    · exact hqueued
    · exact hqueued
    · nofun
  · rw [hupd, hfst]
    exact (hopen h).1
  · rw [State.condSet, hset]
    exact (hopen h).2
  · rw [hend, linkPump_mode]
    simpa using hinRun.1

end

theorem NvOp.isCommit_eq : NvOp.isCommit = fun o => match o with | .bankCommit _ _ => true | _ => false := by
  funext o
  cases o <;> rfl

theorem NvOp.isActivate_eq : NvOp.isActivate = fun o => match o with | .anchorActivate _ _ _ => true | _ => false := by
  funext o
  cases o <;> rfl

/-- Settles O55: in RUN by what the stages leave and the end of the event keeps; then the release, the held tamper, and each stage by
what it finds. -/
theorem tamperLatchesAndCancels : Obligations.TamperLatchesAndCancels := by
  refine ⟨fun s hrun hdue hin hsel => ?_, fun s hdue hin => ?_, fun s hdue hin => ⟨fun hsel => ?_, fun hsel => ?_⟩,
    fun s => ⟨fun hq => ?_, fun hq hroom => ?_⟩, fun s => ?_⟩
  · exact ⟨finish (tamperEffects s.asserted), event_congr ((tamperTaken_of_due hdue hin).trans (if_neg hsel)),
      tamperAccepted_of_run hrun rfl⟩
  · exact event_congr (if_pos (by simp [hdue, hin]))
  · exact event_congr ((tamperTaken_of_due hdue hin).trans (if_pos hsel))
  · exact event_congr ((tamperTaken_of_due hdue hin).trans (if_neg hsel))
  · exact tamperEffects_eq (offerSure_of_waiting rfl hq)
  · exact tamperEffects_eq (offerSure_of_room (fun _ => hq) hroom)
  · refine ⟨cancelClear_of_none, fun h => ⟨fun f => cancelClear_of_flight h, cancelClear_of_waiting h⟩, tamperUpdate_of_idle,
      tamperUpdate_of_open, fun h hq => ?_, fun h hq => ?_, tamperMark_of_none, fun m => tamperMark_of_mark, fun h => ?_,
      tamperActivation_of_not, tamperReport_of_awake, tamperReport_of_kept, tamperReport_of_sleep⟩
    · rw [tamperUpdate_of_committing h, if_pos ((any_isCommit_iff _).2 hq), NvOp.isCommit_eq]
      rfl
    · refine (tamperUpdate_of_committing h).trans (if_neg fun hany => ?_)
      obtain ⟨x, g, hmem⟩ := (any_isCommit_iff _).1 hany
      exact hq x g hmem
    · rw [tamperActivation_of_queued h, NvOp.isActivate_eq]
      rfl

end Sys2Proof.Machine
end

section
/-! SUPPORT. The NV engine: the end of a step, of an operation, and the beginning of the next (R168, R172, R173, R181, R184, R188, R189). -/
namespace Sys2Proof.Machine

section
variable {s : State} {f : NvFlight}

/-! ## The page that a step writes (R168, R173) -/

/-- A body page holds the staged bytes from its place on, and 0xFF past the image's end. -/
theorem stagedPage_eq (s : State) (i : Nat) :
    stagedPage s i = .data ((List.range 64).map fun j =>
      if 64 * i + j < s.upd.length then Memory.read s.upd.staging (64 * i + j) else 0xFF) := by
  have hlen : (Memory.readBytes s.upd.staging (64 * i) (min 64 (s.upd.length - 64 * i))).length = min 64 (s.upd.length - 64 * i) := by
    simp [Memory.readBytes]
  rw [stagedPage, pageOf, NvPage.data.injEq]
  refine List.ext_getElem (by simp) fun j hj _ => ?_
  have hj64 : j < 64 := by simp at hj; omega
  rw [List.getElem_take, List.getElem_map, List.getElem_range]
  by_cases hin : 64 * i + j < s.upd.length
  · rw [if_pos hin, List.getElem_append_left (by omega)]
    simp [Memory.readBytes]
  · rw [if_neg hin, List.getElem_append_right (by omega), List.getElem_replicate]

/-! ## The end of a step (R172, R173) -/

/-- The part when a step has ended: pack time at the step's end, its page written, nothing in flight. -/
def State.stepEnded (s : State) (f : NvFlight) : State :=
  (advanceTo f.ends s).setNvs { s.nvs with mem := stepMem s f.step, flight := none }

@[simp] theorem stepEnded_frame (s : State) (f : NvFlight) :
    (s.stepEnded f).upd = s.upd ∧ (s.stepEnded f).tmp = s.tmp ∧ (s.stepEnded f).kdr = s.kdr
    ∧ (s.stepEnded f).nvs = { s.nvs with mem := stepMem s f.step, flight := none } := by
  simp [State.stepEnded]

theorem stepMem_of_same {t : State} (hnvs : t.nvs = s.nvs) (hupd : t.upd = s.upd) (st : NvStep) : stepMem t st = stepMem s st := by
  unfold stepMem stagedPage
  rw [hnvs, hupd]

theorem nextStep_of_same {t : State} (hupd : t.upd = s.upd) (op : NvOp) (st : NvStep) : nextStep t op st = nextStep s op st := by
  unfold nextStep bodyPages
  rw [hupd]

/-- The operation goes on, stops, or ends. -/
theorem nvStepTaken_eq (hf : s.nvs.flight = some f) :
    nvStepTaken s = match nextStep s f.op f.step with
      | some st =>
        if s.upd.stop && f.op.isCommit then updFail .tamper (s.stepEnded f)
        else (s.stepEnded f).setNvs { (s.stepEnded f).nvs with flight := some { f with step := st, ends := f.ends + us (stepTime st) } }
      | none => operationEnds f (s.stepEnded f) := by
  have hnvs : (advanceTo f.ends s).nvs = s.nvs := by simp
  have hupd : (advanceTo f.ends s).upd = s.upd := by simp
  simp only [nvStepTaken, hf, hnvs, State.setNvs_upd, hupd, stepMem_of_same hnvs hupd, nextStep_of_same hupd]
  rfl

theorem nvStepTaken_of_last (hf : s.nvs.flight = some f) (hlast : nextStep s f.op f.step = none) :
    nvStepTaken s = operationEnds f (s.stepEnded f) := by
  rw [nvStepTaken_eq hf, hlast]

/-- A page write follows, 4 ms long. -/
theorem nvStepTaken_of_next {st : NvStep} (hf : s.nvs.flight = some f) (hnext : nextStep s f.op f.step = some st)
    (htime : stepTime st = 4000) (hgo : s.upd.stop = false) :
    nvStepTaken s = (advanceTo f.ends s).setNvs { s.nvs with
      mem := stepMem s f.step, flight := some { f with step := st, ends := f.ends + 4000#32 } } := by
  rw [nvStepTaken_eq hf, hnext, hgo]
  simp only [htime, Bool.false_and, Bool.false_eq_true, if_false]
  rfl

/-- A commit that was asked to stop ends FAILED at the end of the step. -/
theorem nvStepTaken_of_stop {x : AB} {g : BitVec 32} {st : NvStep} (hf : s.nvs.flight = some f)
    (hnext : nextStep s f.op f.step = some st) (hop : f.op = .bankCommit x g) (hstop : s.upd.stop = true) :
    nvStepTaken s = updFail .tamper (s.stepEnded f) := by
  rw [nvStepTaken_eq hf, hnext, hstop, hop]
  rfl

/-! ## The end of an operation (R173, R181, R184, R188, R189) -/

/-- A commit's end with no stop asked: the bank is VALID and pending, the update is over. -/
theorem operationEnds_of_commit {x : AB} {g : BitVec 32} (hop : f.op = .bankCommit x g) (hgo : s.upd.stop = false) :
    operationEnds f s = offerRecord false (.update .committed s.upd.version none) (setCond .updateDone
      ((setBankStatus x .valid s).setUpd { s.upd with
        mark := some { bank := x, version := s.upd.version, gen := g }, staging := [], received := 0, target := none,
        st := .idle })) := by
  have hupd : (setBankStatus x .valid s).upd = s.upd := by simp
  simp only [operationEnds, hop, hupd, hgo, Bool.false_eq_true, if_false, commitDone]

/-- A commit's end with a stop asked: the bank is invalidated, the update ends FAILED. -/
theorem operationEnds_of_stopped {x : AB} {g : BitVec 32} (hop : f.op = .bankCommit x g) (hstop : s.upd.stop = true) :
    operationEnds f s = updFail .tamper (offerSure (.invalidate x) (setBankStatus x .valid s)) := by
  have hupd : (setBankStatus x .valid s).upd = s.upd := by simp
  simp only [operationEnds, hop, hupd, hstop, if_true]

/-- A void clear write leaves the latch, and a request made since. -/
theorem clearDone_of_void (s : State) :
    clearDone true s = s.setTmp { s.tmp with clearSt := if s.tmp.clearSt = .void then .none else s.tmp.clearSt } := by
  rw [clearDone, if_pos rfl]
  split
  · rfl
  · rfl

/-! ## The anchor in force (R168, R173) -/

/-- A bank's status against a version floor: a VALID bank below it becomes BELOW_FLOOR. -/
def State.floorStatus (s : State) (floor : BitVec 32) (x : AB) : BankStatus :=
  if s.bankStatus x = .valid ∧ (readHeader (s.nvs.mem.bank x).header).any (fun r => decide (r.1 < floor)) = true then .belowFloor
  else s.bankStatus x

theorem floorRaised_eq (x : AB) (s : State) : floorRaised x s = setBankStatus x (s.floorStatus s.nvs.anchor.floor x) s := by
  have hkeep : setBankStatus x (s.bankStatus x) s = s := by cases x <;> rfl
  unfold floorRaised State.floorStatus
  cases readHeader (s.nvs.mem.bank x).header with
  | none => rw [if_neg (by simp), hkeep]
  | some r =>
    by_cases hlow : s.bankStatus x = .valid ∧ r.1 < s.nvs.anchor.floor
    · rw [if_pos (by simpa using hlow)]
      exact if_pos hlow
    · rw [if_neg (by simpa using hlow), hkeep]
      exact if_neg hlow

theorem anchorInForce_eq (slot : AB) (c : Anchor) (s : State) :
    anchorInForce slot c s = s.setNvs { s.nvs with
      anchor := c, curAnchor := slot, statusA := s.floorStatus c.floor .a, statusB := s.floorStatus c.floor .b } := by
  rw [anchorInForce, floorRaised_eq .a, floorRaised_eq .b]
  rfl

/-! ## The beginning of an operation (R171, R172) -/

theorem tamperClass_iff (op : NvOp) : op.tamperClass = true ↔ op = .anchorTamper ∨ ∃ x, op = .invalidate x := by
  cases op <;> simp [NvOp.tamperClass]

/-- The oldest tamper-class operation comes first, else the oldest. -/
theorem nextOp_of_split {l r : List NvOp} {op : NvOp}
    (h : (op.tamperClass = true ∧ ∀ o ∈ l, ¬ o.tamperClass = true) ∨ (l = [] ∧ ∀ o ∈ op :: r, ¬ o.tamperClass = true)) :
    nextOp (l ++ op :: r) = some op ∧ (l ++ op :: r).erase op = l ++ r := by
  rcases h with ⟨hop, hl⟩ | ⟨rfl, hno⟩
  · have hmem : op ∉ l := fun hin => hl op hin hop
    have hfind : (l ++ op :: r).find? NvOp.tamperClass = some op := by
      rw [List.find?_append, List.find?_eq_none.2 hl, Option.none_or, List.find?_cons_of_pos hop]
    exact ⟨by rw [nextOp, hfind], by rw [List.erase_append_right _ hmem, List.erase_cons_head]⟩
  · exact ⟨by rw [nextOp, List.nil_append, List.find?_eq_none.2 hno]; rfl, List.erase_cons_head ..⟩

/-- The engine, free and not in SLEEP, begins that operation (R158, R172). -/
theorem nvBegin_of_split {l r : List NvOp} {op : NvOp} (hf : s.nvs.flight = none) (hm : s.pwr.mode ≠ .sleep)
    (hq : s.nvs.queue = l ++ op :: r)
    (h : (op.tamperClass = true ∧ ∀ o ∈ l, ¬ o.tamperClass = true) ∨ (l = [] ∧ ∀ o ∈ op :: r, ¬ o.tamperClass = true)) :
    nvBegin s = beginEffects op (s.setNvs { s.nvs with
      queue := l ++ r
      flight := some {
        op := op, step := firstStep op s, ends := s.tim.packTime + BitVec.ofNat 32 (stepTime (firstStep op s)), void := false } }) := by
  obtain ⟨hnext, hrest⟩ := nextOp_of_split h
  rw [← hrest, ← hq, nvBegin, if_neg (by simp [hf, hm]), hq, hnext, ← hq]
  rfl

/-- The beginning of a commit: its bank is INCOMPLETE, and is no longer the pending one (R173). -/
theorem beginEffects_commit (x : AB) (g : BitVec 32) (s : State) :
    ((∃ m, s.upd.mark = some m ∧ m.bank = x) →
      beginEffects (.bankCommit x g) s = (setBankStatus x .incomplete s).setUpd { s.upd with mark := none })
    ∧ ((∀ m, s.upd.mark = some m → m.bank ≠ x) → beginEffects (.bankCommit x g) s = setBankStatus x .incomplete s) := by
  have hupd : (setBankStatus x .incomplete s).upd = s.upd := by simp
  simp only [beginEffects, hupd]
  refine ⟨fun ⟨m, hm, hbank⟩ => if_pos (by simp [hm, hbank]), fun hno => if_neg fun hmap => ?_⟩
  obtain ⟨m, hm, hbank⟩ := Option.map_eq_some_iff.1 hmap
  exact hno m hm hbank

end

/-- Settles O53: the step's page; each operation's next step or end; the anchor in force; and the operation that begins. -/
theorem nvStepEndWritesAndGoesOn : Obligations.NvStepEndWritesAndGoesOn := by
  refine ⟨fun s f hf => ?_, fun s slot c => anchorInForce_eq slot c s, fun s => ?_⟩
  · intro s1 blank bank mem ended goesOn answers failed pages
    have hmem : mem = stepMem s f.step := by
      simp only [mem, bank, blank, ← stagedPage_eq]
      cases f.step with
      | anchor slot c => cases slot <;> rfl
      | wear page w => cases page <;> rfl
      | _ => rfl
    have hended : ended = s.stepEnded f := by simp only [ended, hmem]; rfl
    have hupd : (s.stepEnded f).upd = s.upd := by simp
    have htmp : (s.stepEnded f).tmp = s.tmp := by simp
    have hfail (t : State) (ht : t.upd = s.upd) : updFail .tamper t = failed t := by simp only [updFail, ht, failed]
    have hgoes {st : NvStep} (hstop : s.upd.stop = false) (hnext : nextStep s f.op f.step = some st) (htime : stepTime st = 4000) :
        goesOn st := event_congr ((nvStepTaken_of_next hf hnext htime hstop).trans (by simp only [hmem, s1]))
    have hlast {t : State} (hnone : nextStep s f.op f.step = none) (ht : operationEnds f ended = t) : answers t :=
      event_congr ((nvStepTaken_of_last hf hnone).trans (by rw [← hended, ht]))
    rw [← hended] at hupd htmp
    refine ⟨fun x g hop hstop => ⟨fun hst hpages => ?_, fun i hst => ?_, fun hst => ?_, fun hst => ?_⟩,
      fun x g hop hstop => ⟨fun hst => ?_, fun hst hroom => ?_⟩, fun slot c hst => ?_, fun page w hop hst => ?_, fun x hop hst => ?_⟩
    · have hsome : bodyPages s ≠ 0 := Nat.pos_iff_ne_zero.1 hpages
      exact hgoes hstop (by rw [hop, hst, nextStep, if_neg hsome]) rfl
    · refine hgoes hstop (by rw [hop, hst]; rfl) ?_
      split <;> rfl
    · exact hgoes hstop (by rw [hop, hst]; rfl) rfl
    · refine hlast (by rw [hop, hst]; rfl) ?_
      rw [operationEnds_of_commit hop (by rw [hupd, hstop]), hupd]
    · have hnext : ∃ st, nextStep s f.op f.step = some st := by
        rw [hop]
        rcases hst with h | ⟨i, h⟩ | h <;> exact ⟨_, by rw [h]; rfl⟩
      obtain ⟨st, hnext⟩ := hnext
      exact event_congr ((nvStepTaken_of_stop hf hnext hop hstop).trans (by rw [← hended, hfail _ hupd]))
    · refine hlast (by rw [hop, hst]; rfl) ?_
      have hq : (setBankStatus x .valid ended).nvs.queue = s.nvs.queue := by simp [ended]
      rw [operationEnds_of_stopped hop (by rw [hupd, hstop]), offerSure_invalidate x (by rwa [hq]), hq, hfail _ (by simp [hupd])]
    · have hpart (hop : f.op.isCommit = false) : nextStep s f.op f.step = none := by
        cases h : f.op with
        | bankCommit x g => rw [h] at hop; cases hop
        | _ => rfl
      intro e
      have heupd : e.upd = s.upd := by simp [e, hupd]
      have hetmp : e.tmp = s.tmp := by simp [e, htmp]
      have hdone : anchorDone f.step ended = e := by rw [hst]; rfl
      refine ⟨fun hop => ?_, fun x v g hop => ?_, fun hop hvoid => ?_, fun hop hvoid => ?_⟩
      · rcases hop with hop | ⟨x, v, g, hop⟩ <;>
          exact hlast (hpart (by rw [hop]; rfl)) (by rw [operationEnds, hop, ← hdone])
      · exact hlast (hpart (by rw [hop]; rfl)) (by rw [operationEnds, hop]; simp only [hdone, heupd])
      · refine hlast (hpart (by rw [hop]; rfl)) ?_
        simp only [operationEnds, hop, hdone, hvoid, clearDone, hetmp]
        rfl
      · refine hlast (hpart (by rw [hop]; rfl)) ?_
        simp only [operationEnds, hop, hdone, hvoid, clearDone_of_void, hetmp]
    · have hkdr : ended.kdr = s.kdr := by simp [ended, s1]
      refine hlast (by rw [hop]; rfl) ?_
      simp only [operationEnds, hop, hst, wearDone, State.setNvs_kdr, hkdr]
      rfl
    · exact hlast (by rw [hop]; rfl) (by rw [operationEnds, hop])
  · intro urgent
    refine ⟨nvBegin_of_none, fun l op r hf hm hq hfirst => ?_⟩
    simp only [urgent, ← tamperClass_iff] at hfirst
    have hbegin := nvBegin_of_split hf hm hq hfirst
    refine ⟨fun x g hop => ?_, fun hop => ?_, fun x v g hop => ?_, fun x v g hop => ?_, fun hop => ?_, fun hop => ?_, fun x hop => ?_⟩ <;>
      subst hop
    · rw [hbegin]
      obtain ⟨hmarked, hother⟩ := beginEffects_commit x g (s.setNvs { s.nvs with
        queue := l ++ r
        flight := some { op := .bankCommit x g, step := .erase x, ends := s.tim.packTime + BitVec.ofNat 32 20000, void := false } })
      exact ⟨hmarked, hother⟩
    all_goals exact hbegin

end Sys2Proof.Machine
end

section
/-! SUPPORT. The activation and the profile switch: the request's checks (R183), the pursuit of a switch that is owed (R14, R15, R184),
and what the switch leaves in each block (R18, R35, R69, R108, R134, R185). -/
namespace Sys2Proof.Machine

/-! ## ACTIVATE (R183) -/

section
variable {s : State}

theorem ownActivate_of_latch (h : s.tmp.latch = true) : ownActivate s = (s, plain .tampered) := if_pos h

theorem ownActivate_of_none (h : s.tmp.latch = false) (hm : s.upd.mark = none) : ownActivate s = (s, plain .noPending) := by
  rw [ownActivate, h, if_neg nofun, hm]
  rfl

/-- With a pending mark the update unit must be free, the part quiet, and the engine have room. -/
theorem ownActivate_of_mark {m : PendMark} (h : s.tmp.latch = false) (hm : s.upd.mark = some m) :
    ownActivate s =
      if s.upd.st ≠ .idle ∨ s.upd.act ≠ .none then (s, plain .busy)
      else if s.quiet = false then (s, plain .live)
      else if 4 ≤ s.nvs.queue.length then (s, plain .busy)
      else ((s.setNvs { s.nvs with queue := s.nvs.queue ++ [.anchorActivate m.bank m.version m.gen] }).setUpd
        { s.upd with act := .queued, byPower := false, actBank := some m }, plain .accepted) := by
  rw [ownActivate, h, if_neg nofun, hm]
  dsimp only
  simp only [activating_iff]
  congr 2
  by_cases hfull : 4 ≤ s.nvs.queue.length
  · rw [offerOp_of_full (op := .anchorActivate m.bank m.version m.gen) nofun hfull, if_pos hfull]
    rfl
  · rw [offerOp_of_room (op := .anchorActivate m.bank m.version m.gen) nofun (Nat.not_le.1 hfull), if_neg hfull, ← hm]
    rfl

/-! ## The pursuit of a switch that is owed (R14, R15, R184) -/

/-- In RUN an event ends with the NV engine, the owed switch and the transmit path (log 12). -/
theorem finish_of_run (h : s.pwr.mode = .run) : finish s = linkPump (pursue (nvBegin s)) := by
  dsimp only [finish]
  rw [entryOne_of_mode (by simp [h]), entryTwo_of_mode (by simp [h]), entryThree_of_mode (by simp [h]),
    startupProgress_of_mode (by simp [h]), wakeProgress_of_mode (by simp [h]), entryFour_of_mode (by simp [h]), linkPump_linkPump]

/-- The part with the scheduler held for the switch. -/
theorem pursue_of_owed (hact : s.upd.act = .owed) (hm : s.pwr.mode = .run) :
    pursue s =
      let h := if !s.upd.holding && s.quiet then holdSched s else s
      if h.upd.holding && h.linkQuiet then lookAgain h else h := by
  rw [pursue, if_pos ⟨hact, .inr hm⟩]

theorem pursue_of_not_quiet (hact : s.upd.act = .owed) (hm : s.pwr.mode = .run) (hno : s.upd.holding = false) (hq : s.quiet = false) :
    pursue s = s := by
  rw [pursue_of_owed hact hm]
  simp [hno, hq]

theorem pursue_of_quiet (hact : s.upd.act = .owed) (hm : s.pwr.mode = .run) (hno : s.upd.holding = false) (hq : s.quiet = true) :
    pursue s = if s.linkQuiet then lookAgain (holdSched s) else holdSched s := by
  have hholding : (holdSched s).upd.holding = true := rfl
  have hlink : (holdSched s).linkQuiet = s.linkQuiet := rfl
  rw [pursue_of_owed hact hm]
  simp [hno, hq, hholding, hlink]

theorem pursue_of_holding (hact : s.upd.act = .owed) (hm : s.pwr.mode = .run) (hh : s.upd.holding = true) :
    pursue s = if s.linkQuiet then lookAgain s else s := by
  rw [pursue_of_owed hact hm]
  simp [hh]

theorem releaseSched_eq (run : Bool) (s : State) :
    releaseSched run s = arbiter (s.setSch { s.sch with
      suspended := false, running := run || s.sch.running
      countdowns := if run then s.prof.slots.map (fun c => if c.enabled then some (c.phase + 1) else none) else s.sch.countdowns }) := by
  cases run <;> rfl

/-! ## The welds of a switch (R108) -/

/-- An in-use channel in OPEN whose feedback is closed. -/
def State.welds (s : State) (k : Nat) : Bool := s.inUse k && (s.chan k).closedFb && (s.chan k).st == .opened

theorem lt_length_of_welds {k : Nat} (h : s.welds k = true) : k < s.kdr.chans.length := by
  by_contra hk
  have hfb : (s.chan k).closedFb = false := by rw [chan_of_length_le (Nat.le_of_not_lt hk)]; rfl
  simp [State.welds, hfb] at h

/-- A channel that is taken for welded. -/
def Chan.welded (c : Chan) : Chan := { c with st := .weldSuspect, pullIn := none, superv := none, settling := none }

theorem switchWeld_of_not {k : Nat} (h : s.welds k = false) : switchWeld k s = s := if_neg (by rw [← Bool.not_eq_true] at h; exact h)

theorem switchWeld_of_welds {k : Nat} (h : s.welds k = true) :
    switchWeld k s = handOn k .opened .weldSuspect noTimes false s.now (s.setChan k (s.chan k).welded) := by
  have hst : (s.chan k).st = .opened := by
    simp only [State.welds, Bool.and_eq_true, beq_iff_eq] at h
    exact h.2
  refine (if_pos h).trans ?_
  rw [enterFault_of_released hst nofun nofun]
  rfl

theorem chan_switchWeld (k j : Nat) (s : State) :
    (switchWeld k s).chan j = if j = k ∧ s.welds k = true then (s.chan k).welded else s.chan j := by
  cases h : s.welds k with
  | false => rw [switchWeld_of_not h, if_neg (by simp)]
  | true =>
    have hk := lt_length_of_welds h
    rw [switchWeld_of_welds h, chan_handOn, chan_setChan]
    simp [hk]

theorem welds_switchWeld_of_ne {j k : Nat} (hjk : j ≠ k) : (switchWeld k s).welds j = s.welds j := by
  have hchan : (switchWeld k s).chan j = s.chan j := by rw [chan_switchWeld, if_neg (by simp [hjk])]
  simp [State.welds, State.inUse, State.chanCfg, hchan]

/-- CONTACTOR_FAULT, once set by a weld, is set by the next and left by no weld. -/
theorem switchWeld_contactorFault (k : Nat) (s : State) :
    (switchWeld k s).condSet .contactorFault = (s.welds k || s.condSet .contactorFault) := by
  cases h : s.welds k with
  | false => rw [switchWeld_of_not h, Bool.false_or]
  | true =>
    have hk := lt_length_of_welds h
    rw [switchWeld_of_welds h, handOn_eq, condSet_liveCond, if_pos rfl, Bool.true_or, State.anyFaulted, List.any_eq_true]
    have hlen : k < (s.setChan k (s.chan k).welded).kdr.chans.length := by simpa [State.setChan] using hk
    refine ⟨(s.chan k).welded, ?_, rfl⟩
    simpa [State.setChan] using List.mem_set hk _

/-- A switch's weld changes CONTACTOR_FAULT and, by its record, LOG_THRESHOLD and LOG_FULL, and no other condition. -/
theorem offerRecord_condSet_of_ne {c : Cond} (h1 : c ≠ .logThreshold) (h2 : c ≠ .logFull) (fault : Bool) (body : RecordBody) (s : State) :
    (offerRecord fault body s).condSet c = s.condSet c := by
  rcases Nat.lt_or_ge s.log.records.length (admitLimit fault) with hroom | hfull
  · rw [offerRecord_condSet_of_room hroom, if_neg h1]
  · rw [offerRecord_of_full hfull, condSet_setCond, beq_false_of_ne h2, Bool.or_false]

theorem switchWeld_condSet_of_ne {c : Cond} (h1 : c ≠ .logThreshold) (h2 : c ≠ .logFull) (h3 : c ≠ .contactorFault) (k : Nat) (s : State) :
    (switchWeld k s).condSet c = s.condSet c := by
  cases h : s.welds k with
  | false => rw [switchWeld_of_not h]
  | true =>
    rw [switchWeld_of_welds h, handOn_eq, condSet_liveCond, if_neg h3, offerRecord_condSet_of_ne h1 h2]
    rfl

theorem switchWelds_condSet_of_ne {c : Cond} (h1 : c ≠ .logThreshold) (h2 : c ≠ .logFull) (h3 : c ≠ .contactorFault) (s : State) :
    (switchWelds s).condSet c = s.condSet c := by
  simp only [switchWelds, switchWeld_condSet_of_ne h1 h2 h3]

/-- Each of the four channels is judged as it was before the switch. -/
theorem switchWelds_welds {k : Nat} (hk : k < 4) (s : State) :
    (switchWelds s).chan k = (if s.welds k then (s.chan k).welded else s.chan k)
    ∧ (s.welds k = true → (switchWelds s).condSet .contactorFault = true) := by
  unfold switchWelds
  refine ⟨?_, fun h => ?_⟩
  · match k, hk with
    | 0, _ => simp [chan_switchWeld]
    | 1, _ => simp [chan_switchWeld, welds_switchWeld_of_ne]
    | 2, _ => simp [chan_switchWeld, welds_switchWeld_of_ne]
    | 3, _ => simp [chan_switchWeld, welds_switchWeld_of_ne]
  · match k, hk with
    | 0, _ => simp [switchWeld_contactorFault, h]
    | 1, _ => simp [switchWeld_contactorFault, welds_switchWeld_of_ne, h]
    | 2, _ => simp [switchWeld_contactorFault, welds_switchWeld_of_ne, h]
    | 3, _ => simp [switchWeld_contactorFault, welds_switchWeld_of_ne, h]

theorem switchWelds_of_none (h : ∀ k, k < 4 → s.welds k = false) : switchWelds s = s := by
  rw [switchWelds, switchWeld_of_not (h 0 (by decide)), switchWeld_of_not (h 1 (by decide)), switchWeld_of_not (h 2 (by decide)),
    switchWeld_of_not (h 3 (by decide))]

/-! ## The blocks with their new parameters (R18, R35, R69, R108, R185) -/

theorem samePopulation_iff (p q : Profile) :
    samePopulation p q = true ↔ p.moduleCount = q.moduleCount ∧ ∀ k, k < 12 → cellsAt p k = cellsAt q k := by
  simp [samePopulation]

/-- The part with a profile's parameters in each block, before the welds are judged. -/
def switchBlocks (p : Profile) (s : State) : State :=
  judgeStale (judgeBreach (anaTake (switchMarking ((takePolarities p (switchCells p s)).setProf p))))

/-- The end of a switch: counters, threshold, the activation over, the UPDATE record, NO_PROFILE and, last, the enable set. -/
def switchEnds (p : Profile) (m : PendMark) (s : State) : State :=
  let x := thresholdTake (countersTake s)
  replaceEnables p.enables (clearCond .noProfile (offerRecord false (.update .activated m.version none)
    (x.setUpd { x.upd with act := .none, actBank := none, byPower := false })))

/-- The profile that a switch takes: the bank's, or the one that stands where the bank spells none (log 30). -/
def State.switchProfile (s : State) (m : PendMark) : Profile := (validImage (s.nvs.mem.bank m.bank).image).getD s.prof

/-- The part with the bank that a switch activates. -/
def State.bankTaken (s : State) (m : PendMark) : State :=
  s.setNvs { s.nvs with active := some m.bank, activeVer := some (m.version, m.gen) }

theorem applySwitch_eq {m : PendMark} (hm : s.upd.actBank = some m) :
    applySwitch s = switchEnds (s.switchProfile m) m (switchWelds (switchBlocks (s.switchProfile m) (s.bankTaken m))) := by
  simp only [applySwitch, hm, switchEnds, switchBlocks, State.switchProfile, State.bankTaken]

theorem thresholdTake_log (s : State) : (thresholdTake s).log = { s.log with threshold := s.prof.logThreshold } :=
  (judgeThreshold_frame _).2.2.2.2.2.2.2.2.2.2.1

/-- The blocks' new parameters, before the welds. -/
theorem switchBlocks_takes (p : Profile) (s : State) :
    (switchBlocks p s).prof = p ∧ (switchBlocks p s).nvs = s.nvs ∧ (switchBlocks p s).upd = s.upd
    ∧ (switchBlocks p s).log = s.log ∧ (switchBlocks p s).ana = { s.ana with active := true, run := 0 }
    ∧ (switchBlocks p s).cells = (switchCells p s).cells := by
  refine ⟨?_, ?_, ?_, ?_, ?_, ?_⟩
  · simp [switchBlocks]
  · simp [switchBlocks]
  · simp [switchBlocks]
  · simp [switchBlocks]
  · simp [switchBlocks, anaTake]
  · simp [switchBlocks]

theorem switchBlocks_chn (p : Profile) (s : State) :
    (switchBlocks p s).chn = { s.chn with
      modules := (List.range s.chn.modules.length).map fun k => switchMark p k (s.modEntry k) } := by
  simp [switchBlocks, switchMarking, State.modEntry]

/-- Each channel reads its feedback afresh where its polarity changes (R92, R108). -/
theorem chan_switchBlocks (p : Profile) {k : Nat} (hk : k < s.kdr.chans.length) :
    (switchBlocks p s).chan k
      = rereadFeedback (s.chanCfg k) (p.chans.getD k factoryChan) (s.pins.feedback.getLsbD k) (s.chan k) := by
  have hkdr : (switchBlocks p s).kdr = (takePolarities p (switchCells p s)).kdr := by simp [switchBlocks]
  have hcells : (switchCells p s).kdr = s.kdr := by simp
  rw [chan_of_chans (congrArg Kdr.chans hkdr) k, chan_takePolarities p (by rwa [hcells]), chan_of_chans (congrArg Kdr.chans hcells) k]
  simp [State.chanCfg]

theorem inUse_switchBlocks (p : Profile) (s : State) (k : Nat) :
    (switchBlocks p s).inUse k = ((p.chans.getD k factoryChan).role != .unused) := by
  rw [State.inUse, State.chanCfg, (switchBlocks_takes p s).1]

/-- After a switch every cell is without a breach. -/
theorem breach_switchCells {p : Profile} {c : Cell} (hc : c ∈ (switchCells p s).cells) : c.breach = .normal := by
  obtain ⟨d, -, rfl⟩ := List.mem_map.1 hc
  split <;> rfl

theorem countBreach_switchBlocks (p : Profile) {x : State} (hx : x.cells = (switchCells p s).cells) {b : BreachState} (hb : b ≠ .normal) :
    decide (0 < x.countBreach b) = false := by
  rw [countBreach_pos, List.any_eq_false]
  intro c hc
  rw [breach_switchCells (hx ▸ List.mem_of_mem_take hc)]
  simpa using hb.symm

/-- The conditions that the blocks judge at a switch. -/
theorem switchBlocks_judged (p : Profile) (s : State) :
    (switchBlocks p s).condSet .cellOv = false ∧ (switchBlocks p s).condSet .cellUv = false
    ∧ (switchBlocks p s).condSet .cellStale = (switchBlocks p s).populated.any (fun c => !c.fresh)
    ∧ (switchBlocks p s).condSet .moduleLost = (switchBlocks p s).someLost := by
  have hcells : (anaTake (switchMarking ((takePolarities p (switchCells p s)).setProf p))).cells = (switchCells p s).cells := by simp
  refine ⟨?_, ?_, ?_, ?_⟩
  · rw [switchBlocks, judgeStale_condSet, if_neg nofun, judgeBreach, condSet_liveCond, if_neg nofun, condSet_liveCond, if_pos rfl]
    exact countBreach_switchBlocks p hcells nofun
  · rw [switchBlocks, judgeStale_condSet, if_neg nofun, judgeBreach, condSet_liveCond, if_pos rfl]
    exact countBreach_switchBlocks p hcells nofun
  · rw [switchBlocks, judgeStale_condSet, if_pos rfl]
    simp [State.populated]
  · rw [switchBlocks, judgeStale_condSet, if_neg nofun, judgeBreach_condSet _ (c := .moduleLost) nofun nofun,
      condSet_of_same (t := anaTake _) (s := switchMarking _) rfl, switchMarking, condSet_judgeModuleLost, if_pos rfl]
    exact someLost_of_same (by simp) (by simp)

/-! ## The end of a switch -/

/-- A record enters a log with another threshold as it enters the log itself. -/
theorem offerRecord_log_of_threshold {t : State} {n : Nat} (h : t.log = { s.log with threshold := n }) (fault : Bool) (body : RecordBody) :
    (offerRecord fault body t).log = { (offerRecord fault body s).log with threshold := n } := by
  have hlen : t.log.records = s.log.records := by rw [h]
  rcases Nat.lt_or_ge s.log.records.length (admitLimit fault) with hroom | hfull
  · rw [offerRecord_log_of_room hroom, offerRecord_log_of_room (by rwa [hlen]), h]
  · rw [offerRecord_log_of_full hfull, offerRecord_log_of_full (by rwa [hlen]), h]

variable (p : Profile) (m : PendMark)

theorem switchEnds_takes (s : State) :
    (switchEnds p m s).upd = { s.upd with act := .none, actBank := none, byPower := false }
    ∧ (switchEnds p m s).ctr = { counters := s.prof.counters.map Counter.ofCfg, overflow := 0 }
    ∧ (switchEnds p m s).cnd.enables = p.enables := by
  refine ⟨?_, ?_, rfl⟩
  · simp [switchEnds]
  · simp [switchEnds, countersTake]

theorem switchEnds_keeps (s : State) :
    (switchEnds p m s).prof = s.prof ∧ (switchEnds p m s).nvs = s.nvs ∧ (switchEnds p m s).chn = s.chn
    ∧ (switchEnds p m s).ana = s.ana ∧ (switchEnds p m s).cells = s.cells ∧ (switchEnds p m s).kdr = s.kdr := by
  simp [switchEnds]

theorem switchEnds_log {x : State} (h : x.log = s.log) :
    (switchEnds p m x).log
      = { (offerRecord false (.update .activated m.version none) s).log with threshold := x.prof.logThreshold } := by
  rw [← offerRecord_log_of_threshold (t := (thresholdTake (countersTake x)).setUpd
    { (thresholdTake (countersTake x)).upd with act := .none, actBank := none, byPower := false }) (s := s)]
  · simp [switchEnds]
  · simp [thresholdTake_log, h]

theorem switchEnds_threshold (s : State) : (switchEnds p m s).log.threshold = s.prof.logThreshold := by
  rw [switchEnds_log p m rfl]

/-- Beside the UPDATE record's, the end of a switch clears NO_PROFILE and COUNTER_OVERFLOW and leaves every other condition. -/
theorem switchEnds_condSet {c : Cond} (h1 : c ≠ .logThreshold) (h2 : c ≠ .logFull) (s : State) :
    (switchEnds p m s).condSet c = if c = .noProfile ∨ c = .counterOverflow then false else s.condSet c := by
  have henables : ∀ x : State, (replaceEnables p.enables x).condSet c = x.condSet c := fun x => condSet_of_same rfl c
  have hupd : ∀ (x : State) (u : Upd), (x.setUpd u).condSet c = x.condSet c := fun _ _ => condSet_of_same rfl c
  rw [switchEnds, henables, condSet_clearCond, offerRecord_condSet_of_ne h1 h2, hupd, thresholdTake_condSet, if_neg h1, countersTake_condSet]
  by_cases hn : c = .noProfile
  · simp [hn]
  · by_cases ho : c = .counterOverflow <;> simp [hn, ho]

/-! ## The switch as the statement lists it -/

/-- The feedback that channel k reads once the switch has taken its polarity (R92, R108). -/
def State.switchedFb (s : State) (p : Profile) (k : Nat) : Bool :=
  if (s.chanCfg k).polarity = (p.chans.getD k factoryChan).polarity then (s.chan k).closedFb
  else if (p.chans.getD k factoryChan).polarity = .highClosed then s.pins.feedback.getLsbD k else !s.pins.feedback.getLsbD k

/-- Channel k with its feedback read afresh where its polarity changes. -/
def State.switchedChan (s : State) (p : Profile) (k : Nat) : Chan :=
  if (s.chanCfg k).polarity = (p.chans.getD k factoryChan).polarity then s.chan k
  else { s.chan k with closedFb := s.switchedFb p k, debounce := 0, acceptDue := false }

theorem chan_switchBlocks_eq {k : Nat} (hk : k < s.kdr.chans.length) : (switchBlocks p s).chan k = s.switchedChan p k := by
  rw [chan_switchBlocks p hk, rereadFeedback_eq, State.switchedChan, State.switchedFb]
  split <;> rfl

theorem welds_switchBlocks_iff {k : Nat} (hk : k < s.kdr.chans.length) :
    (switchBlocks p s).welds k = true
      ↔ (p.chans.getD k factoryChan).role ≠ .unused ∧ s.switchedFb p k = true ∧ (s.chan k).st = .opened := by
  have hst : (s.switchedChan p k).st = (s.chan k).st := by
    rw [State.switchedChan]
    split <;> rfl
  have hfb : (s.switchedChan p k).closedFb = s.switchedFb p k := by
    rw [State.switchedChan, State.switchedFb]
    split <;> rfl
  simp [State.welds, inUse_switchBlocks, chan_switchBlocks_eq p hk, hst, hfb, and_assoc]

theorem welds_switchBlocks_of_not {k : Nat}
    (h : ¬ ((p.chans.getD k factoryChan).role ≠ .unused ∧ s.switchedFb p k = true ∧ (s.chan k).st = .opened)) :
    (switchBlocks p s).welds k = false := by
  rcases Nat.lt_or_ge k s.kdr.chans.length with hk | hk
  · rw [← Bool.not_eq_true, welds_switchBlocks_iff p hk]
    exact h
  · rw [← Bool.not_eq_true]
    intro hw
    have hlen : (switchBlocks p s).kdr.chans.length = s.kdr.chans.length := by simp [switchBlocks, takePolarities]
    exact absurd (lt_length_of_welds hw) (by omega)

variable {m}

/-- What the switch leaves of channel k, and CONTACTOR_FAULT where it is taken for welded (R108). -/
theorem applySwitch_channel (hm : s.upd.actBank = some m) {k : Nat} (hk : k < 4) (hlen : s.kdr.chans.length = 4) :
    let p := s.switchProfile m
    let weld := (p.chans.getD k factoryChan).role ≠ .unused ∧ s.switchedFb p k = true ∧ (s.chan k).st = .opened
    (¬ weld → (applySwitch s).chan k = s.switchedChan p k)
    ∧ (weld → (applySwitch s).chan k = (s.switchedChan p k).welded ∧ (applySwitch s).condSet .contactorFault = true) := by
  intro p weld
  have hk' : k < s.kdr.chans.length := hlen ▸ hk
  have happly := applySwitch_eq hm
  have hweld : (switchBlocks p (s.bankTaken m)).welds k = true ↔ weld := welds_switchBlocks_iff (s := s.bankTaken m) p hk'
  obtain ⟨hchan, hfault⟩ := switchWelds_welds hk (switchBlocks p (s.bankTaken m))
  have hkeep : (applySwitch s).chan k = (switchWelds (switchBlocks p (s.bankTaken m))).chan k := by
    rw [happly]
    exact chan_of_chans (congrArg Kdr.chans (switchEnds_keeps p m _).2.2.2.2.2) k
  have hblock : (switchBlocks p (s.bankTaken m)).chan k = s.switchedChan p k := chan_switchBlocks_eq (s := s.bankTaken m) p hk'
  rw [hblock, ← hkeep] at hchan
  refine ⟨fun h => ?_, fun h => ⟨?_, ?_⟩⟩
  · rw [hchan, if_neg (by rwa [hweld])]
  · rw [hchan, if_pos (hweld.2 h)]
  · rw [happly, switchEnds_condSet p m (c := .contactorFault) nofun nofun, if_neg (by simp)]
    exact hfault (hweld.2 h)

/-- Without a weld the log takes the UPDATE record and the new threshold. -/
theorem applySwitch_log (hm : s.upd.actBank = some m)
    (h : ∀ k, k < 4 → ¬ (((s.switchProfile m).chans.getD k factoryChan).role ≠ .unused
      ∧ s.switchedFb (s.switchProfile m) k = true ∧ (s.chan k).st = .opened)) :
    (applySwitch s).log
      = { (offerRecord false (.update .activated m.version none) s).log with threshold := (s.switchProfile m).logThreshold } := by
  rw [applySwitch_eq hm, switchWelds_of_none fun k hk => welds_switchBlocks_of_not (s := s.bankTaken m) _ (h k hk)]
  obtain ⟨hprof, -, -, hlog, -⟩ := switchBlocks_takes (s.switchProfile m) (s.bankTaken m)
  rw [switchEnds_log _ m (s := s) hlog, hprof]

/-- The cell table is reset, or kept by a profile of the same population (R18, R35). -/
theorem switchCells_cells (p : Profile) (s : State) :
    ((p.moduleCount = s.prof.moduleCount ∧ ∀ k, k < 12 → cellsAt p k = cellsAt s.prof k) →
        (switchCells p s).cells = s.cells.map switchCell)
    ∧ (¬ (p.moduleCount = s.prof.moduleCount ∧ ∀ k, k < 12 → cellsAt p k = cellsAt s.prof k) →
        (switchCells p s).cells = s.cells.map fun _ => cellReset) := by
  have hiff : samePopulation s.prof p = true ↔ p.moduleCount = s.prof.moduleCount ∧ ∀ k, k < 12 → cellsAt p k = cellsAt s.prof k := by
    rw [samePopulation_iff]
    exact and_congr eq_comm (forall_congr' fun _ => imp_congr_right fun _ => eq_comm)
  rw [← hiff]
  exact ⟨fun h => by simp [switchCells, h], fun h => by simp [switchCells, h]⟩

variable {p}

/-- What a switch leaves of the blocks that take a profile. -/
theorem applySwitch_takes (hm : s.upd.actBank = some m) :
    (applySwitch s).prof = s.switchProfile m ∧ (applySwitch s).nvs = (s.bankTaken m).nvs
    ∧ (applySwitch s).upd = { s.upd with act := .none, actBank := none, byPower := false }
    ∧ (applySwitch s).cells = (switchCells (s.switchProfile m) s).cells ∧ (applySwitch s).ana = { s.ana with active := true, run := 0 }
    ∧ (applySwitch s).ctr = { counters := (s.switchProfile m).counters.map Counter.ofCfg, overflow := 0 }
    ∧ (applySwitch s).log.threshold = (s.switchProfile m).logThreshold ∧ (applySwitch s).cnd.enables = (s.switchProfile m).enables
    ∧ (applySwitch s).chn = { s.chn with
        modules := (List.range s.chn.modules.length).map fun k => switchMark (s.switchProfile m) k (s.modEntry k) } := by
  obtain ⟨hprof, hnvs, hupd, -, hana, hcells⟩ := switchBlocks_takes (s.switchProfile m) (s.bankTaken m)
  obtain ⟨eprof, envs, echn, eana, ecells, -⟩ :=
    switchEnds_keeps (s.switchProfile m) m (switchWelds (switchBlocks (s.switchProfile m) (s.bankTaken m)))
  obtain ⟨eupd, ectr, eenables⟩ :=
    switchEnds_takes (s.switchProfile m) m (switchWelds (switchBlocks (s.switchProfile m) (s.bankTaken m)))
  have hchn := switchBlocks_chn (s.switchProfile m) (s.bankTaken m)
  have hwelds : (switchWelds (switchBlocks (s.switchProfile m) (s.bankTaken m))).prof = s.switchProfile m := by simpa using hprof
  rw [applySwitch_eq hm]
  refine ⟨eprof.trans hwelds, envs.trans ?_, eupd.trans ?_, ecells.trans ?_, eana.trans ?_, ectr.trans ?_, ?_, eenables, echn.trans ?_⟩
  · simpa using hnvs
  · simp only [switchWelds_frame, hupd]
    rfl
  · simp only [switchWelds_frame, hcells]
    rfl
  · simp only [switchWelds_frame, hana]
    rfl
  · rw [hwelds]
  · rw [switchEnds_threshold, hwelds]
  · simp only [switchWelds_frame, hchn]
    rfl

/-- The conditions that a switch judges afresh. -/
theorem applySwitch_judges (hm : s.upd.actBank = some m) :
    (applySwitch s).condSet .noProfile = false ∧ (applySwitch s).condSet .counterOverflow = false
    ∧ (applySwitch s).condSet .cellOv = false ∧ (applySwitch s).condSet .cellUv = false
    ∧ (applySwitch s).condSet .cellStale = (applySwitch s).populated.any (fun c => !c.fresh)
    ∧ (applySwitch s).condSet .moduleLost = (applySwitch s).someLost := by
  have happly := applySwitch_eq hm
  generalize hx : switchBlocks (s.switchProfile m) (s.bankTaken m) = x at happly
  have hkept : ∀ c : Cond, c ≠ .logThreshold → c ≠ .logFull → c ≠ .contactorFault → c ≠ .noProfile → c ≠ .counterOverflow →
      (applySwitch s).condSet c = x.condSet c := fun c h1 h2 h3 h4 h5 => by
    rw [happly, switchEnds_condSet _ m h1 h2, if_neg (by simp [h4, h5]), switchWelds_condSet_of_ne h1 h2 h3]
  obtain ⟨hov, huv, hstale, hlost⟩ := hx ▸ switchBlocks_judged (s.switchProfile m) (s.bankTaken m)
  obtain ⟨eprof, -, echn, -, ecells, -⟩ := switchEnds_keeps (s.switchProfile m) m (switchWelds x)
  have hprof : (applySwitch s).prof = x.prof := by rw [happly, eprof]; simp
  have hchn : (applySwitch s).chn = x.chn := by rw [happly, echn]; simp
  have hcells : (applySwitch s).cells = x.cells := by rw [happly, ecells]; simp
  refine ⟨?_, ?_, ?_, ?_, ?_, ?_⟩
  · rw [happly, switchEnds_condSet _ m (c := .noProfile) nofun nofun, if_pos (.inl rfl)]
  · rw [happly, switchEnds_condSet _ m (c := .counterOverflow) nofun nofun, if_pos (.inr rfl)]
  · rw [hkept .cellOv nofun nofun nofun nofun nofun, hov]
  · rw [hkept .cellUv nofun nofun nofun nofun nofun, huv]
  · rw [hkept .cellStale nofun nofun nofun nofun nofun, hstale, State.populated, State.populated, hcells, hprof]
  · rw [hkept .moduleLost nofun nofun nofun nofun nofun, hlost]
    exact (someLost_of_same hprof (by rw [hchn])).symm

theorem applySwitch_keptRun (s : State) : (applySwitch s).upd.keptRun = s.upd.keptRun := by
  cases hm : s.upd.actBank with
  | none => rw [applySwitch, hm]
  | some m => rw [(applySwitch_takes hm).2.2.1]

theorem lookAgain_of_quiet (h : s.quiet = true) :
    lookAgain s = releaseSched (s.upd.keptRun || (applySwitch s).prof.autostart)
      ((applySwitch s).setUpd { (applySwitch s).upd with holding := false }) := by
  rw [← applySwitch_keptRun s]
  exact if_pos h

theorem lookAgain_of_not_quiet (h : s.quiet = false) :
    lookAgain s = releaseSched s.upd.keptRun (s.setUpd { s.upd with holding := false }) := if_neg (by simp [h])

end

/-! ## The obligation -/

/-- The request's checks, by the answer that the update unit gives. -/
theorem activate_answers {s : State} {tag : Byte} (hs : s.serving) {st : Status} {t : State}
    (h : ownActivate (held tag .activate s) = (t, plain st)) :
    exec (.activate tag) s = .next (finish (replied tag .activate st .empty t)) :=
  request_of_serving (r := .activate) hs rfl h

/-- The switch as it is pursued at the end of an event in RUN. -/
theorem pursue_runs {s : State} (hact : s.upd.act = .owed) (hrun : s.pwr.mode = .run) :
    let quiet := (∀ c ∈ s.kdr.chans, c.st = .opened) ∧ s.seq.run = none
    let linkQuiet := s.inFlight = false ∧ s.chn.st ≠ .enumerating
    (s.upd.holding = false → ¬ quiet → pursue s = s)
    ∧ (s.upd.holding = false → quiet → ¬ linkQuiet → pursue s = holdSched s)
    ∧ (s.upd.holding = false → quiet → linkQuiet → pursue s = lookAgain (holdSched s))
    ∧ (s.upd.holding = true → ¬ linkQuiet → pursue s = s)
    ∧ (s.upd.holding = true → linkQuiet → pursue s = lookAgain s) := by
  intro quiet linkQuiet
  have hquiet : s.quiet = true ↔ quiet := quiet_iff
  have hlink : s.linkQuiet = true ↔ linkQuiet := linkQuiet_iff
  refine ⟨fun hno hq => ?_, fun hno hq hl => ?_, fun hno hq hl => ?_, fun hh hl => ?_, fun hh hl => ?_⟩
  · exact pursue_of_not_quiet hact hrun hno (by rwa [← Bool.not_eq_true, hquiet])
  · exact (pursue_of_quiet hact hrun hno (hquiet.2 hq)).trans (if_neg (by rwa [hlink]))
  · exact (pursue_of_quiet hact hrun hno (hquiet.2 hq)).trans (if_pos (hlink.2 hl))
  · exact (pursue_of_holding hact hrun hh).trans (if_neg (by rwa [hlink]))
  · exact (pursue_of_holding hact hrun hh).trans (if_pos (hlink.2 hl))

/-- Settles O28: the request by the update unit's answers, the pursuit by what stands quiet, and the switch block by block. -/
theorem activateChecks : Obligations.ActivateChecks := by
  refine ⟨fun s tag hs => ⟨fun hl => ?_, fun hl hm => ?_, fun m hl hm => ?_⟩,
    fun s => ⟨finish_of_run, pursue_of_not_owed, pursue_runs, fun hq => lookAgain_of_quiet (quiet_iff.2 hq),
      fun hq => lookAgain_of_not_quiet (by rwa [← Bool.not_eq_true, quiet_iff]), fun run => releaseSched_eq run s⟩,
    fun s m hm => ?_⟩
  · exact activate_answers hs (ownActivate_of_latch (s := held tag .activate s) hl)
  · exact activate_answers hs (ownActivate_of_none (s := held tag .activate s) hl hm)
  · have hown := ownActivate_of_mark (s := held tag .activate s) hl hm
    have hfree (hst : s.upd.st = .idle) (hact : s.upd.act = .none) : ¬ (s.upd.st ≠ .idle ∨ s.upd.act ≠ .none) := by simp [hst, hact]
    have hopened (h : ∀ c ∈ s.kdr.chans, c.st = .opened) (hseq : s.seq.run = none) : ¬ s.quiet = false :=
      ne_false_of_eq_true (quiet_iff.2 ⟨h, hseq⟩)
    refine ⟨fun hbusy => ?_, fun hst hact => ⟨fun hlive => ?_, fun hall hseq hfull => ?_, fun hall hseq hroom => ?_⟩⟩ <;>
      refine activate_answers hs (hown.trans ?_)
    · exact if_pos hbusy
    · exact (if_neg (hfree hst hact)).trans (if_pos (not_quiet_iff.2 hlive))
    · exact (if_neg (hfree hst hact)).trans ((if_neg (hopened hall hseq)).trans (if_pos hfull))
    · exact (if_neg (hfree hst hact)).trans ((if_neg (hopened hall hseq)).trans (if_neg (Nat.not_le.2 hroom)))
  · obtain ⟨hprof, hnvs, hupd, hcells, hana, hctr, hthr, hen, hchn⟩ := applySwitch_takes hm
    obtain ⟨hnone, hovf, hov, huv, hstale, hlost⟩ := applySwitch_judges hm
    obtain ⟨hsame, hother⟩ := switchCells_cells (s.switchProfile m) s
    obtain ⟨htim, hsch, haln, hlim, hseq, hpwr, htmp, hpli, hpins, hpending⟩ := applySwitch_frame s
    exact ⟨hprof, hnvs, hupd, fun h => hcells.trans (hsame h), fun h => hcells.trans (hother h), hana, hctr, hthr, hen, hnone, hovf, hov,
      huv, hstale, hlost, hchn, fun k hk hlen => applySwitch_channel hm hk hlen, applySwitch_log hm, htim, hsch, haln, hlim, hseq, hpwr,
      htmp, hpli, hpins, hpending⟩

end Sys2Proof.Machine
end

section
/-! SUPPORT. The image of a profile: which bytes spell one and where each field stands (R177, R205). -/
namespace Sys2Proof.Machine

/-! ## Numbers and codes -/

theorem leNat_lt (bs : List Byte) : leNat bs < 256 ^ bs.length := by
  induction bs with
  | nil => exact Nat.one_pos
  | cons b bs ih =>
    have hb : b.toNat < 256 := b.isLt
    rw [leNat, List.length_cons, Nat.pow_succ]
    omega

theorem natAt_lt (bs : List Byte) (off n : Nat) : natAt bs off n < 256 ^ n := by
  have h := leNat_lt ((List.range n).map fun i => bs.getD (off + i) 0)
  rwa [List.length_map, List.length_range] at h

theorem flagOf_eq_some {n : Nat} {b : Bool} : flagOf n = some b ↔ n = if b then 1 else 0 := by
  match n with
  | 0 | 1 => cases b <;> decide
  | n + 2 => cases b <;> simp [flagOf]

theorem flagOf_isSome (n : Nat) : (flagOf n).isSome = true ↔ n ≤ 1 := by
  match n with
  | 0 | 1 => decide
  | n + 2 => simp [flagOf]

/-- The code of a role, as `roleOf` reads it. -/
def Role.imageCode : Role → Nat
  | .mainPos => 0 | .mainNeg => 1 | .precharge => 2 | .aux => 3 | .unused => 4

/-- The code of a polarity, as `polarityOf` reads it. -/
def Polarity.imageCode : Polarity → Nat
  | .highClosed => 0 | .lowClosed => 1

theorem roleOf_eq_some {n : Nat} {r : Role} (h : roleOf n = some r) : n = r.imageCode := by
  match n, h with
  | 0, rfl | 1, rfl | 2, rfl | 3, rfl | 4, rfl => rfl

theorem roleOf_isSome (n : Nat) : (roleOf n).isSome = true ↔ n ≤ 4 := by
  match n with
  | 0 | 1 | 2 | 3 | 4 => decide
  | n + 5 => simp [roleOf]

theorem polarityOf_eq_some {n : Nat} {p : Polarity} (h : polarityOf n = some p) : n = p.imageCode := by
  match n, h with
  | 0, rfl | 1, rfl => rfl

theorem polarityOf_isSome (n : Nat) : (polarityOf n).isSome = true ↔ n ≤ 1 := by
  match n with
  | 0 | 1 => decide
  | n + 2 => simp [polarityOf]

theorem eventKindOf_isSome (n : Nat) : (eventKindOf n).isSome = true ↔ n ≤ 11 := by
  match n with
  | 0 | 1 | 2 | 3 | 4 | 5 | 6 | 7 | 8 | 9 | 10 | 11 => decide
  | n + 12 => simp [eventKindOf]

theorem skipOf_isSome (code arg : Nat) : (skipOf code arg).isSome = true ↔ code ≤ 3 := by
  match code with
  | 0 | 1 | 2 | 3 => simp [skipOf]
  | n + 4 => simp [skipOf]

/-! ## Lists of optional values -/

section
variable {α β : Type}

/-- Reading a list of places gives a value for each of them, or none at all. -/
theorem mapM_eq_some {f : α → Option β} {l : List α} {r : List β} (h : l.mapM f = some r) : l.map f = r.map some := by
  induction l generalizing r with
  | nil => simp_all
  | cons a l ih =>
    simp only [List.mapM_cons, Option.pure_def, Option.bind_eq_bind, Option.bind_eq_some_iff, Option.some.injEq] at h
    obtain ⟨b, hb, rest, hrest, rfl⟩ := h
    rw [List.map_cons, List.map_cons, hb, ih hrest]

theorem mapM_isSome (f : α → Option β) (l : List α) : (l.mapM f).isSome = true ↔ ∀ a ∈ l, (f a).isSome = true := by
  induction l with
  | nil => simp
  | cons a l ih =>
    cases ha : f a with
    | none => simp [ha]
    | some b => simp [ha, ← ih, Option.isSome_bind]

theorem mapM_range_eq_some {f : Nat → Option β} {n : Nat} {r : List β} (h : (List.range n).mapM f = some r) :
    r.length = n ∧ ∀ k, k < n → ∀ d, f k = some (r.getD k d) := by
  have hmap := mapM_eq_some h
  have hlen : r.length = n := by simpa using (congrArg List.length hmap).symm
  refine ⟨hlen, fun k hk d => ?_⟩
  have hk' := congrArg (fun l => l[k]?) hmap
  simpa [hk, hlen] using hk'

end

/-! ## The steps of a sequence -/

/-- The four bytes at a place spell a step (R202, R205). -/
def SeqStep.spelledAt (bs : List Byte) (f : Nat) (st : SeqStep) : Prop :=
  let n := natAt bs
  let a := n (f + 1) 1
  let b := n (f + 2) 2
  match st with
  | .close k => n f 1 = 0 ∧ a = k
  | .opn k => n f 1 = 1 ∧ a = k
  | .wait t => n f 1 = 2 ∧ b = t
  | .awaitLink x t => n f 1 = 3 ∧ a = x ∧ b = t
  | .awaitDecay x t => n f 1 = 4 ∧ a = x ∧ b = t
  | .skipIf (.linkAtLeast x) => n f 1 = 5 ∧ a = 0 ∧ b = x
  | .skipIf (.closed k) => n f 1 = 5 ∧ a = 1 ∧ b = k
  | .skipIf (.opened k) => n f 1 = 5 ∧ a = 2 ∧ b = k
  | .skipIf .allFresh => n f 1 = 5 ∧ a = 3
  | .sweep => n f 1 = 6
  | .endSeq => n f 1 = 7

theorem skipOf_spelled {bs : List Byte} {f : Nat} {c : SkipCond} (hf : natAt bs f 1 = 5)
    (h : skipOf (natAt bs (f + 1) 1) (natAt bs (f + 2) 2) = some c) : SeqStep.spelledAt bs f (.skipIf c) := by
  unfold skipOf at h
  split at h
  case h_5 => exact absurd h nofun
  all_goals
    obtain rfl := Option.some.inj h
    simp only [SeqStep.spelledAt]
    simp [*]

theorem stepAt_spelled {bs : List Byte} {f : Nat} {st : SeqStep} (h : stepAt bs f = some st) : st.spelledAt bs f := by
  unfold stepAt at h
  dsimp only at h
  split at h
  case h_6 hf =>
    obtain ⟨c, hc, rfl⟩ := Option.map_eq_some_iff.1 h
    exact skipOf_spelled hf hc
  case h_9 => exact absurd h nofun
  all_goals
    obtain rfl := Option.some.inj h
    simp only [SeqStep.spelledAt]
    simp [*]

theorem stepAt_isSome (bs : List Byte) (f : Nat) :
    (stepAt bs f).isSome = true ↔ natAt bs f 1 ≤ 7 ∧ (natAt bs f 1 = 5 → natAt bs (f + 1) 1 ≤ 3) := by
  unfold stepAt
  dsimp only
  split <;> simp_all [skipOf_isSome]
  omega

theorem stepsAt_eq_some {bs : List Byte} {n off : Nat} {sts : List SeqStep} (h : stepsAt bs n off = some sts) :
    sts.length = n ∧ ∀ i, i < n → ∃ st, sts[i]? = some st ∧ st.spelledAt bs (off + 4 * i) := by
  induction n generalizing off sts with
  | zero =>
    obtain rfl := Option.some.inj h
    exact ⟨rfl, fun i hi => absurd hi (Nat.not_lt_zero i)⟩
  | succ n ih =>
    simp only [stepsAt, Option.pure_def, Option.bind_eq_bind, Option.bind_eq_some_iff, Option.some.injEq] at h
    obtain ⟨st, hst, rest, hrest, rfl⟩ := h
    obtain ⟨hlen, hrest⟩ := ih hrest
    refine ⟨by rw [List.length_cons, hlen], fun i hi => ?_⟩
    cases i with
    | zero => exact ⟨st, rfl, stepAt_spelled hst⟩
    | succ i =>
      obtain ⟨x, hx, hspell⟩ := hrest i (by omega)
      have hplace : off + 4 * (i + 1) = off + 4 + 4 * i := by omega
      exact ⟨x, hx, by rwa [hplace]⟩

theorem stepsAt_isSome (bs : List Byte) (n off : Nat) :
    (stepsAt bs n off).isSome = true ↔ ∀ i, i < n → (stepAt bs (off + 4 * i)).isSome = true := by
  induction n generalizing off with
  | zero => simp [stepsAt]
  | succ n ih =>
    have hplace (i : Nat) : off + 4 * (i + 1) = off + 4 + 4 * i := by omega
    rw [Nat.forall_lt_succ_left, stepsAt]
    simp only [hplace, ← ih]
    cases stepAt bs off with
    | none => simp
    | some st => simp [Option.isSome_bind]

/-! ## The sequences -/

/-- The place behind a sequence. -/
def nextSeq (bs : List Byte) (o : Nat) : Nat := o + 1 + 4 * natAt bs o 1

theorem sequencesAt_eq_some {bs : List Byte} {n off fin : Nat} {qs : List (List SeqStep)} (h : sequencesAt bs n off = some (qs, fin)) :
    qs.length = n ∧ fin = off + n + 4 * (qs.map List.length).sum
    ∧ ∀ q, q < n →
        let o := off + q + 4 * ((qs.take q).map List.length).sum
        natAt bs o 1 = (qs.getD q []).length ∧ (qs.getD q []).length ≤ 12
        ∧ ∀ i, i < (qs.getD q []).length → ∃ st, (qs.getD q [])[i]? = some st ∧ st.spelledAt bs (o + 1 + 4 * i) := by
  induction n generalizing off qs with
  | zero =>
    obtain ⟨rfl, rfl⟩ := Prod.mk.inj (Option.some.inj h)
    exact ⟨rfl, rfl, fun q hq => absurd hq (Nat.not_lt_zero q)⟩
  | succ n ih =>
    simp only [sequencesAt, Option.pure_def, Option.bind_eq_bind, Option.ite_none_left_eq_some, Option.bind_eq_some_iff,
      Option.some.injEq, Prod.mk.injEq, Prod.exists] at h
    obtain ⟨hcount, sts, hsts, rest, _, hrest, rfl, rfl⟩ := h
    obtain ⟨hlen, hfin, hplaces⟩ := ih hrest
    obtain ⟨hn, hspell⟩ := stepsAt_eq_some hsts
    refine ⟨by rw [List.length_cons, hlen], ?_, fun q hq => ?_⟩
    · rw [hfin, List.map_cons, List.sum_cons, hn]
      omega
    · cases q with
      | zero =>
        refine ⟨hn.symm, ?_, fun i hi => hspell i (hn ▸ hi)⟩
        show sts.length ≤ 12
        omega
      | succ q =>
        have hplace : off + (q + 1) + 4 * (((sts :: rest).take (q + 1)).map List.length).sum
            = off + 1 + 4 * natAt bs off 1 + q + 4 * ((rest.take q).map List.length).sum := by
          rw [List.take_succ_cons, List.map_cons, List.sum_cons, hn]
          omega
        rw [hplace]
        exact hplaces q (by omega)

theorem sequencesAt_fin {bs : List Byte} {n off fin : Nat} {qs : List (List SeqStep)} (h : sequencesAt bs n off = some (qs, fin)) :
    fin = (nextSeq bs)^[n] off := by
  induction n generalizing off qs with
  | zero => exact (Prod.mk.inj (Option.some.inj h)).2.symm
  | succ n ih =>
    simp only [sequencesAt, Option.pure_def, Option.bind_eq_bind, Option.ite_none_left_eq_some, Option.bind_eq_some_iff,
      Option.some.injEq, Prod.mk.injEq, Prod.exists] at h
    obtain ⟨-, sts, -, rest, _, hrest, -, rfl⟩ := h
    exact ih hrest

/-- Sequences read where every step count is at most 12 and every step is spelled. -/
theorem sequencesAt_isSome (bs : List Byte) (n off : Nat) :
    (sequencesAt bs n off).isSome = true ↔ ∀ q, q < n →
      natAt bs ((nextSeq bs)^[q] off) 1 ≤ 12 ∧ ∀ i, i < natAt bs ((nextSeq bs)^[q] off) 1 →
        (stepAt bs ((nextSeq bs)^[q] off + 1 + 4 * i)).isSome = true := by
  induction n generalizing off with
  | zero => simp [sequencesAt]
  | succ n ih =>
    rw [Nat.forall_lt_succ_left, sequencesAt]
    simp only [Function.iterate_succ_apply, Function.iterate_zero, id_eq, ← stepsAt_isSome] at ih ⊢
    rw [← ih (nextSeq bs off)]
    by_cases hc : 12 < natAt bs off 1
    · simp [hc, Nat.not_le.2 hc]
    · rw [if_neg hc]
      cases stepsAt bs (natAt bs off 1) (off + 1) with
      | none => simp
      | some sts => simp [Option.isSome_bind, Nat.not_lt.1 hc, nextSeq]

end Sys2Proof.Machine
end

section
/-! SUPPORT. The images that spell a profile, those that validate, and the verification (R114, R177, R180, R181, R205). -/
namespace Sys2Proof.Machine

/-! ## The images that spell a profile (R205) -/

section
variable {bs : List Byte}

/-- A channel's fields stand at their places. -/
theorem chanAt_eq_some {off : Nat} {c : ChanCfg} (h : chanAt bs off = some c) :
    natAt bs off 1 = c.role.imageCode ∧ c.pullIn = natAt bs (off + 1) 1 ∧ c.holdWidth = natAt bs (off + 2) 1
    ∧ c.makeMax = natAt bs (off + 3) 2 ∧ c.breakMax = natAt bs (off + 5) 2 ∧ natAt bs (off + 7) 1 = c.polarity.imageCode := by
  simp only [chanAt, Option.pure_def, Option.bind_eq_bind, Option.bind_eq_some_iff, Option.some.injEq] at h
  obtain ⟨role, hrole, polarity, hpolarity, rfl⟩ := h
  exact ⟨roleOf_eq_some hrole, rfl, rfl, rfl, rfl, polarityOf_eq_some hpolarity⟩

theorem chanAt_isSome (bs : List Byte) (off : Nat) :
    (chanAt bs off).isSome = true ↔ natAt bs off 1 ≤ 4 ∧ natAt bs (off + 7) 1 ≤ 1 := by
  rw [← roleOf_isSome, ← polarityOf_isSome, chanAt]
  cases roleOf (natAt bs off 1) <;> cases polarityOf (natAt bs (off + 7) 1) <;> simp

/-- A counter's fields stand at their places. -/
theorem counterAt_eq_some {off : Nat} {c : CounterCfg} (h : counterAt bs off = some c) :
    eventKindOf (natAt bs off 1) = some c.kind ∧ c.snap = (bs.getD (off + 1) 0).getLsbD 0
    ∧ c.value.toNat = natAt bs (off + 2) 3 ∧ c.reload.toNat = natAt bs (off + 5) 3 := by
  simp only [counterAt, Option.pure_def, Option.bind_eq_bind, Option.bind_eq_some_iff, Option.some.injEq] at h
  obtain ⟨kind, hkind, rfl⟩ := h
  refine ⟨hkind, rfl, ?_, ?_⟩ <;> exact Nat.mod_eq_of_lt (natAt_lt bs _ 3)

theorem counterAt_isSome (bs : List Byte) (off : Nat) : (counterAt bs off).isSome = true ↔ natAt bs off 1 ≤ 11 := by
  rw [← eventKindOf_isSome, counterAt]
  cases eventKindOf (natAt bs off 1) <;> simp

/-- What a decoded image gives: each part that can fail gave its value, the length and the enables fit, and the fields that cannot
fail are the image's numbers. -/
theorem decodeImage_eq_some {p : Profile} (h : decodeImage bs = some p) :
    ∃ fin, sequencesAt bs 6 130 = some (p.sequences, fin)
      ∧ (flagOf (natAt bs 13 1) = some p.autostart ∧ flagOf (natAt bs 93 1) = some p.tripOv ∧ flagOf (natAt bs 94 1) = some p.tripUv
        ∧ flagOf (natAt bs 95 1) = some p.tripOc)
      ∧ ((List.range 4).mapM fun k => chanAt bs (96 + 8 * k)) = some p.chans
      ∧ ((List.range 8).mapM fun n => counterAt bs (fin + 8 * n)) = some p.counters
      ∧ bs.length = fin + 77 ∧ natAt bs (fin + 65) 4 < 2 ^ 22 ∧ p.enables = BitVec.ofNat 22 (natAt bs (fin + 65) 4)
      ∧ (p.moduleCount = natAt bs 0 1 ∧ p.cellCounts = (List.range 12).map (fun k => natAt bs (1 + k) 1)
        ∧ p.slots = (List.range 8).map fun i => slotAt bs (14 + 7 * i))
      ∧ (p.convOffset = natAt bs 70 1 ∧ p.hopDelay = natAt bs 71 1 ∧ p.cellSpacing = natAt bs 72 1 ∧ p.period = natAt bs 73 2
        ∧ p.ocLimit = natAt bs 75 2 ∧ p.ocTime = natAt bs 77 2 ∧ p.freshness = natAt bs 79 2 ∧ p.minStep = natAt bs 81 2
        ∧ p.refMaxAge = natAt bs 83 2 ∧ p.filterShift = natAt bs 85 1 ∧ p.ovLimit = natAt bs 86 2 ∧ p.uvLimit = natAt bs 88 2
        ∧ p.hysteresis = natAt bs 90 2 ∧ p.debounce = natAt bs 92 1 ∧ p.hardBreakLimit = natAt bs 128 2)
      ∧ p.logThreshold = natAt bs (fin + 64) 1 ∧ p.sleepPeriod = natAt bs (fin + 69) 2 ∧ p.sleepOv = natAt bs (fin + 71) 2
      ∧ p.sleepUv = natAt bs (fin + 73) 2 ∧ p.selfDischarge = natAt bs (fin + 75) 2 := by
  simp only [decodeImage, Option.pure_def, Option.bind_eq_bind, Option.bind_eq_some_iff, Prod.exists,
    Option.ite_none_right_eq_some, Option.some.injEq] at h
  obtain ⟨_, hauto, _, hov, _, huv, _, hoc, _, hchans, _, fin, hseqs, _, hcounters, ⟨hlen, hen⟩, rfl⟩ := h
  exact ⟨fin, hseqs, ⟨hauto, hov, huv, hoc⟩, hchans, hcounters, hlen, hen, rfl, ⟨rfl, rfl, rfl⟩,
    ⟨rfl, rfl, rfl, rfl, rfl, rfl, rfl, rfl, rfl, rfl, rfl, rfl, rfl, rfl, rfl⟩, rfl, rfl, rfl, rfl, rfl⟩

/-- An image spells a profile where each part that can fail gives a value and the length and the enables fit. -/
theorem decodeImage_isSome (bs : List Byte) :
    (decodeImage bs).isSome = true ↔
      ((flagOf (natAt bs 13 1)).isSome = true ∧ (flagOf (natAt bs 93 1)).isSome = true ∧ (flagOf (natAt bs 94 1)).isSome = true
        ∧ (flagOf (natAt bs 95 1)).isSome = true)
      ∧ ((List.range 4).mapM fun k => chanAt bs (96 + 8 * k)).isSome = true ∧ (sequencesAt bs 6 130).isSome = true
      ∧ ((List.range 8).mapM fun n => counterAt bs ((nextSeq bs)^[6] 130 + 8 * n)).isSome = true
      ∧ bs.length = (nextSeq bs)^[6] 130 + 77 ∧ natAt bs ((nextSeq bs)^[6] 130 + 65) 4 < 2 ^ 22 := by
  constructor
  · intro h
    obtain ⟨p, hp⟩ := Option.isSome_iff_exists.1 h
    obtain ⟨fin, hseqs, ⟨hauto, hov, huv, hoc⟩, hchans, hcounters, hlen, hen, -⟩ := decodeImage_eq_some hp
    rw [← sequencesAt_fin hseqs, hauto, hov, huv, hoc, hchans, hseqs, hcounters]
    exact ⟨⟨rfl, rfl, rfl, rfl⟩, rfl, rfl, rfl, hlen, hen⟩
  · rintro ⟨⟨hauto, hov, huv, hoc⟩, hchans, hseqs, hcounters, hlen, hen⟩
    obtain ⟨⟨qs, fin⟩, hqs⟩ := Option.isSome_iff_exists.1 hseqs
    obtain ⟨_, hauto⟩ := Option.isSome_iff_exists.1 hauto
    obtain ⟨_, hov⟩ := Option.isSome_iff_exists.1 hov
    obtain ⟨_, huv⟩ := Option.isSome_iff_exists.1 huv
    obtain ⟨_, hoc⟩ := Option.isSome_iff_exists.1 hoc
    obtain ⟨_, hchans⟩ := Option.isSome_iff_exists.1 hchans
    obtain ⟨_, hcounters⟩ := Option.isSome_iff_exists.1 hcounters
    rw [← sequencesAt_fin hqs] at hcounters hlen hen
    simp only [decodeImage, hauto, hov, huv, hoc, hchans, hqs, hcounters, Option.pure_def, Option.bind_eq_bind, Option.bind_some,
      if_pos (And.intro hlen hen), Option.isSome_some]

/-- The bytes that spell a profile, by the values of their codes, flags and counts (log 17). -/
theorem decodeImage_isSome_iff (bs : List Byte) :
    (decodeImage bs).isSome = true ↔
      natAt bs 13 1 ≤ 1 ∧ natAt bs 93 1 ≤ 1 ∧ natAt bs 94 1 ≤ 1 ∧ natAt bs 95 1 ≤ 1
      ∧ (∀ k, k < 4 → natAt bs (96 + 8 * k) 1 ≤ 4 ∧ natAt bs (103 + 8 * k) 1 ≤ 1)
      ∧ (∀ q, q < 6 → natAt bs ((nextSeq bs)^[q] 130) 1 ≤ 12 ∧ ∀ i, i < natAt bs ((nextSeq bs)^[q] 130) 1 →
          natAt bs ((nextSeq bs)^[q] 130 + 1 + 4 * i) 1 ≤ 7
          ∧ (natAt bs ((nextSeq bs)^[q] 130 + 1 + 4 * i) 1 = 5 → natAt bs ((nextSeq bs)^[q] 130 + 1 + 4 * i + 1) 1 ≤ 3))
      ∧ (∀ m, m < 8 → natAt bs ((nextSeq bs)^[6] 130 + 8 * m) 1 ≤ 11) ∧ bs.length = (nextSeq bs)^[6] 130 + 77
      ∧ natAt bs ((nextSeq bs)^[6] 130 + 65) 4 < 2 ^ 22 := by
  have hplace (k : Nat) : 96 + 8 * k + 7 = 103 + 8 * k := by omega
  simp only [decodeImage_isSome, flagOf_isSome, mapM_isSome, List.mem_range, chanAt_isSome, sequencesAt_isSome, stepAt_isSome,
    counterAt_isSome, hplace, and_assoc]

/-- An image that spells nothing does not validate. -/
theorem validImage_of_decode_none (h : decodeImage bs = none) : validImage bs = none := by rw [validImage, h, Option.filter_none]

end

/-! ## The images that validate (R114, R177) -/

theorem within_iff {lo hi n : Nat} : within lo hi n = true ↔ lo ≤ n ∧ n ≤ hi := decide_eq_true_iff

/-- END stands last and at no other place, and no SKIP_IF stands immediately before it. -/
def EndsRight (q : List SeqStep) : Prop :=
  (∀ i, i < q.length → (q[i]? = some .endSeq ↔ i + 1 = q.length)) ∧ ∀ i c, q[i]? = some (.skipIf c) → q[i + 1]? ≠ some .endSeq

theorem SeqStep.isSkip_iff {st : SeqStep} : st.isSkip = true ↔ ∃ c, st = .skipIf c := by
  cases st <;> simp [SeqStep.isSkip]

/-- The sequence behind a step that is not its last ends right where the whole does. -/
theorem endsRight_cons_iff (st next : SeqStep) (rest : List SeqStep) :
    EndsRight (st :: next :: rest) ↔ st ≠ .endSeq ∧ ¬ (st.isSkip = true ∧ next = .endSeq) ∧ EndsRight (next :: rest) := by
  simp only [EndsRight, List.length_cons, SeqStep.isSkip_iff]
  constructor
  · rintro ⟨hend, hskip⟩
    refine ⟨fun h => ?_, fun ⟨⟨c, hc⟩, hnext⟩ => hskip 0 c (by simp [hc]) (by simp [hnext]), fun i hi => ?_,
      fun i c h => hskip (i + 1) c h⟩
    · simpa [h] using hend 0
    · simpa using hend (i + 1) (by omega)
  · rintro ⟨hst, hnext, hend, hskip⟩
    refine ⟨fun i hi => ?_, fun i c h => ?_⟩
    · cases i with
      | zero => simp [hst]
      | succ i => simpa using hend i (by omega)
    · cases i with
      | zero => exact fun hn => hnext ⟨⟨c, by simpa using h⟩, by simpa using hn⟩
      | succ i => exact hskip i c h

theorem endsRight_iff (q : List SeqStep) : endsRight q = true ↔ EndsRight q := by
  induction q with
  | nil => simp [endsRight, EndsRight]
  | cons st q ih =>
    cases q with
    | nil => simp [endsRight, EndsRight]
    | cons next rest =>
      rw [endsRight_cons_iff, ← ih]
      simp [endsRight, and_assoc, imp_iff_not_or]

/-- A channel that a step names is one of the four and in use. -/
def Profile.usesChan (p : Profile) (k : Nat) : Prop := k < 4 ∧ (p.chans.getD k factoryChan).role ≠ .unused

/-- The terms of R114 on one step. -/
def Profile.stepTerms (p : Profile) (st : SeqStep) : Prop :=
  match st with
  | .close k | .opn k => p.usesChan k
  | .wait t => 1 ≤ t ∧ t ≤ 10000
  | .awaitLink x t | .awaitDecay x t => (1 ≤ x ∧ x ≤ 100) ∧ 1 ≤ t ∧ t ≤ 10000
  | .skipIf (.linkAtLeast x) => 1 ≤ x ∧ x ≤ 100
  | .skipIf (.closed k) | .skipIf (.opened k) => k < 4
  | .skipIf .allFresh | .sweep | .endSeq => True

theorem stepValid_iff (p : Profile) (st : SeqStep) : st.valid p.chans = true ↔ p.stepTerms st := by
  cases st with
  | close k | opn k => simp [SeqStep.valid, Profile.stepTerms, Profile.usesChan]
  | wait t => exact within_iff
  | awaitLink x t | awaitDecay x t => simp [SeqStep.valid, Profile.stepTerms, within_iff]
  | skipIf c => cases c <;> simp [SeqStep.valid, Profile.stepTerms, within_iff]
  | sweep | endSeq => simp [SeqStep.valid, Profile.stepTerms]

/-- The terms of R114 on one sequence. -/
def Profile.sequenceTerms (p : Profile) (q : List SeqStep) : Prop :=
  q.length ≤ 12 ∧ (∀ i, i < q.length → (q[i]? = some .endSeq ↔ i + 1 = q.length))
  ∧ (∀ i c, q[i]? = some (.skipIf c) → q[i + 1]? ≠ some .endSeq) ∧ ∀ st ∈ q, p.stepTerms st

theorem sequenceValid_iff (p : Profile) (q : List SeqStep) : sequenceValid p.chans q = true ↔ p.sequenceTerms q := by
  simp only [sequenceValid, Bool.and_eq_true, decide_eq_true_eq, endsRight_iff, List.all_eq_true, stepValid_iff, EndsRight,
    Profile.sequenceTerms, and_assoc]

/-- A number lies from `lo` to `hi`. -/
def Spans (lo n hi : Nat) : Prop := lo ≤ n ∧ n ≤ hi

/-- The terms of R177 and R114 on a profile's fields, in the order of the image. -/
def Profile.terms (p : Profile) : Prop :=
  Spans 1 p.moduleCount 12 ∧ (∀ k, k < p.moduleCount → Spans 4 (cellsAt p k) 16) ∧ population p ≤ 192
  ∧ (∀ c ∈ p.slots, Spans 1 c.period 65535 ∧ c.phase < c.period) ∧ p.convOffset ≤ 255 ∧ p.hopDelay ≤ 50 ∧ p.cellSpacing ≤ 100
  ∧ Spans 50 p.period 1000 ∧ Spans 100 p.ocLimit 20000 ∧ Spans 1 p.ocTime 1000 ∧ Spans 10 p.freshness 60000 ∧ Spans 10 p.minStep 20000
  ∧ Spans 100 p.refMaxAge 60000 ∧ p.filterShift ≤ 4 ∧ Spans 25000 p.ovLimit 50000 ∧ p.uvLimit ≤ 40000 ∧ p.uvLimit < p.ovLimit
  ∧ p.hysteresis ≤ 2000 ∧ Spans 1 p.debounce 8
  ∧ (∀ c ∈ p.chans, Spans 10 c.pullIn 250 ∧ Spans 64 c.holdWidth 255 ∧ Spans 5 c.makeMax 500 ∧ Spans 5 c.breakMax 500)
  ∧ p.hardBreakLimit ≤ 20000 ∧ (∀ q ∈ p.sequences, p.sequenceTerms q)
  ∧ Spans 1 p.logThreshold 64 ∧ Spans 1 p.sleepPeriod 65535 ∧ Spans 25000 p.sleepOv 50000 ∧ p.sleepUv ≤ 40000
  ∧ p.sleepUv < p.sleepOv ∧ Spans 1 p.selfDischarge 5000

theorem profileValid_iff (p : Profile) : p.valid = true ↔ p.terms := by
  simp only [Profile.valid, Bool.and_eq_true, decide_eq_true_eq, List.all_eq_true, List.mem_range, within_iff, SlotCfg.valid,
    ChanCfg.valid, sequenceValid_iff, Profile.terms, Spans, and_assoc]
  constructor
  · rintro ⟨a1, a2, a3, a4, a5, hhop, hspace, hconv, rest⟩
    exact ⟨a1, a2, a3, a4, a5, hconv, hhop, hspace, rest⟩
  · rintro ⟨a1, a2, a3, a4, a5, hconv, hhop, hspace, rest⟩
    exact ⟨a1, a2, a3, a4, a5, hhop, hspace, hconv, rest⟩

theorem validImage_of_decoded {bs : List Byte} {p : Profile} (h : decodeImage bs = some p) :
    (p.terms → validImage bs = some p) ∧ (¬ p.terms → validImage bs = none) := by
  rw [validImage, h, ← profileValid_iff]
  exact ⟨fun hv => by simp [hv], fun hv => by simp [hv]⟩

/-! ## The verification (R180, R181) -/

section
variable {s : State}

theorem maxGen_toNat (a b c : BitVec 32) : (maxGen a b c).toNat = max (max a.toNat b.toNat) c.toNat := by
  unfold maxGen
  simp only [BitVec.lt_def]
  split <;> split <;> omega

/-- The greatest of the generations that a commit counts from. -/
def State.topGen (s : State) : Nat := max (max (s.bankGen .a).toNat (s.bankGen .b).toNat) s.nvs.anchor.activeGen.toNat

theorem commitGen_of_lt (h : s.topGen < 2 ^ 32 - 1) : (commitGen s).toNat = s.topGen + 1 := by
  have hmax := maxGen_toNat (s.bankGen .a) (s.bankGen .b) s.nvs.anchor.activeGen
  rw [← State.topGen] at hmax
  rw [commitGen, if_neg (by intro hall; rw [hall, BitVec.toNat_allOnes] at hmax; omega), BitVec.toNat_add, hmax]
  exact Nat.mod_eq_of_lt (by simp; omega)

theorem commitGen_of_top (h : s.topGen = 2 ^ 32 - 1) : commitGen s = Config.generationPastEnd := by
  refine if_pos (BitVec.eq_of_toNat_eq ?_)
  rw [maxGen_toNat, BitVec.toNat_allOnes]
  exact h

theorem commitTarget_of_active {x : AB} (h : s.nvs.active = some x) : commitTarget s ≠ x := by
  rw [commitTarget, h]
  cases x <;> nofun

theorem commitTarget_of_mark {m : PendMark} (h : s.nvs.active = none) (hm : s.upd.mark = some m) : commitTarget s = m.bank := by
  rw [commitTarget, h, hm]

theorem commitTarget_of_factory (h : s.nvs.active = none) (hm : s.upd.mark = none) :
    commitTarget s = if s.bankGen .b < s.bankGen .a then .b else .a := by
  rw [commitTarget, h, hm]

/-- An image with its tag that validates is committed where the engine has room. -/
theorem verified_of_valid (h : s.upd.st = .verifying) (htag : Config.profileTag (stagedImage s) = s.upd.tag)
    (hv : validImage (stagedImage s) ≠ none) :
    verified s = if 4 ≤ s.nvs.queue.length then updFail .nvBusy s
      else (s.setNvs { s.nvs with queue := s.nvs.queue ++ [.bankCommit (commitTarget s) (commitGen s)] }).setUpd
        { s.upd with st := .committing, target := some (commitTarget s, commitGen s), stop := false } := by
  rw [verified, if_pos h]
  dsimp only
  rw [if_neg (not_not.2 htag), if_neg (by rwa [Option.isNone_iff_eq_none])]
  by_cases hfull : 4 ≤ s.nvs.queue.length
  · rw [offerOp_of_full (op := .bankCommit (commitTarget s) (commitGen s)) nofun hfull, if_pos hfull]
  · rw [offerOp_of_room (op := .bankCommit (commitTarget s) (commitGen s)) nofun (Nat.not_le.1 hfull), if_neg hfull]
    rfl

theorem verified_of_tag (h : s.upd.st = .verifying) (htag : Config.profileTag (stagedImage s) ≠ s.upd.tag) :
    verified s = updFail .tag s := by
  rw [verified, if_pos h]
  exact if_pos htag

theorem verified_of_invalid (h : s.upd.st = .verifying) (htag : Config.profileTag (stagedImage s) = s.upd.tag)
    (hv : validImage (stagedImage s) = none) : verified s = updFail .invalid s := by
  rw [verified, if_pos h]
  dsimp only
  rw [if_neg (not_not.2 htag), if_pos (by rw [hv]; rfl)]

end

/-- Settles O54: the ends of `verified`, the target and the generation by their cases, the layout from `decodeImage_eq_some`, the bytes that
spell a profile from `decodeImage_isSome_iff`, and the validation list from `profileValid_iff`. -/
theorem verificationEndsOrCommits : Obligations.VerificationEndsOrCommits := by
  refine ⟨fun s hst => ⟨fun htag => ?_, fun htag hv => ?_, fun htag hv hfull => ?_, fun htag hv hroom => ?_⟩,
    fun s hst => event_congr (verified_of_none hst),
    fun s => ⟨fun x => commitTarget_of_active, fun m => commitTarget_of_mark, fun hact hm => ⟨fun hlt => ?_, fun hle => ?_⟩,
      commitGen_of_lt, commitGen_of_top⟩,
    fun bs p h => ?_, fun bs => ⟨fun h => ?_, fun h => ?_⟩, fun bs p h => validImage_of_decoded h⟩
  · exact event_congr (verified_of_tag hst htag)
  · exact event_congr (verified_of_invalid hst htag hv)
  · exact event_congr ((verified_of_valid hst htag hv).trans (if_pos hfull))
  · exact event_congr ((verified_of_valid hst htag hv).trans (if_neg (Nat.not_le.2 hroom)))
  · exact (commitTarget_of_factory hact hm).trans (if_pos hlt)
  · exact (commitTarget_of_factory hact hm).trans (if_neg (BitVec.not_lt.2 hle))
  · obtain ⟨fin, hseqs, ⟨hauto, hov, huv, hoc⟩, hchans, hcounters, hlen, hen, henables, ⟨hcount, hcells, hslots⟩,
      ⟨hconv, hhop, hspace, hperiod, hocl, hoct, hfresh, hmin, href, hshift, hovl, huvl, hhyst, hdeb, hhard⟩,
      hthr, hsleep, hsov, hsuv, hself⟩ :=
      decodeImage_eq_some h
    obtain ⟨hqlen, rfl, hplaces⟩ := sequencesAt_eq_some hseqs
    obtain ⟨hclen, hchan⟩ := mapM_range_eq_some hchans
    obtain ⟨hmlen, hcounter⟩ := mapM_range_eq_some hcounters
    refine ⟨hlen, ⟨hcount, hcells⟩, flagOf_eq_some.1 hauto, hslots, hconv, hhop, hspace, hperiod, hocl, hoct, hfresh, hmin, href, hshift,
      hovl, huvl, hhyst, hdeb, flagOf_eq_some.1 hov, flagOf_eq_some.1 huv, flagOf_eq_some.1 hoc, hclen,
      fun k hk => chanAt_eq_some (hchan k hk _), hhard, hqlen, hplaces, hmlen, fun m hm => counterAt_eq_some (hcounter m hm _), hthr,
      ?_, hsleep, hsov, hsuv, hself⟩
    rw [henables]
    exact Nat.mod_eq_of_lt hen
  · exact Option.isSome_iff_exists.1 ((decodeImage_isSome_iff bs).2 h)
  · have hnone : decodeImage bs = none := by
      rw [← Option.not_isSome_iff_eq_none, decodeImage_isSome_iff]
      exact h
    exact ⟨hnone, validImage_of_decode_none hnone⟩

end Sys2Proof.Machine
end

section
/-! SUPPORT. The pack link: the check of a frame (R191, R193), the requests it answers itself (R199 to R201), the receive holding (R194)
and the receiver, byte by byte (R192, R193). -/
namespace Sys2Proof.Machine

/-! ## A frame and its check (R191, R193) -/

/-- A check's two bytes, low byte first. -/
theorem le16_eq (x : BitVec 16) : le16 x = [x.setWidth 8, (x >>> (8 : Nat)).setWidth 8] := by
  have hhigh : BitVec.ofNat 8 (x.toNat / 256) = (x >>> (8 : Nat)).setWidth 8 := by
    rw [← BitVec.ofNat_toNat, BitVec.toNat_ushiftRight, Nat.shiftRight_eq_div_pow]
  simp only [le16, leBytes, hhigh, BitVec.ofNat_toNat]

section
variable {type tag length : Byte} {payload : List Byte}

/-- A payload of the length that its length byte names, of 240 at the most, and two bytes more complete a frame. -/
theorem frameWhole_of_length (hlen : payload.length = length.toNat) (hmax : length.toNat ≤ 240) (c0 c1 : Byte) :
    frameWhole ([type, tag, length] ++ payload ++ [c0, c1]) = true := by
  simp [frameWhole, frameTooLong, hlen, Nat.not_lt.2 hmax]

/-- A complete frame is the frame it spells exactly when its last two bytes are the check of those before them. -/
theorem judgeFrame_append (hlen : payload.length = length.toNat) (c0 c1 : Byte) :
    judgeFrame ([type, tag, length] ++ payload ++ [c0, c1]) =
      if le16 (crc16 ([type, tag, length] ++ payload)) = [c0, c1] then some { type := type, tag := tag, payload := payload } else none := by
  have hhead : ([type, tag, length] ++ payload).length = length.toNat + 3 := by simp [hlen]
  have hpayload : (([type, tag, length] ++ payload ++ [c0, c1]).drop 3).take length.toNat = payload := List.take_left' hlen
  have hplace : (([type, tag, length] ++ payload ++ [c0, c1]).getD 2 0).toNat = length.toNat := rfl
  simp only [judgeFrame, hplace, List.take_left' hhead, List.drop_left' hhead, hpayload]
  rfl

end

/-- Settles O9: the length byte of a payload of at most 240 bytes is its length, so `frameWhole_of_length` and `judgeFrame_append` apply. -/
theorem framesAreJudgedByTheirCheck : Obligations.FramesAreJudgedByTheirCheck := by
  intro f c0 c1 hmax head check
  have hlen : f.payload.length = (BitVec.ofNat 8 f.payload.length).toNat := by
    rw [BitVec.toNat_ofNat]
    omega
  have hjudged : judgeFrame (head ++ [c0, c1]) = if le16 check = [c0, c1] then some f else none := judgeFrame_append hlen c0 c1
  have hcheck : le16 check = [c0, c1] ↔ c0 = check.setWidth 8 ∧ c1 = (check >>> (8 : Nat)).setWidth 8 := by
    rw [le16_eq]
    simp [eq_comm]
  refine ⟨frameWhole_of_length hlen (hlen ▸ hmax) c0 c1, fun h => ?_, fun h => ?_⟩
  · rw [hjudged, if_pos (hcheck.2 h)]
  · rw [hjudged, if_neg (mt hcheck.1 h)]

/-! ## RESET_PART (R201) -/

section
variable {s : State}

theorem ownResetPart_of_live (h : (∃ c ∈ s.kdr.chans, c.st = .closing ∨ c.st = .closed) ∨ s.seq.run.isSome = true) :
    ownResetPart s = refuse .live s := if_pos (by simpa using h)

theorem ownResetPart_of_still (hchans : ∀ c ∈ s.kdr.chans, c.st ≠ .closing ∧ c.st ≠ .closed) (hrun : s.seq.run = none) :
    ownResetPart s = refuse .ok s := if_neg (by simpa [hrun] using hchans)

/-- After the reply OK to RESET_PART the part resets (R201). -/
theorem transmitEnds_of_resetReply {tag : Byte} {body : ReplyBody}
    (h : s.pli.sending = some (.reply 0x23 tag { status := .ok, body := body })) :
    transmitEnds s = resetPart (s.setPli { s.pli with sending := none }) := by
  have hreset : (OutFrame.reply 0x23 tag { status := .ok, body := body }).isReset = true := rfl
  simp only [transmitEnds, h, hreset, if_true]

end

/-- Settles O30: the owning block's rule by what is live, and the end of the reply's frame. -/
theorem resetPartAfterItsReply : Obligations.ResetPartAfterItsReply := by
  refine ⟨fun s tag hs => ⟨fun hlive => ?_, fun hchans hrun => ?_⟩, fun s tag body h => ?_⟩
  · exact request_of_serving (r := .resetPart) hs rfl (ownResetPart_of_live hlive)
  · exact request_of_serving (r := .resetPart) hs rfl (ownResetPart_of_still hchans hrun)
  · rw [exec_transmitFrameEnd, transmitEnds_of_resetReply h]
    rfl

/-! ## The receive holding (R194) -/

/-- The receiver is off in SLEEP and SLEEP_SWEEP (R151). -/
theorem deaf_iff (m : Mode) : m.deaf = true ↔ m = .sleep ∨ m = .sleepSweep := by cases m <;> simp [Mode.deaf]

theorem deaf_of_hearing {m : Mode} (h : m ≠ .sleep) (h' : m ≠ .sleepSweep) : m.deaf = false := by
  simpa using mt (deaf_iff m).1 (not_or.2 ⟨h, h'⟩)

section
variable {s : State} {f g : InFrame}

theorem offerFrame_of_one (h : s.pli.holding = [g]) : offerFrame f s = s.setPli { s.pli with holding := [g, f] } := by
  rw [offerFrame, h]

theorem offerFrame_of_full (h : 2 ≤ s.pli.holding.length) : offerFrame f s = setCond .linkOverrun s := by
  rcases hhold : s.pli.holding with _ | ⟨_, _ | ⟨_, _⟩⟩
  · simp [hhold] at h
  · simp [hhold] at h
  · rw [offerFrame, hhold]

theorem frameArrives_of_hearing (h : s.pwr.mode ≠ .sleep) (h' : s.pwr.mode ≠ .sleepSweep) : frameArrives f s = offerFrame f s := by
  rw [frameArrives, deaf_of_hearing h h', if_neg nofun]

/-- Activity on the receive line while the receiver is off (R160, log 4). -/
theorem frameArrives_of_deaf (h : s.pwr.mode = .sleep ∨ s.pwr.mode = .sleepSweep) : frameArrives f s = hostArrive s :=
  if_pos ((deaf_iff _).2 h)

end

/-- Settles O32: the command is its frame's arrival, and the holding takes it by what it holds. -/
theorem requestsWaitOrOverrun : Obligations.RequestsWaitOrOverrun := by
  intro s tag r
  rw [exec_command]
  refine ⟨fun h h' => ⟨fun f hone => ?_, fun hfull => ?_⟩, fun hdeaf => event_congr (f := requestArrives tag r) (frameArrives_of_deaf hdeaf)⟩
  · exact event_congr (f := requestArrives tag r) ((frameArrives_of_hearing h h').trans (offerFrame_of_one hone))
  · exact event_congr (f := requestArrives tag r) ((frameArrives_of_hearing h h').trans (offerFrame_of_full hfull))

/-! ## The receiver (R192, R193) -/

section
variable {s : State} {bs : List Byte} {u : Time}

theorem idleWaitEnds_of_wait (h : s.pli.rx = .idleWait u) :
    idleWaitEnds s = (advanceTo u s).setPli { s.pli with rx := .hunting } := by
  simp only [idleWaitEnds, h, setRx, advanceTo_frame]

/-- A gap after a byte of an incomplete frame discards the frame. -/
theorem gapEnds_of_assembling (h : s.pli.rx = .assembling bs u) (hpart : frameWhole bs = false) :
    gapEnds s = linkError ((advanceTo u s).setPli { s.pli with rx := .hunting }) := by
  simp only [gapEnds, h, hpart, setRx, advanceTo_frame, Bool.false_eq_true, if_false]

/-- A complete frame whose check fails is a link error. -/
theorem frameJudged_of_failed (h : s.pli.rx = .assembling bs u) (hwhole : frameWhole bs = true) (hjudged : judgeFrame bs = none) :
    frameJudged s = linkError (setRx .hunting s) := by
  simp only [frameJudged, h, hwhole, hjudged, if_true]

/-! ### What the receiver still takes before a byte (log 26) -/

section
variable {start : Time}

theorem rxCatchUp_of_hunting (h : s.pli.rx = .hunting) : rxCatchUp start s = s := by rw [rxCatchUp, h]

theorem rxCatchUp_of_wait (h : s.pli.rx = .idleWait u) :
    rxCatchUp start s = if isEarlier start u then s else setRx .hunting s := by rw [rxCatchUp, h]

theorem rxCatchUp_of_incomplete (h : s.pli.rx = .assembling bs u) (hpart : frameWhole bs = false) :
    rxCatchUp start s = if isEarlier start u then s else linkError (setRx .hunting s) := by
  simp only [rxCatchUp, h, hpart, Bool.false_eq_true, if_false]

theorem rxCatchUp_of_complete (h : s.pli.rx = .assembling bs u) (hwhole : frameWhole bs = true) :
    rxCatchUp start s = frameJudged s := by
  simp only [rxCatchUp, h, hwhole, if_true]

end

/-! ### A byte, by the receiver's state (R192) -/

section
variable {b : Byte}

theorem takeByte_of_wait (h : s.pli.rx = .idleWait u) : takeByte b s = setRx (.idleWait (s.tim.packTime + 1000#32)) s := by
  rw [takeByte, h]
  rfl

theorem takeByte_of_hunting (h : s.pli.rx = .hunting) :
    takeByte b s = if b = 0xA5 then setRx (.assembling [] (s.tim.packTime + 1000#32)) s else s := by
  rw [takeByte, h]
  rfl

/-- A frame with a length byte above 240 takes no more bytes, and its gap begins again. -/
theorem takeByte_of_assembling (h : s.pli.rx = .assembling bs u) :
    takeByte b s = setRx (.assembling (if 3 ≤ bs.length ∧ 240 < (bs.getD 2 0).toNat then bs else bs ++ [b])
      (s.tim.packTime + 1000#32)) s := by
  rw [takeByte, h]
  simp only [frameTooLong, Bool.and_eq_true, decide_eq_true_eq]
  rfl

theorem byteArrives_of_deaf (h : s.pwr.mode = .sleep ∨ s.pwr.mode = .sleepSweep) : byteArrives b s = hostArrive s :=
  if_pos ((deaf_iff _).2 h)

theorem byteArrives_of_hearing (h : s.pwr.mode ≠ .sleep) (h' : s.pwr.mode ≠ .sleepSweep) :
    byteArrives b s = takeByte b (rxCatchUp (s.tim.packTime - 10#32) s) := by
  rw [byteArrives, deaf_of_hearing h h', if_neg nofun]
  rfl

/-- Where what the receiver had to take first begins the hunt, the hunt takes the byte, in the same pack time. -/
theorem byteArrives_of_caughtUp {t : State} (h : s.pwr.mode ≠ .sleep) (h' : s.pwr.mode ≠ .sleepSweep)
    (ht : rxCatchUp (s.tim.packTime - 10#32) s = t) (hrx : t.pli.rx = .hunting) :
    byteArrives b s = if b = 0xA5 then setRx (.assembling [] (s.tim.packTime + 1000#32)) t else t := by
  have htim : t.tim = s.tim := ht ▸ (rxCatchUp_frame ..).1
  rw [byteArrives_of_hearing h h', ht, takeByte_of_hunting hrx, htim]

/-- Where the receiver has nothing to take first, the byte is taken as the receiver stands. -/
theorem byteArrives_of_unchanged (h : s.pwr.mode ≠ .sleep) (h' : s.pwr.mode ≠ .sleepSweep)
    (hkeep : rxCatchUp (s.tim.packTime - 10#32) s = s) : byteArrives b s = takeByte b s := by
  rw [byteArrives_of_hearing h h', hkeep]

end

end

theorem exec_linkByteReceived (b : Byte) (s : State) : exec (.linkByteReceived b) s = event (byteArrives b) s := rfl

/-- Settles O56: the ends of the wait, of the gap and of the frame, and a byte by the receiver's state, once what the receiver still has to
take is taken. -/
theorem receiverAssemblesFrames : Obligations.ReceiverAssemblesFrames := by
  refine ⟨fun s u h => event_congr (idleWaitEnds_of_wait h), fun s bs u h hpart => event_congr (gapEnds_of_assembling h hpart),
    fun s bs u h hwhole => ⟨fun f hf => event_congr (frameJudged_of_held h hwhole hf),
      fun hf => event_congr (frameJudged_of_failed h hwhole hf)⟩,
    fun s b hdeaf => event_congr (byteArrives_of_deaf hdeaf), fun s b h h' => ?_⟩
  rw [exec_linkByteReceived]
  have hunts {t : State} (ht : rxCatchUp (s.tim.packTime - 10#32) s = t) (hrx : t.pli.rx = .hunting) :=
    event_congr (byteArrives_of_caughtUp (b := b) h h' ht hrx)
  have stays (hkeep : rxCatchUp (s.tim.packTime - 10#32) s = s) {t : State} (ht : takeByte b s = t) :=
    event_congr ((byteArrives_of_unchanged h h' hkeep).trans ht)
  refine ⟨fun u hrx hin => ?_, fun hrx hb => ?_, fun hrx hb => ?_, fun bs u hrx hpart hin => ?_,
    fun u hrx hout => ?_, fun bs u hrx hpart hout => ?_, fun bs u hrx hwhole => ⟨fun f hf => ?_, fun hf => ?_⟩⟩
  · exact stays ((rxCatchUp_of_wait hrx).trans (if_pos hin)) (takeByte_of_wait hrx)
  · exact stays (rxCatchUp_of_hunting hrx) ((takeByte_of_hunting hrx).trans (if_pos hb))
  · exact stays (rxCatchUp_of_hunting hrx) ((takeByte_of_hunting hrx).trans (if_neg hb))
  · exact stays ((rxCatchUp_of_incomplete hrx hpart).trans (if_pos hin)) (takeByte_of_assembling hrx)
  · exact hunts ((rxCatchUp_of_wait hrx).trans (if_neg (by simp [hout]))) rfl
  · exact hunts ((rxCatchUp_of_incomplete hrx hpart).trans (if_neg (by simp [hout]))) (by simp)
  · exact hunts ((rxCatchUp_of_complete hrx hwhole).trans (frameJudged_of_held hrx hwhole hf)) (by simp)
  · exact hunts ((rxCatchUp_of_complete hrx hwhole).trans (frameJudged_of_failed hrx hwhole hf)) (by simp)

/-! ## STATUS and IDENTIFY (R199, R200) -/

/-- A request that finds the holding empty, in a mode that hears and serves it, is answered by its owning block's rule (R151, R194, R195). -/
theorem request_of_served {s t : State} {tag : Byte} {r : Request} {st : Status} {body : ReplyBody} (hhold : s.pli.holding = [])
    (h : s.pwr.mode ≠ .sleep) (h' : s.pwr.mode ≠ .sleepSweep) (hserved : s.pwr.mode.serves r.code = true)
    (hread : parseArgs r.code.toNat r.payload = some r) (hown : own r (held tag r s) = (t, { status := st, body := body })) :
    request tag r s = .next (finish (replied tag r st body t)) := by
  have hanswer : answer (requestFrame tag r) (held tag r s) = (t, { status := st, body := body }) :=
    (answer_of_read (isRequestCode_code r) hserved hread).trans hown
  exact event_congr (f := requestArrives tag r) ((frameArrives_of_free hhold h h').trans (serve_of_answer hanswer))

/-- In every mode that hears, STATUS is served (R151). -/
theorem serves_status {m : Mode} (h : m ≠ .sleep) (h' : m ≠ .sleepSweep) : m.serves 0x21 = true := by
  cases m with
  | sleep => exact absurd rfl h
  | sleepSweep => exact absurd rfl h'
  | startup | run | sleepEntry | waking => rfl

/-- In every mode that hears but SLEEP_ENTRY, IDENTIFY is served (R151). -/
theorem serves_identify {m : Mode} (h : m ≠ .sleep) (h' : m ≠ .sleepSweep) (hentry : m ≠ .sleepEntry) : m.serves 0x22 = true := by
  cases m with
  | sleep => exact absurd rfl h
  | sleepSweep => exact absurd rfl h'
  | sleepEntry => exact absurd rfl hentry
  | startup | run | waking => rfl

/-- The stage that STATUS gives is sleep entry's or waking's, in its mode (R199). -/
theorem ownStatus_eq (s : State) : ownStatus s = okWith (.status {
    mode := s.pwr.mode
    startup := if s.pwr.mode = .startup then some s.stagesEnded else none
    stage := if s.pwr.mode = .sleepEntry then some s.pwr.entryStage
      else if s.pwr.mode = .waking then some s.pwr.wakeStage else none
    lastWake := s.pwr.lastWake, time := s.tim.packTime, alert := s.alert, noticePending := s.cnd.noticePending,
    wokePending := s.pwr.wokeFlag, held := s.pli.holding.length }) s := by
  rw [ownStatus]
  cases s.pwr.mode <;> rfl

/-- A byte of a number is eight of its bits. -/
theorem ofNat_div_pow_eq_extract {w : Nat} (x : BitVec w) (i : Nat) : BitVec.ofNat 8 (x.toNat / 256 ^ i) = x.extractLsb' (8 * i) 8 := by
  rw [BitVec.extractLsb', Nat.shiftRight_eq_div_pow, pow_mul]
  rfl

theorem getD_leBytes {w n : Nat} (x : BitVec w) (rest : List Byte) {i : Nat} (h : i < n) :
    (leBytes n x.toNat ++ rest).getD i 0 = x.extractLsb' (8 * i) 8 := by
  rw [List.getD_append _ _ _ _ (by rwa [length_leBytes]), leBytes_eq_map, ← ofNat_div_pow_eq_extract]
  simp [h]

/-- In IDENTIFY's reply frame the serial number stands behind the family code, the part code and the revision (R191, R202). -/
theorem identifyReply_fields (tag : Byte) (serial : BitVec 64) :
    ∃ rest, (OutFrame.reply 0x22 tag { status := .ok, body := .identify serial }).bytes.drop 5
      = [0x4E, 0x12, 0x04, 1] ++ (leBytes 8 serial.toNat ++ rest) := ⟨_, rfl⟩

/-- Settles O17: both requests are answered by their owning block's rule; the reply's bytes are literal but for the serial number's. -/
theorem statusAndIdentify : Obligations.StatusAndIdentify := by
  refine ⟨fun s tag hhold h h' => ⟨?_, fun hentry => ?_⟩, fun tag serial => ⟨rfl, rfl, rfl, fun i hi => ?_, rfl⟩⟩
  · exact request_of_served (r := .status) hhold h h' (serves_status h h') rfl (ownStatus_eq _)
  · exact request_of_served (r := .identify) hhold h h' (serves_identify h h' hentry) rfl rfl
  · obtain ⟨rest, hfields⟩ := identifyReply_fields tag serial
    rw [hfields, Nat.add_comm 4 i]
    exact getD_leBytes serial rest hi

end Sys2Proof.Machine
end

section
/-! SUPPORT. The payload of every request, read and spelled (R202), and the step on a queue that is not empty. -/
namespace Sys2Proof.Machine

/-! ## Bytes spelled again (R202) -/

/-- The bytes that spell a number are its bytes: `leNat_leBytes` the other way. -/
theorem leBytes_leNat (bs : List Byte) : leBytes bs.length (leNat bs) = bs := by
  induction bs with
  | nil => rfl
  | cons b bs ih =>
    have hb : b.toNat < 256 := b.isLt
    have hlow : BitVec.ofNat 8 (b.toNat + 256 * leNat bs) = b := by
      refine BitVec.eq_of_toNat_eq ?_
      rw [BitVec.toNat_ofNat]
      omega
    have hhigh : (b.toNat + 256 * leNat bs) / 256 = leNat bs := by omega
    rw [List.length_cons, leNat, leBytes, hlow, hhigh, ih]

/-- The bytes read as a word of their size are the word's bytes: `ofNat_leNat_leBytes` the other way. -/
theorem leBytes_ofNat_leNat {w n : Nat} (h : 2 ^ w = 256 ^ n) {bs : List Byte} (hlen : bs.length = n) :
    leBytes n (BitVec.ofNat w (leNat bs)).toNat = bs := by
  subst hlen
  rw [BitVec.toNat_ofNat, h, Nat.mod_eq_of_lt (leNat_lt bs), leBytes_leNat]

theorem leBytes_word16 (a b : Byte) : leBytes 2 (word16 a b).toNat = [a, b] := leBytes_ofNat_leNat (by decide) rfl

theorem leBytes_word24 (a b c : Byte) : leBytes 3 (word24 a b c).toNat = [a, b, c] := leBytes_ofNat_leNat (by decide) rfl

theorem leBytes_word32 (a b c d : Byte) : leBytes 4 (word32 a b c d).toNat = [a, b, c, d] := leBytes_ofNat_leNat (by decide) rfl

/-! ## Payloads (R195, R202) -/

/-- The bytes of UPDATE_BEGIN are its three words' bytes, one behind the other. -/
theorem payload_updateBegin_of_length {bs : List Byte} (h : bs.length = 22) :
    (Request.updateBegin (BitVec.ofNat 32 (leNat (bs.take 4))) (BitVec.ofNat 16 (leNat ((bs.drop 4).take 2)))
      (BitVec.ofNat 128 (leNat (bs.drop 6)))).payload = bs := by
  have hversion : (bs.take 4).length = 4 := by simp [h]
  have hlength : ((bs.drop 4).take 2).length = 2 := by simp [h]
  have htag : (bs.drop 6).length = 16 := by simp [h]
  have hrest : (bs.drop 4).take 2 ++ bs.drop 6 = bs.drop 4 := by
    simpa only [List.drop_drop] using List.take_append_drop 2 (bs.drop 4)
  rw [Request.payload, leBytes_ofNat_leNat (by decide) hversion, leBytes_ofNat_leNat (by decide) hlength,
    leBytes_ofNat_leNat (by decide) htag, List.append_assoc, hrest, List.take_append_drop]

/-- A request's payload reads back as the request; of the two payloads of no fixed length, the length is one that a frame may have. -/
theorem parseArgs_payload (r : Request) (hnumbers : ∀ ns, r = .clearOverflow ns → ns.length ≤ 8)
    (hdata : ∀ o d, r = .updateChunk o d → 1 ≤ d.length ∧ d.length ≤ 128) : parseArgs r.code.toNat r.payload = some r := by
  cases r with
  | sampleNow mask => exact parseArgs_sampleNow mask
  | clearConditions set => exact parseArgs_clearConditions set
  | setAlertEnable set => exact parseArgs_setAlertEnable set
  | setCounter number kind flags value reload => exact parseArgs_setCounter number kind flags value reload
  | clearOverflow numbers => exact parseArgs_clearOverflow (hnumbers numbers rfl)
  | updateBegin version length imageTag => exact parseArgs_updateBegin version length imageTag
  | updateChunk offset data =>
    obtain ⟨h1, h128⟩ := hdata offset data rfl
    exact parseArgs_updateChunk offset h1 h128
  | _ => rfl

/-- What a code and a payload read as spells both again, by the rows of the table of request codes; a payload of another length than
its row's does not read. -/
theorem spells_of_parseArgs : ∀ {code : Nat} {bs : List Byte} {r : Request}, parseArgs code bs = some r →
    r.code.toNat = code ∧ r.payload = bs
  | 0x03, bs, _, h => by
    rcases bs with _ | ⟨m0, _ | ⟨m1, _ | _⟩⟩ <;> cases h
    exact ⟨rfl, leBytes_word16 m0 m1⟩
  | 0x0C, bs, _, h | 0x0D, bs, _, h => by
    rcases bs with _ | ⟨s0, _ | ⟨s1, _ | ⟨s2, _ | ⟨s3, _ | _⟩⟩⟩⟩ <;> cases h
    exact ⟨rfl, leBytes_word32 s0 s1 s2 s3⟩
  | 0x14, bs, _, h => by
    rcases bs with _ | ⟨n, _ | ⟨k, _ | ⟨f, _ | ⟨v0, _ | ⟨v1, _ | ⟨v2, _ | ⟨r0, _ | ⟨r1, _ | ⟨r2, _ | _⟩⟩⟩⟩⟩⟩⟩⟩⟩ <;> cases h
    exact ⟨rfl, congrArg₂ (fun v r => [n] ++ [k] ++ [f] ++ v ++ r) (leBytes_word24 v0 v1 v2) (leBytes_word24 r0 r1 r2)⟩
  | 0x15, ns, _, h => by
    obtain ⟨-, ⟨⟩⟩ := Option.ite_none_right_eq_some.1 h
    exact ⟨rfl, rfl⟩
  | 0x1A, bs, _, h => by
    obtain ⟨hlen, ⟨⟩⟩ := Option.ite_none_right_eq_some.1 h
    exact ⟨rfl, payload_updateBegin_of_length hlen⟩
  | 0x1B, [], _, h | 0x1B, [_], _, h => nomatch h
  | 0x1B, o0 :: o1 :: d, _, h => by
    obtain ⟨-, ⟨⟩⟩ := Option.ite_none_right_eq_some.1 h
    exact ⟨rfl, congrArg (· ++ d) (leBytes_word16 o0 o1)⟩
  | 0x05, bs, _, h | 0x0A, bs, _, h => by
    rcases bs with _ | ⟨_, _ | ⟨_, _ | _⟩⟩ <;> cases h
    exact ⟨rfl, rfl⟩
  | 0x09, bs, _, h | 0x0F, bs, _, h | 0x11, bs, _, h | 0x17, bs, _, h | 0x18, bs, _, h => by
    rcases bs with _ | ⟨_, _ | _⟩ <;> cases h
    exact ⟨rfl, rfl⟩
  | 0x01, bs, _, h | 0x02, bs, _, h | 0x04, bs, _, h | 0x06, bs, _, h | 0x07, bs, _, h | 0x08, bs, _, h | 0x0B, bs, _, h
  | 0x0E, bs, _, h | 0x10, bs, _, h | 0x12, bs, _, h | 0x13, bs, _, h | 0x16, bs, _, h | 0x19, bs, _, h | 0x1C, bs, _, h
  | 0x1D, bs, _, h | 0x1E, bs, _, h | 0x1F, bs, _, h | 0x20, bs, _, h | 0x21, bs, _, h | 0x22, bs, _, h | 0x23, bs, _, h => by
    rcases bs with _ | _ <;> cases h
    exact ⟨rfl, rfl⟩
  | 0, _, r, h => nomatch (show none = some r from h)
  | _ + 0x24, _, r, h => nomatch (show none = some r from h)

/-- Settles O8: `parseArgs_payload` one way, `spells_of_parseArgs` the other. -/
theorem requestPayloadsReadBack : Obligations.RequestPayloadsReadBack :=
  ⟨parseArgs_payload, fun _ _ _ => spells_of_parseArgs⟩

/-! ## The step (log 1) -/

theorem step_of_pending_cons {c : Instr} {rest : List Instr} {s : State} (h : s.pending = c :: rest) :
    step s = exec c (s.setPending rest) := by
  rw [step, h]

/-- Settles O1. -/
theorem stepTakesTheFrontCommand : Obligations.StepTakesTheFrontCommand := fun _ _ _ => step_of_pending_cons

end Sys2Proof.Machine
end
